-- ==== Sys2Proof/Word.lean ====
section
/-! DEFINITION. The word types of the Nampora 76: what the manual lays out in bits (bytes of a port
message, the 16-bit latch and aux words, the 24-bit slots of a link frame, counters that wrap) is a
bit vector; samples, gains and counts are numbers. -/

namespace Sys2Proof

/-- One byte of a control port line (section 10.2). -/
abbrev Byte := BitVec 8

/-- A 16-bit word: the latch word (R91), the aux words (R185, R186), the generation (R88). -/
abbrev Word16 := BitVec 16

/-- One tag word or slot of a converter link frame (section 9.1). -/
abbrev Word24 := BitVec 24

/-- A 32-bit count that wraps: block count (R1), beat count, tempo frame count (R116); also the
masks of LATCH and the class set of SUBSCRIBE as the body carries them (R190). -/
abbrev Word32 := BitVec 32

end Sys2Proof
end

