-- ==== Sys2Proof/Syntax.lean ====
section
/-! DEFINITION. The commands of the Nampora 76: `Instr`, one constructor per row of
spec/opcode_table.json, with the operands each carries.  The thirty-six requests of the catalogue
(section 10.5) carry the port, the request tag and the fields of the request; the events carry what
the outside world brings with them (a byte, a frame, an edge) and nothing else. -/

namespace Sys2Proof

/-- The three control ports (R188). -/
inductive Port where
  | p0 | p1 | p2
  deriving DecidableEq, Repr

/-- The number of a port, 0 to 2 (R198). -/
def Port.num : Port → Nat
  | .p0 => 0
  | .p1 => 1
  | .p2 => 2

/-- The direction of an edge on the tempo pulse input TPI (R125). -/
inductive EdgeDir where
  | rising | falling
  deriving DecidableEq, Repr

/-- The condition of a RECALL (R93): a latch bit, a polarity, preset B and the toggle-after flag,
all present or all absent (R190). -/
structure RecallCond where
  bit : Int
  polarity : Int
  presetB : Int
  toggle : Bool
  deriving DecidableEq, Repr

/-- The fields of RECALL (R93). -/
structure RecallReq where
  presetA : Int
  cond : Option RecallCond
  fade : Option Int
  deriving DecidableEq, Repr

/-- The fields of EDIT (R110). -/
structure EditReq where
  stage : Int
  param : Int
  value : Int
  expected : Option Int
  deriving DecidableEq, Repr

/-- The fields of BYPASS-STAGE (R112). -/
structure BypassReq where
  stage : Int
  enabled : Bool
  expected : Option Int
  deriving DecidableEq, Repr

/-- The fields of STORE (R81). -/
structure StoreReq where
  slot : Int
  name : Option (List Byte)
  deriving DecidableEq, Repr

/-- A stage entry as a request carries it (section 10.2): its kind and spill as the codes sent, its
sync byte (absent for 255), and its parameter values, none of them judged yet (R75 judges them). -/
structure EntryReq where
  kind : Nat
  enabled : Bool
  spill : Nat
  sync : Option Nat
  params : List Int
  deriving DecidableEq, Repr

/-- The fields of WRITE-PRESET (R75 to R77). -/
structure WritePresetReq where
  slot : Int
  name : List Byte
  entries : List EntryReq
  tempo : Option Int
  fade : Option Int
  level : Int
  deriving DecidableEq, Repr

/-- The field of READ-PRESET (R79). -/
structure ReadPresetReq where
  slot : Int
  deriving DecidableEq, Repr

/-- The field of ERASE-PRESET (R80). -/
structure ErasePresetReq where
  slot : Int
  deriving DecidableEq, Repr

/-- The masks of LATCH, read as unsigned (R190); bits above 15 are ignored (R91). -/
structure LatchReq where
  set : Word32
  clear : Word32
  toggle : Word32
  deriving DecidableEq, Repr

/-- The fields of SET-SCENE-OPTIONS (R84). -/
structure SceneOptionsReq where
  safe : Option Int
  fade : Option Int
  deriving DecidableEq, Repr

/-- The fields of WRITE-CURVE (R49). -/
structure WriteCurveReq where
  slot : Int
  points : List Int
  deriving DecidableEq, Repr

/-- The fields of WRITE-IMPULSE (R50). -/
structure WriteImpulseReq where
  slot : Int
  taps : List Int
  deriving DecidableEq, Repr

/-- The field of METERS (R23). -/
structure MetersReq where
  clear : Bool
  deriving DecidableEq, Repr

/-- The fields of SET-TAILS (R70). -/
structure SetTailsReq where
  drain : Option Int
  life : Option Int
  cut : Option Bool
  deriving DecidableEq, Repr

/-- The fields of TEMPO-SOURCE (R122), the choices as the numbers sent. -/
structure TempoSourceReq where
  source : Int
  edge : Option Int
  n : Option Int
  deriving DecidableEq, Repr

/-- The fields of TEMPO-SET (R121). -/
structure TempoSetReq where
  period : Int
  restart : Bool
  deriving DecidableEq, Repr

/-- The field of TUNER-MODE (R145). -/
structure TunerModeReq where
  mode : Int
  deriving DecidableEq, Repr

/-- The fields of TUNER-SET (R148). -/
structure TunerSetReq where
  reference : Option Int
  k : Option Int
  floor : Option Int
  deriving DecidableEq, Repr

/-- The field of TUNER-READ (R149). -/
structure TunerReadReq where
  note : Option Int
  deriving DecidableEq, Repr

/-- The field of MUTE (R155), the choice as the number sent. -/
structure MuteReq where
  value : Int
  deriving DecidableEq, Repr

/-- The field of RESUME (R161), the choice as the number sent. -/
structure ResumeReq where
  mode : Int
  deriving DecidableEq, Repr

/-- The fields of SET-PROTECTION (R164). -/
structure ProtectionReq where
  mode : Option Int
  limit : Option Int
  policy : Option Int
  deriving DecidableEq, Repr

/-- The fields of CONV-READ (R182). -/
structure ConvReadReq where
  target : Int
  index : Int
  deriving DecidableEq, Repr

/-- The fields of CONV-WRITE (R182). -/
structure ConvWriteReq where
  target : Int
  index : Int
  data : Int
  deriving DecidableEq, Repr

/-- The class set of SUBSCRIBE, read as unsigned (R190, R195). -/
structure SubscribeReq where
  classes : Word32
  deriving DecidableEq, Repr

/-- A request of the catalogue (section 10.5) with its fields. -/
inductive Request where
  | recall (r : RecallReq)
  | edit (r : EditReq)
  | bypassStage (r : BypassReq)
  | store (r : StoreReq)
  | writePreset (r : WritePresetReq)
  | readPreset (r : ReadPresetReq)
  | erasePreset (r : ErasePresetReq)
  | latch (r : LatchReq)
  | sceneRead
  | setSceneOptions (r : SceneOptionsReq)
  | writeCurve (r : WriteCurveReq)
  | writeImpulse (r : WriteImpulseReq)
  | meters (r : MetersReq)
  | setTails (r : SetTailsReq)
  | tempoSource (r : TempoSourceReq)
  | tempoSet (r : TempoSetReq)
  | tap
  | tempoRead
  | tunerMode (r : TunerModeReq)
  | tunerSet (r : TunerSetReq)
  | tunerRead (r : TunerReadReq)
  | mute (r : MuteReq)
  | resume (r : ResumeReq)
  | faultRead
  | failoverRead
  | failoverClear
  | setProtection (r : ProtectionReq)
  | linkStart
  | linkRest
  | linkWake
  | convRead (r : ConvReadReq)
  | convWrite (r : ConvWriteReq)
  | auxRead
  | subscribe (r : SubscribeReq)
  | identify
  | restart
  deriving DecidableEq, Repr

/-- One incoming converter frame of one line (section 9.1): the tag word and the seven slots. -/
structure InFrame where
  tag : Word24
  slot1 : Word24
  slot2 : Word24
  slot3 : Word24
  slot4 : Word24
  slot5 : Word24
  slot6 : Word24
  slot7 : Word24
  deriving DecidableEq, Repr

/-- The commands of the part: one constructor per row of spec/opcode_table.json.  A request command
is the take of that request, with its tag, from the port named (R192); an event command is the
occurrence of that event. -/
inductive Instr where
  -- requests (section 10.5)
  | recall (p : Port) (tag : Byte) (r : RecallReq)
  | edit (p : Port) (tag : Byte) (r : EditReq)
  | bypassStage (p : Port) (tag : Byte) (r : BypassReq)
  | store (p : Port) (tag : Byte) (r : StoreReq)
  | writePreset (p : Port) (tag : Byte) (r : WritePresetReq)
  | readPreset (p : Port) (tag : Byte) (r : ReadPresetReq)
  | erasePreset (p : Port) (tag : Byte) (r : ErasePresetReq)
  | latch (p : Port) (tag : Byte) (r : LatchReq)
  | sceneRead (p : Port) (tag : Byte)
  | setSceneOptions (p : Port) (tag : Byte) (r : SceneOptionsReq)
  | writeCurve (p : Port) (tag : Byte) (r : WriteCurveReq)
  | writeImpulse (p : Port) (tag : Byte) (r : WriteImpulseReq)
  | meters (p : Port) (tag : Byte) (r : MetersReq)
  | setTails (p : Port) (tag : Byte) (r : SetTailsReq)
  | tempoSource (p : Port) (tag : Byte) (r : TempoSourceReq)
  | tempoSet (p : Port) (tag : Byte) (r : TempoSetReq)
  | tap (p : Port) (tag : Byte)
  | tempoRead (p : Port) (tag : Byte)
  | tunerMode (p : Port) (tag : Byte) (r : TunerModeReq)
  | tunerSet (p : Port) (tag : Byte) (r : TunerSetReq)
  | tunerRead (p : Port) (tag : Byte) (r : TunerReadReq)
  | mute (p : Port) (tag : Byte) (r : MuteReq)
  | resume (p : Port) (tag : Byte) (r : ResumeReq)
  | faultRead (p : Port) (tag : Byte)
  | failoverRead (p : Port) (tag : Byte)
  | failoverClear (p : Port) (tag : Byte)
  | setProtection (p : Port) (tag : Byte) (r : ProtectionReq)
  | linkStart (p : Port) (tag : Byte)
  | linkRest (p : Port) (tag : Byte)
  | linkWake (p : Port) (tag : Byte)
  | convRead (p : Port) (tag : Byte) (r : ConvReadReq)
  | convWrite (p : Port) (tag : Byte) (r : ConvWriteReq)
  | auxRead (p : Port) (tag : Byte)
  | subscribe (p : Port) (tag : Byte) (r : SubscribeReq)
  | identify (p : Port) (tag : Byte)
  | restart (p : Port) (tag : Byte)
  -- a taken request that cannot be read (R192): the body as received
  | unknownRequestKind (p : Port) (body : List Byte)
  -- events of the ports and resets
  | restartApply
  | powerOnAssert
  | powerOnRelease
  | rxByte (p : Port) (b : Byte) (framingError : Bool)
  | rxInterbyteTimeout (p : Port)
  | replySendStart (p : Port)
  | noticeSendStart (p : Port)
  | txMessageEnd (p : Port)
  -- events of the link frames, the blocks and the passes
  | frameReceived (line0 : InFrame) (line1 : InFrame)
  | frameSent
  | blockBoundary
  | passComplete
  | tailDrainExpiry
  | tailLifeExpiry
  | grantAfterReclaim
  | startingComplete
  | engineAutoStart
  | endOfPrepare
  | commit
  | gapInEnd
  | pendingRecallTake
  -- events of the tempo generator and the tuner
  | beatCounterUnderflow
  | beatLampOff
  | tapTimeout
  | pulseEdge (d : EdgeDir)
  | pulseLost
  | tunerTimeout
  -- events of output protection and the link
  | runaway
  | gainReachesMuted
  | gainReachesOpen
  | relayTakesTarget
  | relayHoldEnd
  | linkRestFinalStep
  | frameLossExpiry
  | coldStartExpiry
  | converterWake
  | wakeDeferralExpiry
  | wakingExpiry
  | convReadCompletion
  | convReadTimeout
  | levelWriteJoin
  deriving DecidableEq, Repr

/-- The command that takes a given request from a given port under a given tag. -/
def Request.toInstr (p : Port) (tag : Byte) : Request → Instr
  | .recall r => .recall p tag r
  | .edit r => .edit p tag r
  | .bypassStage r => .bypassStage p tag r
  | .store r => .store p tag r
  | .writePreset r => .writePreset p tag r
  | .readPreset r => .readPreset p tag r
  | .erasePreset r => .erasePreset p tag r
  | .latch r => .latch p tag r
  | .sceneRead => .sceneRead p tag
  | .setSceneOptions r => .setSceneOptions p tag r
  | .writeCurve r => .writeCurve p tag r
  | .writeImpulse r => .writeImpulse p tag r
  | .meters r => .meters p tag r
  | .setTails r => .setTails p tag r
  | .tempoSource r => .tempoSource p tag r
  | .tempoSet r => .tempoSet p tag r
  | .tap => .tap p tag
  | .tempoRead => .tempoRead p tag
  | .tunerMode r => .tunerMode p tag r
  | .tunerSet r => .tunerSet p tag r
  | .tunerRead r => .tunerRead p tag r
  | .mute r => .mute p tag r
  | .resume r => .resume p tag r
  | .faultRead => .faultRead p tag
  | .failoverRead => .failoverRead p tag
  | .failoverClear => .failoverClear p tag
  | .setProtection r => .setProtection p tag r
  | .linkStart => .linkStart p tag
  | .linkRest => .linkRest p tag
  | .linkWake => .linkWake p tag
  | .convRead r => .convRead p tag r
  | .convWrite r => .convWrite p tag r
  | .auxRead => .auxRead p tag
  | .subscribe r => .subscribe p tag r
  | .identify => .identify p tag
  | .restart => .restart p tag

end Sys2Proof
end

