-- ==== Sys2Proof/Decode.lean ====
section
/-! DEFINITION. Reading.  `readRequest` reads a request's body (section 10.2, R190, R192) into the
request it stands for, or says why it cannot be read; `writeRequest`, after it, writes a request's
body.  `decodeTableWord` is the host's: no row of spec/opcode_table.json carries bits, so no word
spells a command. -/

namespace Sys2Proof

/-- The command that a word spells by the table's bits: none, since the table gives no row bits. -/
def decodeTableWord (_nbits _w : Nat) : Option Instr := none

/-! ### Field items (R190) -/

/-- How a field's value is read (R190). -/
inductive FieldKind where
  | int | uint | flag | text | nums (width : Nat) | records
  deriving DecidableEq, Repr

/-- One field of the request catalogue (section 10.5): how it is read, and whether it is optional. -/
structure FieldSpec where
  kind : FieldKind
  required : Bool
  deriving DecidableEq, Repr

/-- A field item as it stands in a body: its id and its value bytes. -/
structure Item where
  id : Nat
  value : List Byte
  deriving DecidableEq, Repr

/-- The field list of a kind code, in field id order (section 10.5); none for the codes that name no
request. RECALL's toggle-after flag is read as a yes-or-no field (entry 74). -/
def requestFields (kind : Nat) : Option (List FieldSpec) :=
  match kind with
  | 1 => some [⟨.int, true⟩, ⟨.int, false⟩, ⟨.int, false⟩, ⟨.int, false⟩, ⟨.flag, false⟩, ⟨.int, false⟩]
  | 2 => some [⟨.int, true⟩, ⟨.int, true⟩, ⟨.int, true⟩, ⟨.int, false⟩]
  | 3 => some [⟨.int, true⟩, ⟨.flag, true⟩, ⟨.int, false⟩]
  | 4 => some [⟨.int, true⟩, ⟨.text, false⟩]
  | 5 => some [⟨.int, true⟩, ⟨.text, true⟩, ⟨.records, true⟩, ⟨.int, false⟩, ⟨.int, false⟩, ⟨.int, true⟩]
  | 6 => some [⟨.int, true⟩]
  | 7 => some [⟨.int, true⟩]
  | 8 => some [⟨.uint, true⟩, ⟨.uint, true⟩, ⟨.uint, true⟩]
  | 9 => some []
  | 10 => some [⟨.int, false⟩, ⟨.int, false⟩]
  | 11 => some [⟨.int, true⟩, ⟨.nums 2, true⟩]
  | 12 => some [⟨.int, true⟩, ⟨.nums 2, true⟩]
  | 13 => some [⟨.flag, true⟩]
  | 14 => some [⟨.int, false⟩, ⟨.int, false⟩, ⟨.flag, false⟩]
  | 15 => some [⟨.int, true⟩, ⟨.int, false⟩, ⟨.int, false⟩]
  | 16 => some [⟨.int, true⟩, ⟨.flag, true⟩]
  | 17 => some []
  | 18 => some []
  | 19 => some [⟨.int, true⟩]
  | 20 => some [⟨.int, false⟩, ⟨.int, false⟩, ⟨.int, false⟩]
  | 21 => some [⟨.int, false⟩]
  | 22 => some [⟨.int, true⟩]
  | 23 => some [⟨.int, true⟩]
  | 24 => some []
  | 25 => some []
  | 26 => some []
  | 27 => some [⟨.int, false⟩, ⟨.int, false⟩, ⟨.int, false⟩]
  | 28 => some []
  | 29 => some []
  | 30 => some []
  | 31 => some [⟨.int, true⟩, ⟨.int, true⟩]
  | 32 => some [⟨.int, true⟩, ⟨.int, true⟩, ⟨.int, true⟩]
  | 33 => some []
  | 34 => some [⟨.uint, true⟩]
  | 35 => some []
  | 36 => some []
  | _ => none

/-- An unsigned number, low byte first. -/
def leNat : List Byte → Nat
  | [] => 0
  | b :: bs => b.toNat + 256 * leNat bs

/-- A two's-complement number, low byte first (R190). -/
def leInt (bs : List Byte) : Int :=
  if 2 * leNat bs < 256 ^ bs.length then (leNat bs : Int)
  else (leNat bs : Int) - (256 ^ bs.length : Nat)

/-- The items of a body after its tag and kind; the second part is the id of an item that does not
lie wholly within the body, where there is one.  The fuel is the number of bytes. -/
def readItems : Nat → List Byte → List Item × Option Nat
  | 0, _ => ([], none)
  | _ + 1, [] => ([], none)
  | _ + 1, [i] => ([], some i.toNat)
  | _ + 1, [i, _] => ([], some i.toNat)
  | fuel + 1, i :: lo :: hi :: rest =>
    let n := lo.toNat + 256 * hi.toNat
    if rest.length < n then ([], some i.toNat)
    else
      let more := readItems fuel (rest.drop n)
      ({ id := i.toNat, value := rest.take n } :: more.1, more.2)

/-- The field specification an item's id names; ids count from 1. -/
def specOf (fields : List FieldSpec) (id : Nat) : Option FieldSpec :=
  if id = 0 then none else fields[id - 1]?

/-- How the field an item's id names is read. -/
def kindOfId (fields : List FieldSpec) (id : Nat) : Option FieldKind :=
  (specOf fields id).map FieldSpec.kind

/-- Check 3 of R192 for one whole item: an integer value is 1 to 4 bytes long. -/
def Item.widthOk (fields : List FieldSpec) (it : Item) : Bool :=
  match kindOfId fields it.id with
  | some .int => 1 ≤ it.value.length && it.value.length ≤ 4
  | some .uint => 1 ≤ it.value.length && it.value.length ≤ 4
  | _ => true

/-- Check 5 of R192 for one item: a list is a whole number of elements, a stage entry at least 4
bytes with its parameter bytes a whole number of 3-byte values. -/
def Item.listOk (fields : List FieldSpec) (it : Item) : Bool :=
  match kindOfId fields it.id with
  | some (.nums w) => it.value.length % w == 0
  | some .records => 4 ≤ it.value.length && (it.value.length - 4) % 3 == 0
  | _ => true

/-- Check 6 of R192 for one item: a yes-or-no value is 0 or 1; the enabled byte of a stage entry is
such a value too (entry 12). -/
def Item.flagOk (fields : List FieldSpec) (it : Item) : Bool :=
  match kindOfId fields it.id with
  | some .flag => it.value == [0#8] || it.value == [1#8]
  | some .records => it.value.getD 1 0#8 == 0#8 || it.value.getD 1 0#8 == 1#8
  | _ => true

/-- Whether an id may repeat: only that of a list of records (R190). -/
def repeats (fields : List FieldSpec) (id : Nat) : Bool :=
  kindOfId fields id == some .records

/-- Check 4 of R192: the first item whose id is not in the field list, or repeats. -/
def idFault (fields : List FieldSpec) : List Nat → List Item → Option Nat
  | _, [] => none
  | seen, it :: its =>
    if (specOf fields it.id).isNone then some it.id
    else if seen.contains it.id && !repeats fields it.id then some it.id
    else idFault fields (it.id :: seen) its

/-- The value of the first item with an id. -/
def fieldOf (items : List Item) (id : Nat) : Option (List Byte) :=
  (items.find? (·.id == id)).map (·.value)

/-- Check 7 of R192: every field that is not optional is present. -/
def required (fields : List FieldSpec) (items : List Item) : Bool :=
  (List.range fields.length).all fun i =>
    match fields[i]? with
    | some f => !f.required || (fieldOf items (i + 1)).isSome
    | none => true

/-- Check 7 of R192: the four parts of a RECALL condition go together (R190). -/
def groupsWhole (kind : Nat) (items : List Item) : Bool :=
  if kind = 1 then
    let have4 := [2, 3, 4, 5].map fun i => (fieldOf items i).isSome
    have4.all id || have4.all (!·)
  else true

/-- The id of the first item that fails a check. -/
def firstFault (ok : Item → Bool) (items : List Item) : Option Nat :=
  (items.find? fun it => !ok it).map (·.id)

/-- Split into pieces of w bytes; the fuel is the number of bytes. -/
def pieces (w : Nat) : Nat → List Byte → List (List Byte)
  | 0, _ => []
  | _ + 1, [] => []
  | fuel + 1, bs => bs.take w :: pieces w fuel (bs.drop w)

/-- A list of numbers of w bytes each (R190). -/
def readNums (w : Nat) (bs : List Byte) : List Int := (pieces w bs.length bs).map leInt

/-- A stage entry of the fixed layout of section 10.2. -/
def readEntry (bs : List Byte) : EntryReq where
  kind := (bs.getD 0 0#8).toNat
  enabled := bs.getD 1 0#8 == 1#8
  spill := (bs.getD 2 0#8).toNat
  sync := if bs.getD 3 0#8 == 255#8 then none else some (bs.getD 3 0#8).toNat
  params := readNums 3 (bs.drop 4)

/-- The request of a kind code from items that passed the checks of R192. -/
def requestOf (kind : Nat) (items : List Item) : Option Request :=
  let gi (i : Nat) : Int := leInt ((fieldOf items i).getD [])
  let oi (i : Nat) : Option Int := (fieldOf items i).map leInt
  let gu (i : Nat) : Word32 := BitVec.ofNat 32 (leNat ((fieldOf items i).getD []))
  let gb (i : Nat) : Bool := fieldOf items i == some [1#8]
  let ob (i : Nat) : Option Bool := (fieldOf items i).map (· == [1#8])
  match kind with
  | 1 => some (.recall {
      presetA := gi 1
      cond := if (fieldOf items 2).isSome then
          some { bit := gi 2, polarity := gi 3, presetB := gi 4, toggle := gb 5 } else none
      fade := oi 6 })
  | 2 => some (.edit { stage := gi 1, param := gi 2, value := gi 3, expected := oi 4 })
  | 3 => some (.bypassStage { stage := gi 1, enabled := gb 2, expected := oi 3 })
  | 4 => some (.store { slot := gi 1, name := fieldOf items 2 })
  | 5 => some (.writePreset {
      slot := gi 1
      name := (fieldOf items 2).getD []
      entries := (items.filter (·.id == 3)).map (readEntry ·.value)
      tempo := oi 4
      fade := oi 5
      level := gi 6 })
  | 6 => some (.readPreset { slot := gi 1 })
  | 7 => some (.erasePreset { slot := gi 1 })
  | 8 => some (.latch { set := gu 1, clear := gu 2, toggle := gu 3 })
  | 9 => some .sceneRead
  | 10 => some (.setSceneOptions { safe := oi 1, fade := oi 2 })
  | 11 => some (.writeCurve { slot := gi 1, points := readNums 2 ((fieldOf items 2).getD []) })
  | 12 => some (.writeImpulse { slot := gi 1, taps := readNums 2 ((fieldOf items 2).getD []) })
  | 13 => some (.meters { clear := gb 1 })
  | 14 => some (.setTails { drain := oi 1, life := oi 2, cut := ob 3 })
  | 15 => some (.tempoSource { source := gi 1, edge := oi 2, n := oi 3 })
  | 16 => some (.tempoSet { period := gi 1, restart := gb 2 })
  | 17 => some .tap
  | 18 => some .tempoRead
  | 19 => some (.tunerMode { mode := gi 1 })
  | 20 => some (.tunerSet { reference := oi 1, k := oi 2, floor := oi 3 })
  | 21 => some (.tunerRead { note := oi 1 })
  | 22 => some (.mute { value := gi 1 })
  | 23 => some (.resume { mode := gi 1 })
  | 24 => some .faultRead
  | 25 => some .failoverRead
  | 26 => some .failoverClear
  | 27 => some (.setProtection { mode := oi 1, limit := oi 2, policy := oi 3 })
  | 28 => some .linkStart
  | 29 => some .linkRest
  | 30 => some .linkWake
  | 31 => some (.convRead { target := gi 1, index := gi 2 })
  | 32 => some (.convWrite { target := gi 1, index := gi 2, data := gi 3 })
  | 33 => some .auxRead
  | 34 => some (.subscribe { classes := gu 1 })
  | 35 => some .identify
  | 36 => some .restart
  | _ => none

/-- What a body reads as: a request under its tag, or a body that fails a check of R192, with its
tag, the kind as received (0 when it holds none) and the id of the first item at fault. -/
inductive ReadResult where
  | request (tag : Byte) (q : Request)
  | bad (tag : Byte) (kind : Nat) (item : Option Nat)
  deriving DecidableEq, Repr

/-- The checks of R192 on the items of a body, in order: none when all pass, else the item at fault
where an item is concerned. Check 7 reports no item, for a missing field and for a group that is not
whole (entry 75). -/
def bodyFault (kind : Nat) (fields : List FieldSpec) (items : List Item) (cutOff : Option Nat) :
    Option (Option Nat) :=
  match firstFault (Item.widthOk fields) items with
  | some i => some (some i)
  | none =>
    match cutOff with
    | some i => some (some i)
    | none =>
      match idFault fields [] items with
      | some i => some (some i)
      | none =>
        match firstFault (Item.listOk fields) items with
        | some i => some (some i)
        | none =>
          match firstFault (Item.flagOk fields) items with
          | some i => some (some i)
          | none => if required fields items && groupsWhole kind items then none else some none

/-- Read a request's body by the checks of R192, in their order. -/
def readRequest (body : List Byte) : ReadResult :=
  match body with
  | [] => .bad 0 0 none
  | [tag] => .bad tag 0 none
  | tag :: k :: rest =>
    match requestFields k.toNat with
    | none => .bad tag k.toNat none
    | some fields =>
      let its := readItems rest.length rest
      match bodyFault k.toNat fields its.1 its.2 with
      | some item => .bad tag k.toNat item
      | none =>
        match requestOf k.toNat its.1 with
        | some q => .request tag q
        | none => .bad tag k.toNat none

/-! ### Writing a request's body -/

/-- The kind code of a request (section 10.5). -/
def Request.code : Request → Nat
  | .recall _ => 1
  | .edit _ => 2
  | .bypassStage _ => 3
  | .store _ => 4
  | .writePreset _ => 5
  | .readPreset _ => 6
  | .erasePreset _ => 7
  | .latch _ => 8
  | .sceneRead => 9
  | .setSceneOptions _ => 10
  | .writeCurve _ => 11
  | .writeImpulse _ => 12
  | .meters _ => 13
  | .setTails _ => 14
  | .tempoSource _ => 15
  | .tempoSet _ => 16
  | .tap => 17
  | .tempoRead => 18
  | .tunerMode _ => 19
  | .tunerSet _ => 20
  | .tunerRead _ => 21
  | .mute _ => 22
  | .resume _ => 23
  | .faultRead => 24
  | .failoverRead => 25
  | .failoverClear => 26
  | .setProtection _ => 27
  | .linkStart => 28
  | .linkRest => 29
  | .linkWake => 30
  | .convRead _ => 31
  | .convWrite _ => 32
  | .auxRead => 33
  | .subscribe _ => 34
  | .identify => 35
  | .restart => 36

/-- A number as w bytes, low byte first. -/
def leBytes : Nat → Nat → List Byte
  | 0, _ => []
  | w + 1, v => BitVec.ofNat 8 v :: leBytes w (v / 256)

/-- An integer as w bytes of two's complement, low byte first (R190). -/
def intBytes (w : Nat) (v : Int) : List Byte := leBytes w (v % (256 ^ w : Nat)).toNat

/-- A field item (section 10.2): id, value length low byte first, value. -/
def itemBytes (id : Nat) (value : List Byte) : List Byte :=
  BitVec.ofNat 8 id :: BitVec.ofNat 8 value.length :: BitVec.ofNat 8 (value.length / 256) :: value

/-- An optional field item. -/
def optItem (id : Nat) : Option (List Byte) → List Byte
  | none => []
  | some v => itemBytes id v

/-- A yes-or-no value. -/
def flagBytes (b : Bool) : List Byte := [if b then 1#8 else 0#8]

/-- A list of numbers of w bytes each. -/
def numBytes (w : Nat) (vs : List Int) : List Byte := vs.flatMap (intBytes w)

/-- A stage entry of the fixed layout of section 10.2. -/
def entryBytes (e : EntryReq) : List Byte :=
  BitVec.ofNat 8 e.kind :: (if e.enabled then 1#8 else 0#8) :: BitVec.ofNat 8 e.spill ::
    BitVec.ofNat 8 (e.sync.getD 255) :: numBytes 3 e.params

/-- The field items of a request, every integer written in 4 bytes. -/
def Request.items : Request → List Byte
  | .recall r =>
    itemBytes 1 (intBytes 4 r.presetA) ++
    (match r.cond with
     | none => []
     | some c => itemBytes 2 (intBytes 4 c.bit) ++ itemBytes 3 (intBytes 4 c.polarity) ++
         itemBytes 4 (intBytes 4 c.presetB) ++ itemBytes 5 (flagBytes c.toggle)) ++
    optItem 6 (r.fade.map (intBytes 4))
  | .edit r =>
    itemBytes 1 (intBytes 4 r.stage) ++ itemBytes 2 (intBytes 4 r.param) ++
    itemBytes 3 (intBytes 4 r.value) ++ optItem 4 (r.expected.map (intBytes 4))
  | .bypassStage r =>
    itemBytes 1 (intBytes 4 r.stage) ++ itemBytes 2 (flagBytes r.enabled) ++
    optItem 3 (r.expected.map (intBytes 4))
  | .store r => itemBytes 1 (intBytes 4 r.slot) ++ optItem 2 r.name
  | .writePreset r =>
    itemBytes 1 (intBytes 4 r.slot) ++ itemBytes 2 r.name ++
    r.entries.flatMap (fun e => itemBytes 3 (entryBytes e)) ++
    optItem 4 (r.tempo.map (intBytes 4)) ++ optItem 5 (r.fade.map (intBytes 4)) ++
    itemBytes 6 (intBytes 4 r.level)
  | .readPreset r => itemBytes 1 (intBytes 4 r.slot)
  | .erasePreset r => itemBytes 1 (intBytes 4 r.slot)
  | .latch r =>
    itemBytes 1 (leBytes 4 r.set.toNat) ++ itemBytes 2 (leBytes 4 r.clear.toNat) ++
    itemBytes 3 (leBytes 4 r.toggle.toNat)
  | .sceneRead => []
  | .setSceneOptions r =>
    optItem 1 (r.safe.map (intBytes 4)) ++ optItem 2 (r.fade.map (intBytes 4))
  | .writeCurve r => itemBytes 1 (intBytes 4 r.slot) ++ itemBytes 2 (numBytes 2 r.points)
  | .writeImpulse r => itemBytes 1 (intBytes 4 r.slot) ++ itemBytes 2 (numBytes 2 r.taps)
  | .meters r => itemBytes 1 (flagBytes r.clear)
  | .setTails r =>
    optItem 1 (r.drain.map (intBytes 4)) ++ optItem 2 (r.life.map (intBytes 4)) ++
    optItem 3 (r.cut.map flagBytes)
  | .tempoSource r =>
    itemBytes 1 (intBytes 4 r.source) ++ optItem 2 (r.edge.map (intBytes 4)) ++
    optItem 3 (r.n.map (intBytes 4))
  | .tempoSet r => itemBytes 1 (intBytes 4 r.period) ++ itemBytes 2 (flagBytes r.restart)
  | .tap => []
  | .tempoRead => []
  | .tunerMode r => itemBytes 1 (intBytes 4 r.mode)
  | .tunerSet r =>
    optItem 1 (r.reference.map (intBytes 4)) ++ optItem 2 (r.k.map (intBytes 4)) ++
    optItem 3 (r.floor.map (intBytes 4))
  | .tunerRead r => optItem 1 (r.note.map (intBytes 4))
  | .mute r => itemBytes 1 (intBytes 4 r.value)
  | .resume r => itemBytes 1 (intBytes 4 r.mode)
  | .faultRead => []
  | .failoverRead => []
  | .failoverClear => []
  | .setProtection r =>
    optItem 1 (r.mode.map (intBytes 4)) ++ optItem 2 (r.limit.map (intBytes 4)) ++
    optItem 3 (r.policy.map (intBytes 4))
  | .linkStart => []
  | .linkRest => []
  | .linkWake => []
  | .convRead r => itemBytes 1 (intBytes 4 r.target) ++ itemBytes 2 (intBytes 4 r.index)
  | .convWrite r =>
    itemBytes 1 (intBytes 4 r.target) ++ itemBytes 2 (intBytes 4 r.index) ++
    itemBytes 3 (intBytes 4 r.data)
  | .auxRead => []
  | .subscribe r => itemBytes 1 (leBytes 4 r.classes.toNat)
  | .identify => []
  | .restart => []

/-- The body of a request message (section 10.2): tag, kind, field items. -/
def writeRequest (tag : Byte) (q : Request) : List Byte :=
  tag :: BitVec.ofNat 8 q.code :: q.items

end Sys2Proof
end

