-- ==== Sys2Proof/Config.lean ====
section
/-! DEFINITION. What the manual leaves open: the free values.  Each is a constant without a body, so
nothing can be proved about which value it is; each is applied to `State.freeCtr`, a counter that
advances whenever a free value is used, so that two uses need not agree. -/

namespace Sys2Proof

/-- Entry 9: what a frame sent in LOST carries in its tag and in slots 1, 2 and 6 (slot number as the
second argument, 0 for the tag), in the bits that section 9.1 and R185 leave open: R171 says that frames
are sent, and R172 composes those of SYNCING and RUNNING only. -/
opaque Config.lostWord : Nat → Nat → Word24

/-- Entry 10: whether POWER_WARN is handed over before CONVERTER_LOST when one frame brings both
(R158: either may be taken first). -/
opaque Config.powerWarnFirst : Nat → Bool

/-- Entry 15: how many bytes the part would use for an integer of a reply or notice (R190 permits 1
to 4); the use clamps it to that range. -/
opaque Config.integerBytes : Int → Nat

/-- Entry 3: which of the ports with a request waiting is served when the part takes one by itself
(R192: in no order among them). -/
opaque Config.portChoice : Nat → Nat

end Sys2Proof
end

