-- ==== Sys2Proof/Machine/Types.lean ====
section
/-! DEFINITION. The named values and the records of the manual that State is made of: stage entries
and presets, stage instances and contexts, tails, the fields of replies and notices.  All plain
data. -/

namespace Sys2Proof.Machine

/-! ### Named values -/

/-- The ten stage kinds, in the order of the table of R24 (their codes 0 to 9, section 10.2). -/
inductive StageKind where
  | gate | comp | drive | tone | cab | mod | delay | reverb | loop | volume
  deriving DecidableEq, Repr

/-- Spill of a stage entry (R73). -/
inductive Spill where
  | cut | hold
  deriving DecidableEq, Repr

/-- The four engine states (section 1.2). -/
inductive EngineState where
  | stopped | starting | run | fault
  deriving DecidableEq, Repr

/-- The switch phases (R88). -/
inductive SwitchPhase where
  | steady | prepare | fade | gapOut | gapIn
  deriving DecidableEq, Repr

/-- The switch kinds (R88). -/
inductive SwitchKind where
  | faded | gapped | immediate | cut
  deriving DecidableEq, Repr

/-- The state of a chain context (R11). -/
inductive ContextState where
  | empty | building | live
  deriving DecidableEq, Repr

/-- Tempo sources (R116). -/
inductive TempoSource where
  | internal | tap | pulse
  deriving DecidableEq, Repr

/-- Pulse states (R116). -/
inductive PulseState where
  | waiting | following | holding
  deriving DecidableEq, Repr

/-- Which edges are counted (R116). -/
inductive PulseEdge where
  | rising | falling | both
  deriving DecidableEq, Repr

/-- Causes of a beat event (R119). -/
inductive BeatCause where
  | counter | restart | tap | pulse | hold
  deriving DecidableEq, Repr

/-- Who wrote the period register (R132). -/
inductive TempoWriter where
  | tempoSet | tap | pulse | preset
  deriving DecidableEq, Repr

/-- The outcome of a TAP (R123). -/
inductive TapOutcome where
  | first | restarted | valid
  deriving DecidableEq, Repr

/-- Tuner modes (R134). -/
inductive TunerMode where
  | off | monitor | silent
  deriving DecidableEq, Repr

/-- Tuner states (R134). -/
inductive TunerState where
  | noSignal | locked | outOfRange
  deriving DecidableEq, Repr

/-- What raised a TUNER notice (R147). -/
inductive TunerEvent where
  | reading | timeout | mode | link
  deriving DecidableEq, Repr

/-- The eight mute reasons, in the order of the table of R152. -/
inductive Reason where
  | stopped | starting | tunerSilent | switchGap | relayMove | standby | masterMute | fault
  deriving DecidableEq, Repr

/-- The gain states (R153); `opened` is OPEN. -/
inductive GainState where
  | opened | rampDown | muted | rampUp
  deriving DecidableEq, Repr

/-- Fault causes, in the order of the table of R156. -/
inductive Cause where
  | frameLoss | runaway | powerWarn | converterLost
  deriving DecidableEq, Repr

/-- Monitor modes (R163). -/
inductive MonMode where
  | off | report | failover
  deriving DecidableEq, Repr

/-- Relay positions (section 8.6). -/
inductive Relay where
  | engaged | bypass
  deriving DecidableEq, Repr

/-- Relay policies (R164). -/
inductive Policy where
  | bypass | hold
  deriving DecidableEq, Repr

/-- RESUME modes (R161). -/
inductive ResumeMode where
  | scene | safe | bypass
  deriving DecidableEq, Repr

/-- Link states (R171). -/
inductive LinkState where
  | off | coldStart | syncing | running | lost | resting | waking
  deriving DecidableEq, Repr

/-- Converters (R182). -/
inductive Target where
  | primary | secondary
  deriving DecidableEq, Repr

/-- Why the link left RUNNING (R180). -/
inductive Departure where
  | monitor | converter | start | rest | wake
  deriving DecidableEq, Repr

/-- Kinds of the last start (R188). -/
inductive StartKind where
  | powerOn | restart
  deriving DecidableEq, Repr

/-- Receiver states (R188). -/
inductive RxPhase where
  | hunt | length | body | check
  deriving DecidableEq, Repr

/-- The nine notice classes, codes 1 to 9 in this order (R195). -/
inductive NoticeClass where
  | scene | tuner | beat | tempo | meter | fault | link | aux | latch
  deriving DecidableEq, Repr

/-- The reply status codes 0 to 18, in order (R193). -/
inductive Status where
  | done | clamped | degraded | posted | busy | badRequest | invalid | empty | stale | stageAbsent
  | superseded | aborted | stopped | wrongState | notReady | timeout | overBudget | overMemory
  | notSeen
  deriving DecidableEq, Repr

/-- Why a recall or a RESUME was ended: a fault cause, or the link (R114, R115, R162). -/
inductive AbortCause where
  | fault (c : Cause) | link
  deriving DecidableEq, Repr

/-- Why a READ of the command queue was ended (R183). -/
inductive ReadEnd where
  | link | converter
  deriving DecidableEq, Repr

/-- Why a rest pending was ended (R179). -/
inductive RestEnd where
  | wake | start | link
  deriving DecidableEq, Repr

/-- Why a stage counts as degraded (R97). -/
inductive DegradedCause where
  | curve | impulse | reach | loopOpen
  deriving DecidableEq, Repr

/-- One degraded stage of a reply (R97). -/
structure Degraded where
  index : Nat
  cause : DegradedCause
  deriving DecidableEq, Repr

/-- The reasons of an INVALID WRITE-PRESET or STORE (R75, R81). -/
inductive PresetReason where
  | slot | name | stageCount | kind | paramCount | spill | sync | type | loopCount
  deriving DecidableEq, Repr

/-- What WRITE-PRESET clamped (R77); `level` is entry 11's. -/
inductive ClampMark where
  | param (entry : Nat) (id : Nat) | tempo | fade | level
  deriving DecidableEq, Repr

/-! ### Presets -/

/-- A stage entry of a record (R73). -/
structure StageEntry where
  kind : StageKind
  enabled : Bool
  spill : Spill
  params : List Int
  sync : Option Nat
  deriving DecidableEq, Repr

/-- A preset record, also the live scene record (R73, R88). -/
structure Preset where
  name : List Byte
  chain : List StageEntry
  tempo : Option Nat
  fade : Option Nat
  level : Nat
  deriving DecidableEq, Repr

/-! ### Stage instances and contexts -/

/-- Gate states (R29). -/
inductive GateState where
  | opened | releasing | closed
  deriving DecidableEq, Repr

/-- The histories of one TONE section (R37). -/
structure ToneHist where
  x1 : Int
  x2 : Int
  y1 : Int
  y2 : Int
  deriving DecidableEq, Repr

/-- A comb of a REVERB: its position and damping state (R43). -/
structure CombState where
  pos : Nat
  damp : Int
  deriving DecidableEq, Repr

/-- The running state of a stage instance (R12), by kind. -/
inductive StageRun where
  | gate (st : GateState) (hold : Nat) (m : Nat)
  | comp (gain : Nat)
  | drive (used : Nat)
  | tone (s0 s1 s2 : ToneHist)
  | cab (used : Nat) (hist : List Int)
  | mod (len : Nat) (phase : Nat) (line : List Int)
  | delay (wp : Nat) (time : Nat)
  | reverb (combs : List CombState) (allpass : List Nat)
  | loop
  | volume
  deriving DecidableEq, Repr

/-- The status record of a stage instance (R20). -/
structure StatusRec where
  peak : Nat
  clip : Bool
  satIn : Bool
  silent : Bool
  degraded : Bool
  loopOpen : Bool
  deriving DecidableEq, Repr

/-- A stage instance (R12).  `cur` and `tgt` are the current and the target value of each parameter,
in id order (R24); `beat` is the beat period a synced stage holds (R58); `ranOff` says that its last
pass ran it disabled (R27); `cut` that the selection cuts it in its context (R68). -/
structure StageInst where
  kind : StageKind
  enabled : Bool
  spill : Spill
  sync : Option Nat
  cur : List Int
  tgt : List Int
  beat : Nat
  run : StageRun
  segs : List Nat
  status : StatusRec
  ranOff : Bool
  cut : Bool
  deriving DecidableEq, Repr

/-- A chain context (R11); its role is the field of `Sen` that holds it.  While it is BUILDING,
`granted` holds the segments of the stages not yet built and `toClear` those not yet cleared, both
in grant order (R52, R56). -/
structure Context where
  state : ContextState
  generation : Word16
  stages : List StageInst
  granted : List Nat
  toClear : List Nat
  cost : Nat
  buildCount : Nat
  deriving DecidableEq, Repr

/-- Whether a tail runs or is being cut (R62). -/
inductive TailState where
  | running | cutting
  deriving DecidableEq, Repr

/-- A tail entry (R62).  `cutRan` says that its cut pass has begun (R67); `awaited` that a grant
waits for its cut (R55). -/
structure Tail where
  inst : StageInst
  cost : Nat
  originGen : Word16
  originIdx : Nat
  state : TailState
  drainReload : Nat
  drain : Nat
  life : Nat
  cutRan : Bool
  awaited : Bool
  deriving DecidableEq, Repr

/-- What one stage reports of one pass (R20). -/
structure StageReport where
  peak : Nat
  clip : Bool
  satIn : Bool
  silent : Bool
  loopOpen : Bool
  deriving DecidableEq, Repr

/-- A pass under way (R2): the outputs m_j with their held loop sends (R16, R19), the reports of the
stages that ran, in chain and list order, whether a mix point saturated (R21), and whether a synced
DELAY's DEGRADED mark became set at its start (R61). -/
structure PassRec where
  outs : List (Int × Int)
  front : List StageReport
  back : List StageReport
  tails : List StageReport
  mixSat : Bool
  tempoDegraded : Bool
  deriving DecidableEq, Repr

/-! ### Requests in progress -/

/-- Where the reply of a taken request goes: the port and the reserved entry of its reply queue
(R193). -/
structure Ticket where
  port : Port
  entry : Nat
  deriving DecidableEq, Repr

/-- The switch record (R88), with the marks the phases of section 5.4 need: `budget` in the budget
block (R100), `selected` once the selection is made (R101, R104), `commitDue` when the boundary of
the commit has come. -/
structure SwitchRec where
  ticket : Ticket
  slot : Nat
  fade : Nat
  kind : SwitchKind
  blocksLeft : Nat
  degraded : List Degraded
  tempo : Option Nat
  budget : Bool
  selected : Bool
  commitDue : Bool
  deriving DecidableEq, Repr

/-- A pending recall (R96). -/
structure PendingRecall where
  ticket : Ticket
  req : RecallReq
  deriving DecidableEq, Repr

/-- A grant waiting on a reclaim (R54): its demand, and whether its boundary has come. -/
structure GrantWait where
  demand : Nat
  due : Bool
  deriving DecidableEq, Repr

/-- A RESUME whose start is under way (R162); `safeSlot` is present for SAFE and says whether the
safe slot (and not the built-in clean scene) was loaded. -/
structure ResumeWait where
  ticket : Ticket
  mode : ResumeMode
  safeSlot : Option Bool
  degraded : List Degraded
  deriving DecidableEq, Repr

/-- A RESTART in progress (R199): where its reply stands, and whether it has been sent. -/
structure RestartWait where
  ticket : Ticket
  sent : Bool
  deriving DecidableEq, Repr

/-- An access of the converter command queue (R182); `owner` absent is INTERNAL, `tag` is the request tag,
absent for INTERNAL, `data` is present for a WRITE, `sent` says a SENT read, `waited` counts the frames
received since; `fresh` says that the frame received in the frame period of its sending has not come yet
(entry 37). -/
structure Access where
  owner : Option Ticket
  tag : Option Byte
  data : Option Nat
  target : Target
  index : Nat
  sent : Bool
  waited : Nat
  fresh : Bool
  deriving DecidableEq, Repr

/-- The status echo of one line in one frame (section 9.1): index and data. -/
structure Echo where
  index : Nat
  data : Word16
  deriving DecidableEq, Repr

/-- An outgoing frame (section 9.1). -/
structure OutFrame where
  tag : Word24
  slot1 : Word24
  slot2 : Word24
  slot3 : Word24
  slot4 : Word24
  slot5 : Word24
  slot6 : Word24
  slot7 : Word24
  deriving DecidableEq, Repr

/-! ### Protection -/

/-- The mute reason set (R152). -/
structure MuteSet where
  stopped : Bool
  starting : Bool
  tunerSilent : Bool
  switchGap : Bool
  relayMove : Bool
  standby : Bool
  masterMute : Bool
  fault : Bool
  deriving DecidableEq, Repr

/-- A set of fault causes (R157). -/
structure CauseSet where
  frameLoss : Bool
  runaway : Bool
  powerWarn : Bool
  converterLost : Bool
  deriving DecidableEq, Repr

/-- A fault record (R157). -/
structure FaultRecord where
  first : Cause
  causes : CauseSet
  blockCount : Word32
  generation : Word16
  phase : SwitchPhase
  deriving DecidableEq, Repr

/-- A relay move (R167, R168): `hold` absent is phase WAITING, else HOLDING with its count; `next`
is the one target that waits behind a held move. -/
structure RelayMove where
  target : Relay
  hold : Option Nat
  next : Option Relay
  deriving DecidableEq, Repr

/-! ### The tuner's reading -/

/-- Note and cents of a reading in range (R134, R143). -/
structure NoteReading where
  note : Nat
  name : Nat
  octave : Nat
  cents : Int
  deriving DecidableEq, Repr

/-- A reading (R134); `note` absent is OUT_OF_RANGE. -/
structure Reading where
  mean : Nat
  reference : Nat
  note : Option NoteReading
  deriving DecidableEq, Repr

/-! ### Fields of replies -/

/-- The switch under way as SCENE-READ reports it (R89). -/
structure SwitchReport where
  slot : Nat
  fade : Nat
  kind : SwitchKind
  blocksLeft : Nat
  deriving DecidableEq, Repr

/-- SCENE-READ (R89). -/
structure SceneReport where
  live : Preset
  cost : Nat
  demand : Nat
  generation : Word16
  dirty : Bool
  origin : Option Nat
  phase : SwitchPhase
  switch : Option SwitchReport
  pending : Option Port
  latch : Word16
  frontGeneration : Word16
  deriving DecidableEq, Repr

/-- One status record of METERS (R23). -/
structure MeterEntry where
  index : Nat
  kind : StageKind
  status : StatusRec
  deriving DecidableEq, Repr

/-- METERS (R23). -/
structure MetersReport where
  engine : EngineState
  bypassHold : Bool
  blockCount : Word32
  load : Nat
  summaryClip : Bool
  frontGeneration : Word16
  records : List MeterEntry
  deriving DecidableEq, Repr

/-- One tail of SET-TAILS (R70). -/
structure TailReport where
  kind : StageKind
  state : TailState
  cost : Nat
  segments : Nat
  drain : Nat
  life : Nat
  originGen : Word16
  originIdx : Nat
  deriving DecidableEq, Repr

/-- TEMPO-READ (R133). -/
structure TempoReport where
  source : TempoSource
  pulse : Option PulseState
  edge : PulseEdge
  n : Nat
  pulseCount : Nat
  period : Nat
  inForce : Nat
  counter : Nat
  age : Nat
  beatCount : Word32
  lamp : Bool
  tapStamp : Option Word32
  taps : List Nat
  frameCount : Word32
  deriving DecidableEq, Repr

/-- TUNER-READ (R149). -/
structure TunerReport where
  mode : TunerMode
  state : TunerState
  reference : Nat
  k : Nat
  floor : Nat
  reading : Option Reading
  readingCount : Word16
  seriesLen : Nat
  sinceReading : Nat
  flat : Bool
  inTune : Bool
  sharp : Bool
  entry : Option Nat
  deriving DecidableEq, Repr

/-- FAULT-READ (R160). -/
structure FaultReport where
  fault : Option FaultRecord
  lastFault : Option FaultRecord
  reasons : MuteSet
  gain : Nat
  gainState : GainState
  relay : Relay
  move : Option RelayMove
  policy : Policy
  monMode : MonMode
  limit : Nat
  elapsed : Nat
  failover : Bool
  deriving DecidableEq, Repr

/-- AUX-READ (R186). -/
structure AuxReport where
  auxIn : Word16
  primary : Bool
  secondary : Bool
  link : LinkState
  auxOut : Word16
  auxValid : Bool
  deriving DecidableEq, Repr

/-- IDENTIFY (R198), beside the fixed vendor, family, part and revision. -/
structure IdentityReport where
  port : Port
  restartCount : Word16
  lastStart : StartKind
  queued : Nat
  free : Nat
  deriving DecidableEq, Repr

/-- The fields of a reply, by what the owning rule gives. -/
inductive Fields where
  | none
  | badRequest (kind : Nat) (item : Option Nat)
  | presetInvalid (reason : PresetReason) (entry : Option Nat)
  | stale (generation : Word16)
  | edited (generation : Word16) (stage param : Nat) (value : Int)
  | bypassed (generation : Word16) (stage : Nat) (enabled : Bool)
  | recallDone (slot : Nat) (name : List Byte) (generation : Word16) (kind : SwitchKind)
      (fade : Nat) (degraded : List Degraded)
  | recallEmpty (slot : Nat) (choseB : Bool)
  | superseded (generation : Option Word16) (by_ : Port)
  | recallAborted (generation : Option Word16) (cause : AbortCause)
  | stored (slot : Nat) (name : List Byte) (cost demand : Nat)
  | presetWritten (slot cost demand : Nat) (clamped : List ClampMark)
  | overBudget (cost : Nat)
  | overMemory (demand : Nat)
  | presetRead (record : Preset) (cost demand : Nat)
  | erased (held : Bool)
  | latched (word : Word16)
  | scene (r : SceneReport)
  | sceneOptions (safe fade : Nat)
  | meters (r : MetersReport)
  | tails (drain life : Nat) (list : List TailReport)
  | tempoSource (source : TempoSource) (pulse : Option PulseState) (edge : PulseEdge) (n : Nat)
  | tempoSet (period inForce : Nat) (source : TempoSource)
  | tapped (outcome : TapOutcome) (interval : Option Nat) (count period : Nat)
  | tempo (r : TempoReport)
  | tunerMode (mode : TunerMode) (state : TunerState)
  | tunerSettings (reference k floor : Nat)
  | tuner (r : TunerReport)
  | muted (reasons : MuteSet) (gain : Nat) (gainState : GainState)
  | notReady (link converter power : Bool)
  | resumed (mode : ResumeMode) (generation : Word16) (safeSlot : Option Bool)
      (degraded : List Degraded)
  | resumeEnded (cause : AbortCause)
  | readEnded (cause : ReadEnd)
  | restEnded (cause : RestEnd)
  | fault (r : FaultReport)
  | failoverFlag (flag : Bool)
  | protection (mode : MonMode) (limit : Nat) (policy : Policy)
  | linkBefore (state : LinkState)
  | wake (deferred : Bool)
  | converter (data : Word16) (index : Nat) (target : Target) (frames : Nat)
  | posted (ahead : Nat)
  | aux (r : AuxReport)
  | subscribed (classes : Word16)
  | identity (r : IdentityReport)
  | restartCount (count : Word16)
  deriving DecidableEq, Repr

/-- A reply (R193): tag, kind code, status and fields. -/
structure Reply where
  tag : Byte
  kind : Nat
  status : Status
  fields : Fields
  deriving DecidableEq, Repr

/-- An entry of a port's reply queue (R188, R193). -/
inductive ReplyEntry where
  | free
  | reserved (tag : Byte) (kind : Nat)
  | filled (r : Reply)
  | sending (r : Reply)
  deriving DecidableEq, Repr

/-! ### Notices -/

/-- The events of a SCENE notice (R90). -/
inductive SceneEvent where
  | take | commit | gapInEnd | abandoned | store | dirty | resumeSafe
  deriving DecidableEq, Repr

/-- A SCENE notice (R90). -/
structure SceneNotice where
  event : SceneEvent
  generation : Word16
  phase : SwitchPhase
  origin : Option Nat
  dirty : Bool
  name : List Byte
  port : Option Port
  slot : Option Nat
  kind : Option SwitchKind
  phaseThen : Option SwitchPhase
  deriving DecidableEq, Repr

/-- A TUNER notice (R147). -/
structure TunerNotice where
  mode : TunerMode
  state : TunerState
  count : Word16
  reading : Option Reading
  event : TunerEvent
  deriving DecidableEq, Repr

/-- A BEAT notice (R131). -/
structure BeatNotice where
  count : Word32
  inForce : Nat
  cause : BeatCause
  source : TempoSource
  pulse : Option PulseState
  deriving DecidableEq, Repr

/-- A TEMPO notice (R132): the events it reports (a register write with its writer and port, a
TEMPO-SOURCE taken, a change of pulse state), and the fields every TEMPO notice carries. -/
structure TempoNotice where
  write : Option TempoWriter
  sourceTaken : Bool
  pulseChanged : Bool
  port : Option Port
  clamped : Bool
  source : TempoSource
  pulse : Option PulseState
  edge : PulseEdge
  n : Nat
  period : Nat
  inForce : Nat
  deriving DecidableEq, Repr

/-- A METER notice (R21). -/
structure MeterNotice where
  summaryClip : Bool
  load : Nat
  generation : Word16
  stages : List Nat
  deriving DecidableEq, Repr

/-- The events of a FAULT notice (R159). -/
inductive FaultEvent where
  | entered | added | resumed
  deriving DecidableEq, Repr

/-- A FAULT notice (R159). -/
structure FaultNotice where
  event : FaultEvent
  cause : Option Cause
  mode : Option ResumeMode
  port : Option Port
  record : Option FaultRecord
  relay : Relay
  failover : Bool
  deriving DecidableEq, Repr

/-- The events of a LINK notice (R180). -/
inductive LinkEvent where
  | state | primaryReady | secondaryReady | auxValid
  deriving DecidableEq, Repr

/-- A LINK notice (R180). -/
structure LinkNotice where
  event : LinkEvent
  before : LinkState
  after : LinkState
  cause : Option Departure
  primary : Bool
  secondary : Bool
  auxValid : Bool
  restPending : Bool
  wakePending : Bool
  queued : Nat
  deriving DecidableEq, Repr

/-- A notice, by class (R195). -/
inductive Notice where
  | scene (n : SceneNotice)
  | tuner (n : TunerNotice)
  | beat (n : BeatNotice)
  | tempo (n : TempoNotice)
  | meter (n : MeterNotice)
  | fault (n : FaultNotice)
  | link (n : LinkNotice)
  | aux (new old changed : Word16)
  | latch (word : Word16) (port : Port)
  deriving DecidableEq, Repr

/-! ### Port lines -/

/-- A byte received after a sync byte, with the microseconds since the byte before it (counted no
further than 1,001) and its framing result (R189). -/
structure RxByte where
  value : Byte
  framingError : Bool
  gap : Nat
  deriving DecidableEq, Repr

/-- A port's receiver (R189): `buf` holds the bytes after the sync byte of the frame under way,
`since` the microseconds since the last byte of it. -/
structure Receiver where
  phase : RxPhase
  buf : List RxByte
  since : Nat
  deriving DecidableEq, Repr

/-- A port's transmit line (R194): idle, or the message being sent with the marks written into it
(R193, R197). -/
inductive TxLine where
  | idle
  | reply (entry : Nat) (badFrame overrun : Bool)
  | notice (n : Notice) (lost : Bool)
  deriving DecidableEq, Repr

end Sys2Proof.Machine
end

