-- ==== Sys2Proof/Machine/Num.lean ====
section
/-! DEFINITION. The manual's arithmetic (00, Conventions) and its tables: parameter ranges, costs,
segment needs, sync divisions, note constants, the built-in scene and library contents. -/

namespace Sys2Proof.Machine

/-! ### Arithmetic (00, Conventions) -/

/-- The lowest sample. -/
def sampleMin : Int := -8388608

/-- Full scale. -/
def sampleMax : Int := 8388607

/-- Clamp to a range: a value below is replaced by the lower end, one above by the upper end. -/
def clampTo (lo hi v : Int) : Int := if v < lo then lo else if hi < v then hi else v

/-- Saturate: clamp to the sample range. -/
def sat (v : Int) : Int := clampTo sampleMin sampleMax v

/-- Whether saturation changes a value (R28). -/
def satHits (v : Int) : Bool := decide (sat v ≠ v)

/-- floor((a + 2,048) / 4,096): round to nearest, ties up, by the unity of Q4.12 and of a mix. -/
def q12 (a : Int) : Int := (a + 2048) / 4096

/-- Round to nearest with ties toward positive infinity: floor((2a + d) / (2d)). -/
def roundDiv (a d : Int) : Int := (2 * a + d) / (2 * d)

/-- ceil(a / b) for natural numbers. -/
def ceilDiv (a b : Nat) : Nat := (a + (b - 1)) / b

/-- A sample is quiet under the silence test when its magnitude is at most 16 (00, Silence). -/
def quietSample (x : Int) : Bool := decide (x.natAbs ≤ 16)

/-- The largest magnitude in a list of samples. -/
def peakOf : List Int → Nat
  | [] => 0
  | x :: xs => max x.natAbs (peakOf xs)

/-! ### Stage kinds (R14, R24, R53) -/

/-- The ten kinds in code order (section 10.2). -/
def allKinds : List StageKind :=
  [.gate, .comp, .drive, .tone, .cab, .mod, .delay, .reverb, .loop, .volume]

/-- The kind with a given code (section 10.2). -/
def kindOfCode (c : Nat) : Option StageKind := allKinds[c]?

/-- The code of a kind (section 10.2). -/
def StageKind.code (k : StageKind) : Nat := allKinds.idxOf k

/-- The cost of a kind in work units (R14). -/
def StageKind.cost : StageKind → Nat
  | .gate => 20
  | .comp => 40
  | .drive => 120
  | .tone => 60
  | .cab => 200
  | .mod => 60
  | .delay => 50
  | .reverb => 220
  | .loop => 10
  | .volume => 10

/-- How many parameters a kind has (R73). -/
def StageKind.paramCount : StageKind → Nat
  | .gate => 3
  | .comp => 5
  | .drive => 5
  | .tone => 15
  | .cab => 2
  | .mod => 4
  | .delay => 4
  | .reverb => 3
  | .loop => 3
  | .volume => 1

/-- The range of a parameter (R24); none when the kind has no such parameter. -/
def StageKind.range (k : StageKind) (id : Nat) : Option (Int × Int) :=
  match k, id with
  | .gate, 0 => some (0, 8388607)
  | .gate, 1 => some (0, 255)
  | .gate, 2 => some (1, 255)
  | .comp, 0 => some (1, 8388607)
  | .comp, 1 => some (1, 16)
  | .comp, 2 => some (1, 64)
  | .comp, 3 => some (1, 255)
  | .comp, 4 => some (0, 65535)
  | .drive, 0 => some (256, 65535)
  | .drive, 1 => some (-1048576, 1048575)
  | .drive, 2 => some (0, 7)
  | .drive, 3 => some (0, 65535)
  | .drive, 4 => some (0, 4096)
  | .tone, i => if i < 15 then some (-8388608, 8388607) else none
  | .cab, 0 => some (0, 3)
  | .cab, 1 => some (0, 65535)
  | .mod, 0 => some (0, 1)
  | .mod, 1 => some (12, 12000)
  | .mod, 2 => some (0, 4096)
  | .mod, 3 => some (0, 4096)
  | .delay, 0 => some (8192, 98304)
  | .delay, 1 => some (16, 98304)
  | .delay, 2 => some (0, 4000)
  | .delay, 3 => some (0, 4096)
  | .reverb, 0 => some (0, 4000)
  | .reverb, 1 => some (0, 4096)
  | .reverb, 2 => some (0, 4096)
  | .loop, 0 => some (0, 65535)
  | .loop, 1 => some (0, 65535)
  | .loop, 2 => some (0, 4096)
  | .volume, 0 => some (0, 65535)
  | _, _ => none

/-- Whether a parameter glides (the Change column of R24). -/
def StageKind.glides (k : StageKind) (id : Nat) : Bool :=
  match k, id with
  | .drive, 3 => true
  | .drive, 4 => true
  | .cab, 1 => true
  | .mod, 3 => true
  | .delay, 3 => true
  | .reverb, 2 => true
  | .loop, _ => true
  | .volume, _ => true
  | _, _ => false

/-- The segment need of a kind with given parameter values (R53). -/
def StageKind.need (k : StageKind) (params : List Int) : Nat :=
  match k with
  | .delay => ceilDiv (params.getD 0 0).toNat 8192
  | .reverb => 2
  | _ => 0

/-- Whether a kind may carry spill HOLD (R73). -/
def StageKind.mayHold : StageKind → Bool
  | .delay => true
  | .reverb => true
  | _ => false

/-- Whether a kind may carry a sync division (R73). -/
def StageKind.maySync : StageKind → Bool
  | .delay => true
  | .mod => true
  | _ => false

/-- The segment need of a stage entry (R53). -/
def StageEntry.need (e : StageEntry) : Nat := e.kind.need e.params

/-- The cost of a chain (R74). -/
def chainCost : List StageEntry → Nat
  | [] => 0
  | e :: es => e.kind.cost + chainCost es

/-- The segment demand of a chain (R74). -/
def chainDemand : List StageEntry → Nat
  | [] => 0
  | e :: es => e.need + chainDemand es

/-- The engine's budget in work units (section 1.4). -/
def budget : Nat := 1600

/-- The build count of a chain, S + ceil(M / 4) (R6, R98). -/
def buildLength (chain : List StageEntry) : Nat := chain.length + ceilDiv (chainDemand chain) 4

/-- The sync division of a code, n/d (R129). -/
def syncDivision : Nat → Nat × Nat
  | 0 => (4, 1)
  | 1 => (2, 1)
  | 2 => (3, 2)
  | 3 => (1, 1)
  | 4 => (3, 4)
  | 5 => (2, 3)
  | 6 => (1, 2)
  | 7 => (3, 8)
  | 8 => (1, 3)
  | _ => (1, 4)

/-- The time a beat period gives through a sync code, floor((2Bn + d) / (2d)) (R58, R129). -/
def syncedTime (beat code : Nat) : Nat :=
  let nd := syncDivision code
  (2 * beat * nd.1 + nd.2) / (2 * nd.2)

/-! ### Built-in contents -/

/-- The built-in clean scene (R82): the name is "CLEAN". -/
def cleanScene : Preset where
  name := [67#8, 76#8, 69#8, 65#8, 78#8]
  chain := [{ kind := .volume, enabled := true, spill := .cut, params := [4096], sync := none }]
  tempo := none
  fade := none
  level := 4096

/-- Curve slot 0, linear (R48). -/
def curveZero : List Int :=
  (List.range 256).map (fun i => 256 * ((i : Int) - 128)) ++ [32767]

/-- Impulse slot 0, a unit impulse (R48). -/
def impulseZero : List Int := 32767 :: List.replicate 255 0

/-! ### The note table (R142) -/

/-- The semitone constants R[s] (R142). -/
def semitone : Nat → Nat
  | 0 => 65536
  | 1 => 69433
  | 2 => 73562
  | 3 => 77936
  | 4 => 82570
  | 5 => 87480
  | 6 => 92682
  | 7 => 98193
  | 8 => 104032
  | 9 => 110218
  | 10 => 116772
  | _ => 123715

/-- The period T(n) of note n at a reference (R142): d = n - 46, o = floor(d / 12), s = d - 12 o; a
negative o multiplies the numerator, a positive one the denominator. -/
def notePeriod (reference n : Nat) : Nat :=
  let d : Int := (n : Int) - 46
  let o : Int := d / 12
  let s : Nat := (d - 12 * o).toNat
  let num : Nat := 30720000 * 65536 * 2 ^ (-o).toNat
  let den : Nat := reference * semitone s * 2 ^ o.toNat
  (2 * num + den) / (2 * den)

/-- The note table, T(0) to T(71) (R142). -/
def noteTable (reference : Nat) : List Nat := (List.range 72).map (notePeriod reference)

end Sys2Proof.Machine
end

