-- ==== Sys2Proof/Machine/State.lean ====
section
/-! DEFINITION. The state of the part: one record for each of the nine blocks (00, Block overview),
and the queue of commands waiting.  `State.reset` is the part right after the release of the
power-on reset input. -/

namespace Sys2Proof.Machine

/-- The items PIF holds for each port (R188). -/
structure PortState where
  rx : Receiver
  requests : List (List Byte)
  replies : List ReplyEntry
  order : List Nat
  notices : List Notice
  subs : Word16
  badFrame : Bool
  overrun : Bool
  lost : Bool
  rdy : Bool
  tx : TxLine
  deriving DecidableEq, Repr

/-- A port after power-on and after RESTART (R188). -/
def PortState.fresh : PortState where
  rx := { phase := .hunt, buf := [], since := 0 }
  requests := []
  replies := List.replicate 8 .free
  order := []
  notices := []
  subs := 0
  badFrame := false
  overrun := false
  lost := false
  rdy := true
  tx := .idle

/-- The port interface (R188). -/
structure Pif where
  port0 : PortState
  port1 : PortState
  port2 : PortState
  restartCount : Word16
  lastStart : StartKind
  restart : Option RestartWait
  deriving DecidableEq, Repr

/-- The scene controller (R88, R72, R84). -/
structure Scn where
  live : Preset
  generation : Word16
  dirty : Bool
  origin : Option Nat
  phase : SwitchPhase
  switch : Option SwitchRec
  pendingRecall : Option PendingRecall
  latch : Word16
  library : List (Option Preset)
  safeIdx : Nat
  defaultFade : Nat
  deriving DecidableEq, Repr

/-- An EMPTY context (R11). -/
def Context.emptied : Context where
  state := .empty
  generation := 0
  stages := []
  granted := []
  toClear := []
  cost := 0
  buildCount := 0

/-- The stage engine (chapter 1).  `gathered` holds the frames of the block under way (guitar sample
and loop return), `awaiting` the input block of a boundary whose pass has not yet begun, `ready` the
outputs of a completed pass, `outQueue` the samples handed to the link. -/
structure Sen where
  engine : EngineState
  bypassHold : Bool
  blockCount : Word32
  gathered : List (Int × Int)
  awaiting : Option (List (Int × Int))
  front : Context
  back : Context
  pass : Option PassRec
  ready : List (Int × Int)
  outQueue : List (Int × Int)
  summaryClip : Bool
  load : Nat
  lastLoad : Nat
  runaway : Nat
  deriving DecidableEq, Repr

/-- The segment pool (chapter 3).  `mem` is the delay memory: the sample of offset o of segment s
stands at address 8,192 s + o; addresses rise strictly and no sample 0 is listed. -/
structure Spl where
  mem : List (Nat × Int)
  free : List Nat
  tails : List Tail
  grant : Option GrantWait
  drainSetting : Nat
  lifeSetting : Nat
  deriving DecidableEq, Repr

/-- The shape library (R48): curve slots 1 to 7 and impulse slots 1 to 3. -/
structure Lib where
  curves : List (Option (List Int))
  impulses : List (Option (List Int))
  deriving DecidableEq, Repr

/-- The tempo generator (R116). -/
structure Tgn where
  source : TempoSource
  period : Nat
  counter : Nat
  inForce : Nat
  beatCount : Word32
  frameCount : Word32
  tapStamp : Option Word32
  taps : List Nat
  pulse : Option PulseState
  edge : PulseEdge
  n : Nat
  pulseCount : Nat
  pulseStamp : Option Word32
  age : Nat
  lamp : Bool
  deriving DecidableEq, Repr

/-- The tuner (R134); `returned` says that the link has left RUNNING since the last frame, so that the next
one only sets the previous sample (R150). -/
structure Tun where
  mode : TunerMode
  reference : Nat
  k : Nat
  floor : Nat
  timebase : Nat
  wraps : Nat
  prevSample : Option Int
  returned : Bool
  armed : Bool
  prevCapture : Option Nat
  series : List Nat
  blockPeak : Nat
  sinceReading : Nat
  table : List Nat
  state : TunerState
  reading : Option Reading
  readingCount : Word16
  deriving DecidableEq, Repr

/-- The output protection unit (chapter 8).  `fault` absent is protection state CLEAR. -/
structure Opu where
  reasons : MuteSet
  gain : Nat
  gainState : GainState
  fault : Option FaultRecord
  lastFault : Option FaultRecord
  resume : Option ResumeWait
  monMode : MonMode
  limit : Nat
  elapsed : Nat
  failover : Bool
  seen0 : Bool
  seen1 : Bool
  seen2 : Bool
  relay : Relay
  move : Option RelayMove
  policy : Policy
  deriving DecidableEq, Repr

/-- The converter link (R171); times are in microseconds of the part's oscillator.  `restHeld` says that a
fault has muted the gain at once under a rest pending and the first frame after its entry is still to be
sent, which the final step waits for (R178). -/
structure Lnk where
  state : LinkState
  primary : Bool
  secondary : Bool
  restPending : Option Ticket
  restHeld : Bool
  wakePending : Bool
  time : Nat
  queue : List Access
  levelPending : Option Nat
  auxValid : Bool
  auxIn : Word16
  echo0 : Option Echo
  echo1 : Option Echo
  lastOut : OutFrame
  deriving DecidableEq, Repr

/-- The part.  `por` is the power-on reset input PRST, asserted or not (R200); `freeCtr` and
`pending` are the model's own: the count of free values used, and the queue of commands waiting,
first in, first out. -/
structure State where
  pif : Pif
  scn : Scn
  sen : Sen
  spl : Spl
  lib : Lib
  tgn : Tgn
  tun : Tun
  opu : Opu
  lnk : Lnk
  por : Bool
  freeCtr : Nat
  pending : List Instr
  deriving DecidableEq, Repr

/-- Reasons a step stops in a fault.  There are none: the manual calls no behaviour of the part
undefined, and its own faults (chapter 8) are states of it. -/
inductive Fault where
  deriving DecidableEq, Repr

/-- Reasons a step is refused. -/
inductive Refusal where
  /-- A command without a meaning yet; raised by no arm of `exec` (safe: the model stops). -/
  | notModelled (mnemonic : String)
  deriving DecidableEq, Repr

/-! ### Values after power-on -/

/-- PIF after power-on (R188). -/
def Pif.powerOn : Pif where
  port0 := .fresh
  port1 := .fresh
  port2 := .fresh
  restartCount := 0
  lastStart := .powerOn
  restart := none

/-- SCN after power-on (R72, R84, R88). -/
def Scn.powerOn : Scn where
  live := cleanScene
  generation := 0
  dirty := false
  origin := none
  phase := .steady
  switch := none
  pendingRecall := none
  latch := 0
  library := List.replicate 128 none
  safeIdx := 0
  defaultFade := 16

/-- SEN after power-on and RESTART (R1, R4, R11). -/
def Sen.fresh : Sen where
  engine := .stopped
  bypassHold := false
  blockCount := 0
  gathered := []
  awaiting := none
  front := .emptied
  back := .emptied
  pass := none
  ready := []
  outQueue := []
  summaryClip := false
  load := 0
  lastLoad := 0
  runaway := 0

/-- SPL after power-on (R52, R62, R70); the contents of the segments are entry 8's. -/
def Spl.powerOn : Spl where
  mem := []
  free := List.range 48
  tails := []
  grant := none
  drainSetting := 48
  lifeSetting := 20

/-- LIB after power-on (R48). -/
def Lib.powerOn : Lib where
  curves := List.replicate 7 none
  impulses := List.replicate 3 none

/-- TGN after power-on and RESTART (R116). -/
def Tgn.fresh : Tgn where
  source := .internal
  period := 24000
  counter := 24000
  inForce := 24000
  beatCount := 0
  frameCount := 0
  tapStamp := none
  taps := []
  pulse := none
  edge := .rising
  n := 24
  pulseCount := 0
  pulseStamp := none
  age := 0
  lamp := false

/-- TUN after power-on and RESTART (R134). -/
def Tun.fresh : Tun where
  mode := .off
  reference := 4400
  k := 8
  floor := 2048
  timebase := 0
  wraps := 0
  prevSample := none
  returned := false
  armed := false
  prevCapture := none
  series := []
  blockPeak := 0
  sinceReading := 0
  table := noteTable 4400
  state := .noSignal
  reading := none
  readingCount := 0

/-- The reason set after power-on and RESTART, {STOPPED} (R152). -/
def MuteSet.initial : MuteSet where
  stopped := true
  starting := false
  tunerSilent := false
  switchGap := false
  relayMove := false
  standby := false
  masterMute := false
  fault := false

/-- OPU after power-on (section 8.7). -/
def Opu.powerOn : Opu where
  reasons := .initial
  gain := 0
  gainState := .muted
  fault := none
  lastFault := none
  resume := none
  monMode := .off
  limit := 4
  elapsed := 0
  failover := false
  seen0 := false
  seen1 := false
  seen2 := false
  relay := .bypass
  move := none
  policy := .bypass

/-- The frame a link that has sent none holds (entry 7). -/
def OutFrame.zero : OutFrame where
  tag := 0
  slot1 := 0
  slot2 := 0
  slot3 := 0
  slot4 := 0
  slot5 := 0
  slot6 := 0
  slot7 := 0

/-- LNK at the entry to OFF at power-on and RESTART (R171, R174). -/
def Lnk.fresh : Lnk where
  state := .off
  primary := false
  secondary := false
  restPending := none
  restHeld := false
  wakePending := false
  time := 0
  queue := []
  levelPending := none
  auxValid := false
  auxIn := 0
  echo0 := none
  echo1 := none
  lastOut := .zero

/-- The part right after the release of the power-on reset input (R200): every block at its value
after power-on, the link in COLD_START (R174). -/
def State.reset : State where
  pif := .powerOn
  scn := .powerOn
  sen := .fresh
  spl := .powerOn
  lib := .powerOn
  tgn := .fresh
  tun := .fresh
  opu := .powerOn
  lnk := { Lnk.fresh with state := .coldStart }
  por := false
  freeCtr := 0
  pending := []

end Sys2Proof.Machine
end

