-- ==== Sys2Proof/Machine/Ops.lean ====
section
/-! DEFINITION. The shared operations: the delay memory, the segment free list, the port queues (the
take of a request, answers, notices), and the mute reason set with the relay's moves. -/

namespace Sys2Proof.Machine

/-! ### Delay memory (R52): a sparse list of addresses and samples in canonical form -/

/-- Read the sample at an address; an unlisted address reads as 0. -/
def memRead (m : List (Nat × Int)) (a : Nat) : Int :=
  match m with
  | [] => 0
  | (b, v) :: rest => if a < b then 0 else if a = b then v else memRead rest a

/-- Write a sample; writing 0 removes the entry. -/
def memWrite (m : List (Nat × Int)) (a : Nat) (v : Int) : List (Nat × Int) :=
  match m with
  | [] => if v = 0 then [] else [(a, v)]
  | (b, w) :: rest =>
    if a < b then (if v = 0 then (b, w) :: rest else (a, v) :: (b, w) :: rest)
    else if a = b then (if v = 0 then rest else (a, v) :: rest)
    else (b, w) :: memWrite rest a v

/-- Clear one segment to zero (R56). -/
def memClear (m : List (Nat × Int)) (seg : Nat) : List (Nat × Int) :=
  m.filter fun c => c.1 / 8192 != seg

/-- The canonical form above a bound: addresses strictly rising from it, no sample 0 listed. -/
def memWfFrom (lo : Nat) : List (Nat × Int) → Bool
  | [] => true
  | (a, v) :: rest => decide (lo ≤ a) && decide (v ≠ 0) && memWfFrom (a + 1) rest

/-- The canonical form of the delay memory. -/
def Memory.wf (m : List (Nat × Int)) : Bool := memWfFrom 0 m

/-- The address of position q of a line laid across segments in their order (R42, R53). -/
def lineAddr (segs : List Nat) (q : Nat) : Nat := segs.getD (q / 8192) 0 * 8192 + q % 8192

/-! ### The free list (R52): a set of segment numbers, kept rising -/

/-- Put one segment back. -/
def putSegment (x : Nat) : List Nat → List Nat
  | [] => [x]
  | y :: ys => if x ≤ y then x :: y :: ys else y :: putSegment x ys

/-- Put segments back (R57). -/
def putSegments (xs free : List Nat) : List Nat := xs.foldr putSegment free

/-! ### Ports (R188) -/

/-- The state of a port. -/
def Pif.port (f : Pif) : Port → PortState
  | .p0 => f.port0
  | .p1 => f.port1
  | .p2 => f.port2

/-- Replace the state of a port. -/
def Pif.setPort (f : Pif) (p : Port) (x : PortState) : Pif :=
  match p with
  | .p0 => { f with port0 := x }
  | .p1 => { f with port1 := x }
  | .p2 => { f with port2 := x }

/-- The state of a port. -/
def State.port (s : State) (p : Port) : PortState := s.pif.port p

/-- Replace the state of a port. -/
def State.setPort (s : State) (p : Port) (x : PortState) : State :=
  { s with pif := s.pif.setPort p x }

/-! ### Notices (R195, R196) -/

/-- The class of a notice. -/
def Notice.cls : Notice → NoticeClass
  | .scene _ => .scene
  | .tuner _ => .tuner
  | .beat _ => .beat
  | .tempo _ => .tempo
  | .meter _ => .meter
  | .fault _ => .fault
  | .link _ => .link
  | .aux .. => .aux
  | .latch .. => .latch

/-- The code of a class, 1 to 9 (R195). -/
def NoticeClass.code : NoticeClass → Nat
  | .scene => 1
  | .tuner => 2
  | .beat => 3
  | .tempo => 4
  | .meter => 5
  | .fault => 6
  | .link => 7
  | .aux => 8
  | .latch => 9

/-- Whether a class is latest-only (R195). -/
def NoticeClass.latestOnly : NoticeClass → Bool
  | .tuner => true
  | .beat => true
  | .meter => true
  | .aux => true
  | _ => false

/-- Whether a subscription set holds a class: bit c - 1 stands for code c (R195). -/
def subscribed (subs : Word16) (c : NoticeClass) : Bool := subs.getLsbD (c.code - 1)

/-- Replace the queued notice of the new notice's class in its place (R196, step 1). -/
def replaceNotice (n : Notice) : List Notice → List Notice
  | [] => []
  | m :: ms => if m.cls = n.cls then n :: ms else m :: replaceNotice n ms

/-- Remove the oldest notice of a latest-only class (R196, step 3). -/
def dropLatestOnly : List Notice → List Notice
  | [] => []
  | m :: ms => if m.cls.latestOnly then ms else m :: dropLatestOnly ms

/-- Place a notice in a port's notice queue (R196). -/
def PortState.offer (ps : PortState) (n : Notice) : PortState :=
  if n.cls.latestOnly && ps.notices.any (fun m => decide (m.cls = n.cls)) then
    { ps with notices := replaceNotice n ps.notices }
  else if ps.notices.length < 16 then
    { ps with notices := ps.notices ++ [n] }
  else if ps.notices.any (·.cls.latestOnly) then
    { ps with notices := dropLatestOnly ps.notices ++ [n] }
  else
    { ps with lost := true }

/-- Offer a notice to a port that is subscribed to its class (R195). -/
def PortState.notify (ps : PortState) (n : Notice) : PortState :=
  if subscribed ps.subs n.cls then ps.offer n else ps

/-- Raise a notice to every port subscribed to its class (R195). -/
def Pif.raise (f : Pif) (n : Notice) : Pif :=
  { f with
    port0 := f.port0.notify n
    port1 := f.port1.notify n
    port2 := f.port2.notify n }

/-- Raise a notice to every port subscribed to its class (R195). -/
def State.raise (s : State) (n : Notice) : State := { s with pif := s.pif.raise n }

/-! ### Taking requests and answering them (R191 to R193) -/

/-- The first FREE entry of a reply queue, counted from the given number. -/
def freeEntryFrom (i : Nat) : List ReplyEntry → Option Nat
  | [] => none
  | .free :: _ => some i
  | _ :: es => freeEntryFrom (i + 1) es

/-- The first FREE entry of a port's reply queue. -/
def PortState.freeEntry (ps : PortState) : Option Nat := freeEntryFrom 0 ps.replies

/-- Fill a RESERVED entry with a status and fields (R193). -/
def PortState.fill (ps : PortState) (entry : Nat) (st : Status) (f : Fields) : PortState :=
  match ps.replies[entry]? with
  | some (.reserved tag kind) =>
    { ps with
      replies := ps.replies.set entry
        (.filled { tag := tag, kind := kind, status := st, fields := f })
      order := ps.order ++ [entry] }
  | _ => ps

/-- Answer the request a ticket stands for (R193). -/
def State.answer (s : State) (t : Ticket) (st : Status) (f : Fields) : State :=
  { s with pif := s.pif.setPort t.port ((s.pif.port t.port).fill t.entry st f) }

/-- RDY is high while fewer than 4 requests are queued (R191). -/
def PortState.setRequests (ps : PortState) (rs : List (List Byte)) : PortState :=
  { ps with requests := rs, rdy := decide (rs.length < 4) }

/-- What the request queue becomes when a request is taken: the oldest request leaves it when it
reads as the one taken; with an empty queue the request is taken as it comes (entry 5); with another
request the oldest, this one is not taken. -/
def afterTake (tag : Byte) (q : Request) : List (List Byte) → Option (List (List Byte))
  | [] => some []
  | b :: rest => if readRequest b = .request tag q then some rest else none

/-- Reserve an entry for a request that is taken (R192). -/
def PortState.reserve (ps : PortState) (entry : Nat) (tag : Byte) (kind : Nat)
    (rs : List (List Byte)) : PortState :=
  { ps with replies := ps.replies.set entry (.reserved tag kind) }.setRequests rs

/-- The take of a request (R192): not while the reset input is asserted or a RESTART is in progress,
and only with a FREE entry, which becomes RESERVED; its owner then acts on it in the same event. -/
def takeRequest (p : Port) (tag : Byte) (q : Request) (owner : Ticket → State → State)
    (s : State) : State :=
  if s.por || s.pif.restart.isSome then s
  else
    match afterTake tag q (s.port p).requests, (s.port p).freeEntry with
    | some rs, some e =>
      owner { port := p, entry := e } (s.setPort p ((s.port p).reserve e tag q.code rs))
    | _, _ => s

/-- An event of the part itself: nothing happens while the reset input is asserted (R200). -/
def unlessReset (f : State → State) (s : State) : State := if s.por then s else f s

/-! ### The mute reason set (R152, R153) -/

/-- Whether the set is empty. -/
def MuteSet.isEmpty (m : MuteSet) : Bool :=
  !(m.stopped || m.starting || m.tunerSilent || m.switchGap || m.relayMove || m.standby ||
    m.masterMute || m.fault)

/-- Put a reason in the set or take it out. -/
def MuteSet.put (m : MuteSet) (r : Reason) (b : Bool) : MuteSet :=
  match r with
  | .stopped => { m with stopped := b }
  | .starting => { m with starting := b }
  | .tunerSilent => { m with tunerSilent := b }
  | .switchGap => { m with switchGap := b }
  | .relayMove => { m with relayMove := b }
  | .standby => { m with standby := b }
  | .masterMute => { m with masterMute := b }
  | .fault => { m with fault := b }

/-- Whether a reason is in the set. -/
def MuteSet.has (m : MuteSet) : Reason → Bool
  | .stopped => m.stopped
  | .starting => m.starting
  | .tunerSilent => m.tunerSilent
  | .switchGap => m.switchGap
  | .relayMove => m.relayMove
  | .standby => m.standby
  | .masterMute => m.masterMute
  | .fault => m.fault

/-- The gain state after the set changes (the last two columns of R153's table). -/
def gainStateAfter (wasEmpty nowEmpty : Bool) (g : GainState) : GainState :=
  match wasEmpty, nowEmpty, g with
  | true, false, .opened => .rampDown
  | true, false, .rampUp => .rampDown
  | false, true, .rampDown => .rampUp
  | false, true, .muted => .rampUp
  | _, _, g => g

/-- Change the reason set; the gain state follows (R153). -/
def Opu.setReasons (o : Opu) (m : MuteSet) : Opu :=
  { o with
    reasons := m
    gainState := gainStateAfter o.reasons.isEmpty m.isEmpty o.gainState }

/-- Add a reason (R152). -/
def Opu.addReason (o : Opu) (r : Reason) : Opu := o.setReasons (o.reasons.put r true)

/-- Remove a reason (R152). -/
def Opu.removeReason (o : Opu) (r : Reason) : Opu := o.setReasons (o.reasons.put r false)

/-- Put one reason in as another leaves, in one event (R154). -/
def Opu.swapReason (o : Opu) (into out : Reason) : Opu :=
  o.setReasons ((o.reasons.put into true).put out false)

/-- Add a reason (R152). -/
def State.addReason (s : State) (r : Reason) : State := { s with opu := s.opu.addReason r }

/-- Remove a reason (R152). -/
def State.removeReason (s : State) (r : Reason) : State := { s with opu := s.opu.removeReason r }

/-! ### Relay moves (R168, R170) -/

/-- Request an ordinary move (R168). -/
def Opu.ordinaryMove (o : Opu) (target : Relay) : Opu :=
  match o.move with
  | none =>
    if target = o.relay then o
    else { o.addReason .relayMove with
      move := some { target := target, hold := none, next := none } }
  | some m =>
    match m.hold with
    | none =>
      if target = o.relay then { o.removeReason .relayMove with move := none }
      else { o with move := some { m with target := target } }
    | some _ => { o with move := some { m with next := some target } }

/-- A forced move (R170). -/
def Opu.forceBypass (o : Opu) : Opu :=
  { o.removeReason .relayMove with relay := .bypass, move := none }

end Sys2Proof.Machine
end

