-- ==== Sys2Proof/Machine/Flags.lean ====
section
/-! DEFINITION. The indicator bits: lamps, the aux output word, the tags of link frames, the loop open
condition, and the pins that follow from the state. -/

namespace Sys2Proof.Machine

/-! ### Lamps and the aux output word (R146, R185) -/

/-- The cents of the reading on show in LOCKED. -/
def Tun.cents (t : Tun) : Option Int :=
  match t.state, t.reading with
  | .locked, some r => r.note.map (·.cents)
  | _, _ => none

/-- The flat lamp, aux output bit 10 (R146). -/
def Tun.flatLamp (t : Tun) : Bool := t.cents.any fun c => decide (c < -3)

/-- The in-tune lamp, aux output bit 11 (R146). -/
def Tun.inTuneLamp (t : Tun) : Bool := t.cents.any fun c => decide (-3 ≤ c) && decide (c ≤ 3)

/-- The sharp lamp, aux output bit 12 (R146). -/
def Tun.sharpLamp (t : Tun) : Bool := t.cents.any fun c => decide (3 < c)

/-- A one-bit value at a bit position of a 16-bit word. -/
def bitAt (i : Nat) (b : Bool) : Word16 := if b then 1#16 <<< i else 0#16

/-- The aux output word as it would be composed now (R185). -/
def State.auxOut (s : State) : Word16 :=
  (s.scn.latch &&& 255#16) ||| bitAt 8 s.tgn.lamp ||| bitAt 9 s.sen.summaryClip |||
  bitAt 10 s.tun.flatLamp ||| bitAt 11 s.tun.inTuneLamp ||| bitAt 12 s.tun.sharpLamp |||
  bitAt 13 s.opu.fault.isSome

/-! ### Tags and slots (section 9.1) -/

/-- The valid mark of a slot, 1 to 7, in a tag. -/
def slotValid (tag : Word24) (slot : Nat) : Bool := tag.getLsbD (slot - 1)

/-- The converter ready bit of an incoming tag. -/
def readyBit (tag : Word24) : Bool := tag.getLsbD 23

/-- The sample in a slot: two's complement, 0 when the slot's valid mark is clear (R172). -/
def slotSample (tag : Word24) (slot : Nat) (w : Word24) : Int :=
  if slotValid tag slot then w.toInt else 0

/-- The status echo of a frame (section 9.1): present when the slot 1 mark is set. -/
def echoOf (f : InFrame) : Option Echo :=
  if slotValid f.tag 1 then
    some { index := f.slot1.toNat % 128, data := f.slot2.setWidth 16 }
  else none

/-- A sample as a slot word. -/
def slotWord (x : Int) : Word24 := BitVec.ofInt 24 x

/-- A flag at a bit position of a tag. -/
def tagBit (i : Nat) (b : Bool) : Word24 := if b then 1#24 <<< i else 0#24

/-! ### Conditions -/

/-- The loop open condition (R46): the secondary converter is not ready, or aux input bit 0 is clear. -/
def State.loopOpen (s : State) : Bool := !s.lnk.secondary || !s.lnk.auxIn.getLsbD 0

/-- The power warning is high (R156). -/
def State.powerWarning (s : State) : Bool := s.lnk.auxIn.getLsbD 2

/-! ### Pins (R171, section 8.6) -/

/-- What FSY does. -/
inductive FsyPin where
  | low | high | runs
  deriving DecidableEq, Repr

/-- FSY by link state (R171). -/
def State.fsy (s : State) : FsyPin :=
  match s.lnk.state with
  | .off => .low
  | .coldStart => .low
  | .syncing => .runs
  | .running => .runs
  | .lost => .runs
  | .resting => .low
  | .waking => .high

/-- CRST is asserted (R171). -/
def State.crst (s : State) : Bool :=
  match s.lnk.state with
  | .off => true
  | .coldStart => true
  | _ => false

/-- RLY drives BYPASS (section 8.6). -/
def State.rlyBypass (s : State) : Bool := decide (s.opu.relay = .bypass)

end Sys2Proof.Machine
end

