-- ==== Sys2Proof/Machine/Operands.lean ====
section
/-! DEFINITION. The operand forms of the requests: choices read as integers counting from 0 in the
order the owning rule names the values (R190), slots and indices, clamped values, names, and the
judgement of a parameter value (R25). -/

namespace Sys2Proof.Machine

/-! ### Choices (R190) -/

/-- A tempo source (R122). -/
def tempoSourceOf (v : Int) : Option TempoSource :=
  if v = 0 then some .internal else if v = 1 then some .tap else if v = 2 then some .pulse else none

/-- A pulse edge (R122). -/
def pulseEdgeOf (v : Int) : Option PulseEdge :=
  if v = 0 then some .rising else if v = 1 then some .falling else if v = 2 then some .both else none

/-- A tuner mode (R145). -/
def tunerModeOf (v : Int) : Option TunerMode :=
  if v = 0 then some .off else if v = 1 then some .monitor else if v = 2 then some .silent else none

/-- The value of MUTE, on or off (R155), on the first-named value 0 (entry 14). -/
def muteOf (v : Int) : Option Bool :=
  if v = 0 then some true else if v = 1 then some false else none

/-- A RESUME mode (R161). -/
def resumeModeOf (v : Int) : Option ResumeMode :=
  if v = 0 then some .scene else if v = 1 then some .safe else if v = 2 then some .bypass else none

/-- A monitor mode (R163, R164). -/
def monModeOf (v : Int) : Option MonMode :=
  if v = 0 then some .off else if v = 1 then some .report
  else if v = 2 then some .failover else none

/-- A relay policy (R164). -/
def policyOf (v : Int) : Option Policy :=
  if v = 0 then some .bypass else if v = 1 then some .hold else none

/-- A converter (R182). -/
def targetOf (v : Int) : Option Target :=
  if v = 0 then some .primary else if v = 1 then some .secondary else none

/-- Read an optional choice: absent, not one of the values, or a value. -/
def optChoice {α : Type} (f : Int → Option α) : Option Int → Option (Option α)
  | none => some none
  | some v => (f v).map some

/-! ### Numbers -/

/-- An integer within a range, as a natural number. -/
def inRange (lo hi v : Int) : Option Nat := if lo ≤ v ∧ v ≤ hi then some v.toNat else none

/-- A library slot, 0 to 127 (R72). -/
def slotOf (v : Int) : Option Nat := inRange 0 127 v

/-- A value clamped to a range of natural numbers. -/
def clampNat (lo hi : Nat) (v : Int) : Nat := (clampTo lo hi v).toNat

/-- Whether clamping changes a value. -/
def clamps (lo hi : Nat) (v : Int) : Bool := decide (clampTo lo hi v ≠ v)

/-- Whether clamping changes an optional value. -/
def optClamps (lo hi : Nat) (v : Option Int) : Bool := v.any (clamps lo hi)

/-- DONE, or CLAMPED when a value was clamped. -/
def doneOrClamped (clamped : Bool) : Status := if clamped then .clamped else .done

/-- A name: 1 to 16 characters with codes 32 to 126, at least one not a space (R73). -/
def nameOk (n : List Byte) : Bool :=
  decide (1 ≤ n.length) && decide (n.length ≤ 16) &&
  n.all (fun c => decide (32 ≤ c.toNat) && decide (c.toNat ≤ 126)) &&
  n.any (fun c => decide (c.toNat ≠ 32))

/-! ### Parameters (R24, R25) -/

/-- The judgement of a parameter value carried by an EDIT (R25): none is INVALID; otherwise the value
to store and whether it was clamped. -/
def editValue (k : StageKind) (id v : Int) : Option (Int × Bool) :=
  if id < 0 then none
  else
    match k.range id.toNat with
    | none => none
    | some (lo, hi) =>
      if k = .delay ∧ id = 0 then none
      else if k = .mod ∧ id = 0 ∧ v ≠ 0 ∧ v ≠ 1 then none
      else some (clampTo lo hi v, decide (clampTo lo hi v ≠ v))

/-- A parameter value as WRITE-PRESET stores it (R77). -/
def storedValue (k : StageKind) (id : Nat) (v : Int) : Int :=
  match k.range id with
  | some (lo, hi) => clampTo lo hi v
  | none => v

/-- Whether a stored parameter value lies in its range (R24, R73). -/
def paramOk (k : StageKind) (id : Nat) (v : Int) : Bool :=
  match k.range id with
  | some (lo, hi) => decide (lo ≤ v) && decide (v ≤ hi)
  | none => false

end Sys2Proof.Machine
end

