-- ==== Sys2Proof/Machine/Stages.lean ====
section
/-! DEFINITION. The ten stage kinds (chapter 2): the arithmetic of each, frame by frame, the state a
newly built instance holds, what an instance does at the start of a pass, and one stage over the
sixteen frames of a pass. -/

namespace Sys2Proof.Machine

/-! ### Parameters (R24, R26) -/

/-- The current value of a parameter. -/
def StageInst.p (i : StageInst) (id : Nat) : Int := i.cur.getD id 0

/-- The glide from a to b at frame j of a pass, j from 1 to 16 (R26). -/
def glideAt (a b : Int) (j : Nat) : Int := a + ((b - a) * (j : Int) + 8) / 16

/-- The value a glided parameter takes in frame j (R26). -/
def StageInst.g (i : StageInst) (id j : Nat) : Int := glideAt (i.cur.getD id 0) (i.tgt.getD id 0) j

/-- Write a parameter value to an instance (R26, R111): a glided one becomes the target, a stepped one
holds from the next pass. -/
def StageInst.setParam (i : StageInst) (id : Nat) (v : Int) : StageInst :=
  if i.kind.glides id then { i with tgt := i.tgt.set id v }
  else { i with cur := i.cur.set id v, tgt := i.tgt.set id v }

/-! ### Frames -/

/-- What a stage gives for one frame: its output down the chain, what it adds to the tail bus, the
loop send, and its reports. -/
structure FrameOut where
  y : Int
  bus : Int
  send : Int
  clip : Bool
  satIn : Bool
  deriving DecidableEq, Repr

/-- A frame with an output and nothing else. -/
def FrameOut.plain (y : Int) : FrameOut := { y := y, bus := 0, send := 0, clip := false, satIn := false }

/-- Run a frame function over the frames of a pass, numbered from j. -/
def runFrames {σ : Type} (f : σ → Nat → Int → σ × FrameOut) :
    Nat → σ → List Int → σ × List FrameOut
  | _, st, [] => (st, [])
  | j, st, x :: xs =>
    let r := f st j x
    let more := runFrames f (j + 1) r.1 xs
    (more.1, r.2 :: more.2)

/-- The mix of a wet and a dry sample, floor((w X + x (4,096 - X) + 2,048) / 4,096). -/
def mixed (w x mix : Int) : Int := q12 (w * mix + x * (4096 - mix))

/-- The wet portion of a frame (R42). -/
def wetPortion (w mix : Int) : Int := q12 (w * mix)

/-- The dry portion of a frame (R42). -/
def dryPortion (x mix : Int) : Int := q12 (x * (4096 - mix))

/-- The cut gain of frame j (R67). -/
def cutGain (j : Nat) : Int := 4096 - 256 * (j : Int)

/-! ### GATE (R29, R30) -/

/-- The state of a GATE within a pass. -/
structure GateRun where
  st : GateState
  hold : Nat
  m : Nat
  deriving DecidableEq, Repr

/-- The gain in RELEASING at release position m (R30). -/
def releaseGain (m r : Nat) : Int := 4096 - (4096 * (m : Int) + 8 * (r : Int)) / (16 * (r : Int))

/-- One frame of a GATE with threshold thr and release blocks r (R29, R30). -/
def gateFrame (thr : Int) (r : Nat) (g : GateRun) (_j : Nat) (x : Int) : GateRun × FrameOut :=
  if thr < x.natAbs then ({ st := .opened, hold := 0, m := 0 }, .plain (q12 (x * 4096)))
  else
    match g.st with
    | .opened => (g, .plain (q12 (x * 4096)))
    | .closed => (g, .plain (q12 (x * 0)))
    | .releasing =>
      if 16 * r ≤ g.m then ({ g with st := .closed, m := 0 }, .plain (q12 (x * 0)))
      else if g.m + 1 = 16 * r then
        ({ g with st := .closed, m := 0 }, .plain (q12 (x * releaseGain (g.m + 1) r)))
      else ({ g with m := g.m + 1 }, .plain (q12 (x * releaseGain (g.m + 1) r)))

/-- The end of a GATE's pass, with hold blocks h (R29). -/
def gateEnd (thr : Int) (h : Nat) (xs : List Int) (g : GateRun) : GateRun :=
  if g.st = .opened then
    let hold := if xs.all fun x => decide ((x.natAbs : Int) ≤ thr) then g.hold + 1 else 0
    if h < hold then { st := .releasing, hold := hold, m := 0 } else { g with hold := hold }
  else g

/-! ### COMP (R31, R32) -/

/-- The target gain for a block peak p, threshold t and ratio r (R31). -/
def compTarget (p t r : Nat) : Nat :=
  if p ≤ t then 4096 else (8192 * (t * r + p - t) + r * p) / (2 * r * p)

/-- The applied gain after a pass (R31). -/
def compNext (g t attack release : Nat) : Nat :=
  if t < g then g - ceilDiv (g - t) attack
  else if g < t then g + ceilDiv (t - g) release
  else g

/-- One frame of a COMP whose gain moves from g to g' with makeup m (R32). -/
def compFrame (g g' : Nat) (m : Int) (_ : Unit) (j : Nat) (x : Int) : Unit × FrameOut :=
  let v := (x * glideAt g g' j * m + 8388608) / 16777216
  ((), { FrameOut.plain (sat v) with clip := satHits v })

/-! ### DRIVE (R33 to R35) -/

/-- The curve read at u, interpolated (R34). -/
def shaper (curve : List Int) (u : Int) : Int :=
  let v := u + 8388608
  let i := (v / 65536).toNat
  let f := v - 65536 * (i : Int)
  let c0 := curve.getD i 0
  let c1 := curve.getD (i + 1) 0
  c0 + ((c1 - c0) * f + 32768) / 65536

/-- One frame of a DRIVE (R33 to R35). -/
def driveFrame (i : StageInst) (curve : List Int) (_ : Unit) (j : Nat) (x : Int) : Unit × FrameOut :=
  let u0 := (x * i.p 0 + 128) / 256
  let u1 := u0 + i.p 1
  let s := 256 * shaper curve (sat u1)
  let z0 := q12 (s * i.g 3 j)
  ((), { y := mixed (sat z0) x (i.g 4 j), bus := 0, send := 0
         clip := satHits z0, satIn := satHits u1 })

/-! ### TONE (R37) -/

/-- One second-order section with its five coefficients (R37): the output before saturation, and the
histories after it. -/
def toneSection (b0 b1 b2 a1 a2 : Int) (h : ToneHist) (x : Int) : Int × ToneHist :=
  let w := b0 * x + b1 * h.x1 + b2 * h.x2 - a1 * h.y1 - a2 * h.y2
  let y0 := (w + 2097152) / 4194304
  (y0, { x1 := x, x2 := h.x1, y1 := sat y0, y2 := h.y1 })

/-- Section s of a TONE with the instance's coefficients (R24). -/
def StageInst.toneAt (i : StageInst) (s : Nat) (h : ToneHist) (x : Int) : Int × ToneHist :=
  toneSection (i.p (5 * s)) (i.p (5 * s + 1)) (i.p (5 * s + 2)) (i.p (5 * s + 3))
    (i.p (5 * s + 4)) h x

/-- One frame of a TONE (R37). -/
def toneFrame (i : StageInst) (h : ToneHist × ToneHist × ToneHist) (_j : Nat) (x : Int) :
    (ToneHist × ToneHist × ToneHist) × FrameOut :=
  let r0 := i.toneAt 0 h.1 x
  let r1 := i.toneAt 1 h.2.1 (sat r0.1)
  let r2 := i.toneAt 2 h.2.2 (sat r1.1)
  ((r0.2, r1.2, r2.2),
    { FrameOut.plain (sat r2.1) with clip := satHits r0.1 || satHits r1.1 || satHits r2.1 })

/-! ### CAB (R38) -/

/-- The sum of products of two lists. -/
def dot : List Int → List Int → Int
  | a :: as, b :: bs => a * b + dot as bs
  | _, _ => 0

/-- One frame of a CAB: the taps over the input and the 255 inputs before it (R38). -/
def cabFrame (i : StageInst) (taps : List Int) (hist : List Int) (j : Nat) (x : Int) :
    List Int × FrameOut :=
  let v := (dot taps (x :: hist) * i.g 1 j + 67108864) / 134217728
  ((x :: hist).take 255, { FrameOut.plain (sat v) with clip := satHits v })

/-! ### MOD (R39 to R41) -/

/-- The length of a MOD's LFO in frames (R39). -/
def StageInst.lfoLength (i : StageInst) : Nat :=
  match i.sync with
  | none => 16 * (i.p 1).toNat
  | some code => max 192 (min 192000 (syncedTime i.beat code))

/-- The triangle value at a phase (R39). -/
def triangle (len phase : Nat) : Int :=
  (8192 * (min phase (len - phase) : Nat) + (len / 2 : Nat) : Int) / (len : Int)

/-- The chorus line read at a fractional delay (R41). -/
def chorusRead (line : List Int) (depth tri : Int) : Int :=
  let tau := 4096 + depth * tri / 64
  let e := (tau / 256).toNat
  let q := tau - 256 * (e : Int)
  let r0 := line.getD e 0
  let r1 := line.getD (e + 1) 0
  r0 + ((r1 - r0) * q + 128) / 256

/-- The phase and the chorus line of a MOD within a pass. -/
structure ModRun where
  phase : Nat
  line : List Int
  deriving DecidableEq, Repr

/-- One frame of a MOD with LFO length len: the line is written first, whatever the type (R41). -/
def modFrame (i : StageInst) (len : Nat) (r : ModRun) (j : Nat) (x : Int) : ModRun × FrameOut :=
  let line := (x :: r.line).take 2048
  let tri := triangle len r.phase
  let wet :=
    if i.p 0 = 1 then chorusRead line (i.p 2) tri
    else q12 (x * (4096 - q12 (i.p 2 * tri)))
  ({ phase := if r.phase + 1 < len then r.phase + 1 else 0, line := line },
    .plain (mixed wet x (i.g 3 j)))

/-! ### DELAY (R42, R58 to R60) -/

/-- The reach of a DELAY instance: its segments times 8,192 (R53). -/
def StageInst.reach (i : StageInst) : Nat := 8192 * i.segs.length

/-- The target time of a DELAY (R58). -/
def StageInst.targetTime (i : StageInst) : Nat :=
  match i.sync with
  | none => (i.p 1).toNat
  | some code => syncedTime i.beat code

/-- The clamped target of a DELAY (R59). -/
def StageInst.clampedTarget (i : StageInst) : Nat := min i.targetTime (i.reach - 16)

/-- Whether the clamp of R59 bites (R61). -/
def StageInst.reachExceeded (i : StageInst) : Bool := decide (i.reach - 16 < i.targetTime)

/-- The effective time at the start of a pass: at most 32 frames nearer the clamped target (R60). -/
def glideTime (d c : Nat) : Nat :=
  if d < c then min c (d + 32) else if c < d then max c (d - 32) else d

/-- A line of delay memory and a write position within a pass. -/
structure DelayRun where
  mem : List (Nat × Int)
  wp : Nat

/-- One frame of a DELAY's line for input x: the wet sample, then the write and the advance; the last
part says whether the write saturated (R42). -/
def delayCore (segs : List Nat) (reach time : Nat) (fb : Int) (r : DelayRun) (x : Int) :
    DelayRun × Int × Bool :=
  let w := memRead r.mem (lineAddr segs ((r.wp + (reach - time)) % reach))
  let v := x + q12 (w * fb)
  ({ mem := memWrite r.mem (lineAddr segs r.wp) (sat v)
     wp := if r.wp + 1 < reach then r.wp + 1 else 0 }, w, satHits v)

/-! ### REVERB (R43, R44) -/

/-- The four comb lines: where each begins in the segments, and its length (section 2.9). -/
def combLines : List (Nat × Nat) := [(0, 1811), (1811, 2053), (3864, 2297), (6161, 2539)]

/-- The two all-pass lines. -/
def allpassLines : List (Nat × Nat) := [(8700, 347), (9047, 613)]

/-- A position advanced in a line of length len. -/
def advance (pos len : Nat) : Nat := if pos + 1 < len then pos + 1 else 0

/-- What the combs give: the memory, their states, the sum of their reads, a saturation. -/
structure CombsOut where
  mem : List (Nat × Int)
  combs : List CombState
  sum : Int
  clip : Bool

/-- The comb filters for comb input xin, decay k and damping q (R43). -/
def runCombs (segs : List Nat) (k q xin : Int) :
    List (Nat × Nat) → List CombState → List (Nat × Int) → CombsOut
  | (off, len) :: ls, c :: cs, mem =>
    let r := memRead mem (lineAddr segs (off + c.pos))
    let damp := c.damp + q12 ((r - c.damp) * (4096 - q))
    let v := xin + q12 (damp * k)
    let rest := runCombs segs k q xin ls cs (memWrite mem (lineAddr segs (off + c.pos)) (sat v))
    { mem := rest.mem
      combs := { pos := advance c.pos len, damp := damp } :: rest.combs
      sum := r + rest.sum
      clip := satHits v || rest.clip }
  | _, cs, mem => { mem := mem, combs := cs, sum := 0, clip := false }

/-- What the all-passes give: the memory, their positions, the output, a saturation. -/
structure AllpassOut where
  mem : List (Nat × Int)
  pos : List Nat
  out : Int
  clip : Bool

/-- The all-pass filters in series for input a (R44). -/
def runAllpass (segs : List Nat) :
    List (Nat × Nat) → List Nat → Int → List (Nat × Int) → AllpassOut
  | (off, len) :: ls, p :: ps, a, mem =>
    let b := memRead mem (lineAddr segs (off + p))
    let h0 := a + q12 (b * 2048)
    let a0 := b - q12 (sat h0 * 2048)
    let rest := runAllpass segs ls ps (sat a0) (memWrite mem (lineAddr segs (off + p)) (sat h0))
    { mem := rest.mem
      pos := advance p len :: rest.pos
      out := rest.out
      clip := satHits h0 || satHits a0 || rest.clip }
  | _, ps, a, mem => { mem := mem, pos := ps, out := a, clip := false }

/-- The memory, combs and all-passes of a REVERB within a pass. -/
structure ReverbRun where
  mem : List (Nat × Int)
  combs : List CombState
  allpass : List Nat

/-- One frame of a REVERB's network for input x (R43, R44). -/
def reverbCore (segs : List Nat) (k q : Int) (r : ReverbRun) (x : Int) : ReverbRun × Int × Bool :=
  let c := runCombs segs k q ((x + 2) / 4) combLines r.combs r.mem
  let a := runAllpass segs allpassLines r.allpass (sat c.sum) c.mem
  ({ mem := a.mem, combs := c.combs, allpass := a.pos }, a.out,
    c.clip || satHits c.sum || a.clip)

/-! ### DELAY and REVERB in the chain, diverted, cut and as a tail -/

/-- How a DELAY or REVERB runs in a pass: in its chain; disabled (R27); diverted, with the outgoing
gain of each frame (R103); cut in its context (R68); or as a tail (R64), cut or not (R67). -/
inductive WetMode where
  | chain | disabled | diverted (gOut : List Int) | chainCut | divertedCut (gOut : List Int)
  | tail | tailCut
  deriving DecidableEq, Repr

/-- One frame of a DELAY or REVERB in a mode, over the core of its kind. -/
def wetFrame {σ : Type} (core : σ → Int → σ × Int × Bool) (mode : WetMode) (mix : Nat → Int)
    (st : σ) (j : Nat) (x : Int) : σ × FrameOut :=
  match mode with
  | .chain =>
    let r := core st x
    (r.1, { FrameOut.plain (mixed r.2.1 x (mix j)) with clip := r.2.2 })
  | .disabled =>
    let r := core st 0
    (r.1, .plain x)
  | .diverted gOut =>
    let x' := q12 (x * gOut.getD (j - 1) 0)
    let r := core st x'
    (r.1, { FrameOut.plain (dryPortion x' (mix j)) with
            bus := wetPortion r.2.1 (mix j), clip := r.2.2 })
  | .chainCut =>
    let r := core st x
    (r.1, { FrameOut.plain (dryPortion x (mix j) + q12 (wetPortion r.2.1 (mix j) * cutGain j)) with
            clip := r.2.2 })
  | .divertedCut gOut =>
    let x' := q12 (x * gOut.getD (j - 1) 0)
    let r := core st x'
    (r.1, { FrameOut.plain (dryPortion x' (mix j)) with
            bus := q12 (wetPortion r.2.1 (mix j) * cutGain j), clip := r.2.2 })
  | .tail =>
    let r := core st 0
    (r.1, { FrameOut.plain 0 with bus := wetPortion r.2.1 (mix j), clip := r.2.2 })
  | .tailCut =>
    let r := core st 0
    (r.1, { FrameOut.plain 0 with
            bus := q12 (wetPortion r.2.1 (mix j) * cutGain j), clip := r.2.2 })

/-! ### LOOP (R45, R46) and VOLUME (R47) -/

/-- One frame of a closed LOOP; the returns are those of the input block (R45). -/
def loopFrame (i : StageInst) (returns : List Int) (_ : Unit) (j : Nat) (x : Int) : Unit × FrameOut :=
  let s0 := q12 (x * i.g 0 j)
  let r0 := q12 (returns.getD (j - 1) 0 * i.g 1 j)
  ((), { y := mixed (sat r0) x (i.g 2 j), bus := 0, send := sat s0
         clip := satHits s0 || satHits r0, satIn := false })

/-- One frame of a VOLUME (R47). -/
def volumeFrame (i : StageInst) (_ : Unit) (j : Nat) (x : Int) : Unit × FrameOut :=
  let v := q12 (x * i.g 0 j)
  ((), { FrameOut.plain (sat v) with clip := satHits v })

/-! ### The shape library (R36, R38, R48) -/

/-- The points of a curve slot; none when it is not loaded. -/
def Lib.curve (l : Lib) (slot : Nat) : Option (List Int) :=
  if slot = 0 then some curveZero else l.curves.getD (slot - 1) none

/-- The taps of an impulse slot; none when it is not loaded. -/
def Lib.impulse (l : Lib) (slot : Nat) : Option (List Int) :=
  if slot = 0 then some impulseZero else l.impulses.getD (slot - 1) none

/-- Whether the slot a DRIVE or CAB names is loaded (R36, R38); true for the other kinds. -/
def slotLoaded (l : Lib) (k : StageKind) (params : List Int) : Bool :=
  match k with
  | .drive => (l.curve (params.getD 2 0).toNat).isSome
  | .cab => (l.impulse (params.getD 0 0).toNat).isSome
  | _ => true

/-- The used slot that a named slot resolves to (R36, R38). -/
def usedSlot (loaded : Bool) (named : Nat) : Nat := if loaded then named else 0

/-! ### Building and starting a pass (R12, R24, R99) -/

/-- An all-zero tone history. -/
def ToneHist.zero : ToneHist := { x1 := 0, x2 := 0, y1 := 0, y2 := 0 }

/-- A newly built status record (R20). -/
def StatusRec.fresh (degraded : Bool) : StatusRec :=
  { peak := 0, clip := false, satIn := false, silent := true, degraded := degraded, loopOpen := false }

/-- A stage instance built from a stage entry, with its segments and the period register as they
stand (R12, R24, R58, R59). -/
def buildStage (l : Lib) (period : Nat) (segs : List Nat) (e : StageEntry) : StageInst :=
  let blank : StageInst :=
    { kind := e.kind, enabled := e.enabled, spill := e.spill, sync := e.sync
      cur := e.params, tgt := e.params, beat := period, run := .volume, segs := segs
      status := .fresh false, ranOff := false, cut := false }
  let loaded := slotLoaded l e.kind e.params
  match e.kind with
  | .gate => { blank with run := .gate .opened 0 0 }
  | .comp => { blank with run := .comp 4096 }
  | .drive =>
    { blank with run := .drive (usedSlot loaded (e.params.getD 2 0).toNat), status := .fresh !loaded }
  | .tone => { blank with run := .tone .zero .zero .zero }
  | .cab =>
    { blank with
      run := .cab (usedSlot loaded (e.params.getD 0 0).toNat) (List.replicate 255 0)
      status := .fresh !loaded }
  | .mod => { blank with run := .mod blank.lfoLength 0 (List.replicate 2048 0) }
  | .delay =>
    { blank with run := .delay 0 blank.clampedTarget, status := .fresh blank.reachExceeded }
  | .reverb =>
    { blank with run := .reverb (List.replicate 4 { pos := 0, damp := 0 }) (List.replicate 2 0) }
  | .loop => { blank with run := .loop }
  | .volume => { blank with run := .volume }

/-- The cause under which a built stage counts as degraded (R97). -/
def builtCause (i : StageInst) : Option DegradedCause :=
  if i.status.degraded then
    match i.kind with
    | .drive => some .curve
    | .cab => some .impulse
    | .delay => some .reach
    | _ => none
  else none

/-- Set the DEGRADED mark. -/
def StageInst.mark (i : StageInst) (b : Bool) : StageInst :=
  { i with status := { i.status with degraded := b } }

/-- What a stage of a context does at the start of a pass: DRIVE and CAB resolve their slot (R36,
R38), MOD takes a changed length (R39), DELAY glides and is marked (R60, R61), GATE and COMP enabled
again start as newly built (R27). A stage of a back context does so only in the passes that run it: in
PREPARE and GAP_OUT a built one keeps the mark of its build (entry 84). -/
def startPass (l : Lib) (i : StageInst) : StageInst :=
  let loaded := slotLoaded l i.kind i.cur
  match i.run with
  | .gate st hold m =>
    if i.enabled && i.ranOff then { i with run := .gate .opened 0 0 }
    else { i with run := .gate st hold m }
  | .comp g => if i.enabled && i.ranOff then { i with run := .comp 4096 } else { i with run := .comp g }
  | .drive _ => { i with run := .drive (usedSlot loaded (i.p 2).toNat) }.mark !loaded
  | .cab _ hist => { i with run := .cab (usedSlot loaded (i.p 0).toNat) hist }.mark !loaded
  | .mod len phase line =>
    let len' := i.lfoLength
    { i with run := .mod len' (if len' = len then phase else phase * len' / len) line }
  | .delay wp time =>
    { i with run := .delay wp (glideTime time i.clampedTarget) }.mark i.reachExceeded
  | _ => i

/-- What the stage of a tail does at the start of a pass: a DELAY glides on; its mark stays (R61,
R63). -/
def startTailPass (i : StageInst) : StageInst :=
  match i.run with
  | .delay wp time => { i with run := .delay wp (glideTime time i.clampedTarget) }
  | _ => i

/-- Whether a stage's DEGRADED mark has become set by a beat period handed over (R61). -/
def tempoMarked (before after : StageInst) : Bool :=
  decide (after.kind = .delay) && after.sync.isSome && !before.status.degraded &&
  after.status.degraded

/-! ### One stage over a pass -/

/-- What a stage gives for a pass: the instance after it, the delay memory, its frames. -/
structure StageOut where
  inst : StageInst
  mem : List (Nat × Int)
  frames : List FrameOut

/-- A frame list that hands the input on (R27). -/
def passThrough (xs : List Int) : List FrameOut := xs.map .plain

/-- The instance after a pass: its running state, its glides complete (R26). -/
def StageInst.after (i : StageInst) (run : StageRun) : StageInst :=
  { i with run := run, cur := i.tgt, ranOff := !i.enabled }

/-- How a DELAY or REVERB of a context runs (R27, R68, R103). -/
def StageInst.wetMode (i : StageInst) (gOut : Option (List Int)) : WetMode :=
  if !i.enabled then .disabled
  else
    match gOut, decide (i.spill = .hold), i.cut with
    | some g, true, false => .diverted g
    | some g, true, true => .divertedCut g
    | _, _, true => .chainCut
    | _, _, false => .chain

/-- One stage over the sixteen frames of a pass, its start already made.  `gOut` holds the outgoing
gains when the context's HOLD stages are diverted (R103); `wet` says how a DELAY or REVERB runs. -/
def runStage (l : Lib) (loopOpen : Bool) (returns : List Int) (wet : WetMode) (i : StageInst)
    (mem : List (Nat × Int)) (xs : List Int) : StageOut :=
  match i.run with
  | .gate st hold m =>
    if i.enabled then
      let thr := i.p 0
      let r := runFrames (gateFrame thr (i.p 2).toNat) 1 { st := st, hold := hold, m := m } xs
      let e := gateEnd thr (i.p 1).toNat xs r.1
      { inst := i.after (.gate e.st e.hold e.m), mem := mem, frames := r.2 }
    else { inst := i.after i.run, mem := mem, frames := passThrough xs }
  | .comp g =>
    if i.enabled then
      let t := compTarget (peakOf xs) (i.p 0).toNat (i.p 1).toNat
      let g' := compNext g t (i.p 2).toNat (i.p 3).toNat
      let r := runFrames (compFrame g g' (i.p 4)) 1 () xs
      { inst := i.after (.comp g'), mem := mem, frames := r.2 }
    else { inst := i.after i.run, mem := mem, frames := passThrough xs }
  | .drive used =>
    if i.enabled then
      let r := runFrames (driveFrame i ((l.curve used).getD curveZero)) 1 () xs
      { inst := i.after i.run, mem := mem, frames := r.2 }
    else { inst := i.after i.run, mem := mem, frames := passThrough xs }
  | .tone s0 s1 s2 =>
    let r := runFrames (toneFrame i) 1 (s0, s1, s2) xs
    { inst := i.after (.tone r.1.1 r.1.2.1 r.1.2.2), mem := mem
      frames := if i.enabled then r.2 else passThrough xs }
  | .cab used hist =>
    let r := runFrames (cabFrame i ((l.impulse used).getD impulseZero)) 1 hist xs
    { inst := i.after (.cab used r.1), mem := mem
      frames := if i.enabled then r.2 else passThrough xs }
  | .mod len phase line =>
    let r := runFrames (modFrame i len) 1 { phase := phase, line := line } xs
    { inst := i.after (.mod len r.1.phase r.1.line), mem := mem
      frames := if i.enabled then r.2 else passThrough xs }
  | .delay wp time =>
    let r := runFrames
      (wetFrame (delayCore i.segs i.reach time (i.p 2)) wet (fun j => i.g 3 j)) 1
      { mem := mem, wp := wp } xs
    { inst := i.after (.delay r.1.wp time), mem := r.1.mem, frames := r.2 }
  | .reverb combs allpass =>
    let r := runFrames
      (wetFrame (reverbCore i.segs (i.p 0) (i.p 1)) wet (fun j => i.g 2 j)) 1
      { mem := mem, combs := combs, allpass := allpass } xs
    { inst := i.after (.reverb r.1.combs r.1.allpass), mem := r.1.mem, frames := r.2 }
  | .loop =>
    if i.enabled && !loopOpen then
      let r := runFrames (loopFrame i returns) 1 () xs
      { inst := i.after i.run, mem := mem, frames := r.2 }
    else { inst := i.after i.run, mem := mem, frames := passThrough xs }
  | .volume =>
    if i.enabled then
      let r := runFrames (volumeFrame i) 1 () xs
      { inst := i.after i.run, mem := mem, frames := r.2 }
    else { inst := i.after i.run, mem := mem, frames := passThrough xs }

/-- The report of a stage from its frames (R20); a tail's output is what it gives the tail bus
(R64). -/
def stageReport (asTail loopOpen : Bool) (i : StageInst) (frames : List FrameOut) : StageReport :=
  let outs := frames.map fun f => if asTail then f.bus else f.y
  { peak := peakOf outs
    clip := frames.any (·.clip)
    satIn := frames.any (·.satIn)
    silent := outs.all quietSample
    loopOpen := loopOpen && i.enabled && decide (i.kind = .loop) }

/-- The status record after a pass (R20). -/
def StatusRec.update (r : StatusRec) (rep : StageReport) : StatusRec :=
  { r with
    peak := max r.peak rep.peak
    clip := r.clip || rep.clip
    satIn := r.satIn || rep.satIn
    silent := rep.silent
    loopOpen := rep.loopOpen }

end Sys2Proof.Machine
end

