-- ==== Sys2Proof/Machine/Pass.lean ====
section
/-! DEFINITION. The pass (section 1.5): chains and tails over one input block, the three mix points,
the fade gains (R102), the tail list's cuts and the selection (R67, R68), and what the completion of
a pass updates (R20, R21, R65, R66). -/

namespace Sys2Proof.Machine

/-! ### Chains -/

/-- Add two lists of samples frame by frame. -/
def addLists : List Int → List Int → List Int
  | a :: as, b :: bs => (a + b) :: addLists as bs
  | _, _ => []

/-- What a chain gives for a pass: its stages after it, the memory, the chain output, the sum it adds
to the tail bus, the loop send of each frame, the reports of its stages. -/
structure ChainOut where
  stages : List StageInst
  mem : List (Nat × Int)
  out : List Int
  bus : List Int
  send : List Int
  reports : List StageReport
  tempoMarked : Bool

/-- A chain over the input block (R16): each stage takes the output of the one before it. -/
def runChain (l : Lib) (loopOpen : Bool) (returns : List Int) (gOut : Option (List Int)) :
    List StageInst → List (Nat × Int) → List Int → ChainOut
  | [], mem, xs =>
    { stages := [], mem := mem, out := xs, bus := xs.map fun _ => 0, send := xs.map fun _ => 0
      reports := [], tempoMarked := false }
  | i :: is, mem, xs =>
    let i' := startPass l i
    let o := runStage l loopOpen returns (i'.wetMode gOut) i' mem xs
    let rest := runChain l loopOpen returns gOut is o.mem (o.frames.map (·.y))
    { stages := o.inst :: rest.stages
      mem := rest.mem
      out := rest.out
      bus := addLists (o.frames.map (·.bus)) rest.bus
      send := addLists (o.frames.map (·.send)) rest.send
      reports := stageReport false loopOpen i' o.frames :: rest.reports
      tempoMarked := tempoMarked i i' || rest.tempoMarked }

/-- What the tails give for a pass. -/
structure TailsOut where
  tails : List Tail
  mem : List (Nat × Int)
  bus : List Int
  reports : List StageReport

/-- The tail entries over a pass (R64, R67): each runs on silence, and the pass of a CUTTING entry is
its cut pass. -/
def runTails (l : Lib) (silence : List Int) : List Tail → List (Nat × Int) → TailsOut
  | [], mem => { tails := [], mem := mem, bus := silence, reports := [] }
  | t :: ts, mem =>
    let i := startTailPass t.inst
    let mode := if t.state = .cutting then .tailCut else .tail
    let o := runStage l false [] mode i mem silence
    let rest := runTails l silence ts o.mem
    { tails := { t with inst := o.inst, cutRan := decide (t.state = .cutting) } :: rest.tails
      mem := rest.mem
      bus := addLists (o.frames.map (·.bus)) rest.bus
      reports := stageReport true false i o.frames :: rest.reports }

/-! ### Fade gains and the chain mix (R17, R102) -/

/-- The incoming gain of frame j of fade block k of F (R102). -/
def gIn (fade k j : Nat) : Int :=
  (4096 * (16 * ((k : Int) - 1) + j) + 8 * fade) / (16 * fade)

/-- The incoming gains of the sixteen frames of fade block k. -/
def gInBlock (fade k : Nat) : List Int := (List.range 16).map fun j => gIn fade k (j + 1)

/-- The fade block under way: k = F - blocks left + 1 (R102). -/
def SwitchRec.block (r : SwitchRec) : Nat := r.fade + 1 - r.blocksLeft

/-- The incoming gains of the pass that begins now; all 4,096 outside a switch. -/
def Scn.gains (c : Scn) : List Int :=
  match c.switch with
  | some r => gInBlock r.fade r.block
  | none => List.replicate 16 4096

/-- The outgoing gains, 4,096 less the incoming ones (R17, R102). -/
def Scn.outGains (c : Scn) : List Int := c.gains.map fun g => 4096 - g

/-- The chain mix of one frame before saturation (R17). -/
def chainMix (phase : SwitchPhase) (f b g : Int) : Int :=
  match phase with
  | .steady => f
  | .prepare => f
  | .fade => q12 (f * (4096 - g) + b * g)
  | .gapOut => q12 (f * (4096 - g))
  | .gapIn => q12 (f * g)

/-- One frame through the chain mix and the tail sum (R17, R18): m_j, and whether either saturation
changed a value. -/
def mixFrame (phase : SwitchPhase) (f b g t : Int) : Int × Bool :=
  let c0 := chainMix phase f b g
  let m0 := sat c0 + t
  (sat m0, satHits c0 || satHits m0)

/-- The sixteen frames through the chain mix and the tail sum. -/
def mixFrames (phase : SwitchPhase) :
    List Int → List Int → List Int → List Int → List (Int × Bool)
  | f :: fs, b :: bs, g :: gs, t :: ts => mixFrame phase f b g t :: mixFrames phase fs bs gs ts
  | _, _, _, _ => []

/-! ### Beginning a pass (R2, R15, R16) -/

/-- Whether the outgoing HOLD stages are diverted in this phase (R103). -/
def diverting (phase : SwitchPhase) : Bool := decide (phase = .fade) || decide (phase = .gapOut)

/-- The sum of the costs of the tail entries (R14, R62). -/
def tailsCost : List Tail → Nat
  | [] => 0
  | t :: ts => t.cost + tailsCost ts

/-- The engine load of a pass that begins now (R15). -/
def State.passLoad (s : State) : Nat :=
  s.sen.front.cost + (if s.scn.phase = .fade then s.sen.back.cost else 0) + tailsCost s.spl.tails

/-- Begin the pass on an input block (R2): the stages run as they stand, and their outputs and reports
are held until the pass completes. DEGRADED, which R36, R51 and R61 set or clear at the start of a pass, is
written here, so a METERS taken during the pass shows it already (R23, entry 48). -/
def State.beginPass (s : State) (block : List (Int × Int)) : State :=
  let xs := block.map (·.1)
  let returns := block.map (·.2)
  let gOut := if diverting s.scn.phase then some s.scn.outGains else none
  let f := runChain s.lib s.loopOpen returns gOut s.sen.front.stages s.spl.mem xs
  let b :=
    if s.scn.phase = .fade then
      runChain s.lib s.loopOpen returns none s.sen.back.stages f.mem xs
    else
      { stages := s.sen.back.stages, mem := f.mem, out := xs.map fun _ => 0
        bus := xs.map fun _ => 0, send := [], reports := [], tempoMarked := false }
  let t := runTails s.lib (xs.map fun _ => 0) s.spl.tails b.mem
  let ms := mixFrames s.scn.phase f.out b.out s.scn.gains (addLists f.bus t.bus)
  { s with
    sen := { s.sen with
      awaiting := none
      front := { s.sen.front with stages := f.stages }
      back := { s.sen.back with stages := b.stages }
      load := s.passLoad
      pass := some
        { outs := (ms.map (·.1)).zip f.send
          front := f.reports
          back := b.reports
          tails := t.reports
          mixSat := ms.any (·.2)
          tempoDegraded := f.tempoMarked || b.tempoMarked } }
    spl := { s.spl with tails := t.tails, mem := t.mem } }

/-! ### Completing a pass (R20, R21, R65 to R67) -/

/-- Update the records of a chain from the reports of the pass. -/
def updateStages : List StageInst → List StageReport → List StageInst
  | i :: is, r :: rs => { i with status := i.status.update r } :: updateStages is rs
  | is, _ => is

/-- Update the tail entries from the reports of the pass: the record of every stage, and the drain
count and life of every RUNNING entry (R64 to R66). -/
def updateTails : List Tail → List StageReport → List Tail
  | t :: ts, r :: rs =>
    let t1 := { t with inst := { t.inst with status := t.inst.status.update r } }
    let t2 :=
      if t.state = .running then
        { t1 with
          drain := if r.silent then t.drain - 1 else t.drainReload
          life := t.life - 1 }
      else t1
    t2 :: updateTails ts rs
  | ts, _ => ts

/-- The segments of a list of tails. -/
def tailSegs (ts : List Tail) : List Nat := ts.flatMap (·.inst.segs)

/-- Release the tail entries that satisfy a test: they leave the list and their segments return
(R57). -/
def Spl.releaseTails (p : Spl) (gone : Tail → Bool) : Spl :=
  { p with
    tails := p.tails.filter fun t => !gone t
    free := putSegments (tailSegs (p.tails.filter gone)) p.free }

/-- The indices of the front context's stages whose CLIP, SAT_IN or DEGRADED is set (R21). -/
def markedStages (is : List StageInst) : List Nat :=
  (List.range is.length).filter fun n =>
    match is[n]? with
    | some i => i.status.clip || i.status.satIn || i.status.degraded
    | none => false

/-- The METER notice as it would be raised now (R21). -/
def State.meterNotice (s : State) : Notice :=
  .meter
    { summaryClip := s.sen.summaryClip
      load := s.sen.load
      generation := s.sen.front.generation
      stages := markedStages s.sen.front.stages }

/-- Set the summary clip, with a METER notice when it was clear (R21). -/
def State.setSummaryClip (s : State) : State :=
  if s.sen.summaryClip then s
  else
    let s1 := { s with sen := { s.sen with summaryClip := true } }
    s1.raise s1.meterNotice

/-- A pass completes (R20): its outputs are ready, the records, drain counts and lives are updated,
tails whose cut pass this was are released, and the summary clip and the tempo mark are reported. -/
def State.passComplete (s : State) : State :=
  match s.sen.pass with
  | none => s
  | some r =>
    let s1 := { s with
      sen := { s.sen with
        pass := none
        ready := r.outs
        lastLoad := s.sen.load
        front := { s.sen.front with stages := updateStages s.sen.front.stages r.front }
        back := { s.sen.back with stages := updateStages s.sen.back.stages r.back } }
      spl := Spl.releaseTails { s.spl with tails := updateTails s.spl.tails r.tails }
        fun t : Tail => decide (t.state = TailState.cutting) && t.cutRan }
    let clipped := r.mixSat || r.front.any (·.clip) || r.back.any (·.clip) || r.tails.any (·.clip)
    let s2 := if clipped then s1.setSummaryClip else s1
    if r.tempoDegraded then s2.raise s2.meterNotice else s2

/-- Tails whose drain count has reached 0 are released without a fade (R65). -/
def State.tailDrainExpiry (s : State) : State :=
  { s with spl := s.spl.releaseTails fun t => decide (t.state = .running) && decide (t.drain = 0) }

/-- A RUNNING tail whose life has reached 0 becomes CUTTING (R66). -/
def expireLife (t : Tail) : Tail :=
  if t.state = .running ∧ t.drain ≠ 0 ∧ t.life = 0 then { t with state := .cutting, cutRan := false }
  else t

/-- Tails whose life has reached 0 become CUTTING (R66). -/
def State.tailLifeExpiry (s : State) : State :=
  { s with spl := { s.spl with tails := s.spl.tails.map expireLife } }

/-! ### Cuts and the selection (R55, R67, R68, R100) -/

/-- Make an entry CUTTING; one already CUTTING is unaffected (R67). An entry cut after the last block's pass
has begun is cut in the next pass, which follows the commit (R70, entry 49). -/
def Tail.cutNow (t : Tail) : Tail :=
  if t.state = .running then { t with state := .cutting, cutRan := false } else t

/-- Make the oldest n RUNNING entries CUTTING. -/
def cutOldest : Nat → List Tail → List Tail
  | 0, ts => ts
  | _ + 1, [] => []
  | n + 1, t :: ts =>
    if t.state = .running then t.cutNow :: cutOldest n ts else t :: cutOldest (n + 1) ts

/-- The costs of the RUNNING entries, oldest first. -/
def runningCosts (ts : List Tail) : List Nat :=
  (ts.filter fun t => decide (t.state = .running)).map (·.cost)

/-- How many of the first candidates the selection removes: while they number more than 4 or exceed
the budget with the new front (R68). -/
def removed (newFront : Nat) : List Nat → Nat
  | [] => 0
  | c :: cs =>
    if 4 < (c :: cs).length ∨ budget < newFront + (c :: cs).sum then removed newFront cs + 1 else 0

/-- How many of the oldest tails the budget check cuts (R100, step 3). -/
def overBudget (contexts : Nat) : List Nat → Nat
  | [] => 0
  | c :: cs => if budget < contexts + (c :: cs).sum then overBudget contexts cs + 1 else 0

/-- Whether a stage of the outgoing context is a HOLD stage (R62, R68). -/
def StageInst.holds (i : StageInst) : Bool := i.kind.mayHold && decide (i.spill = .hold)

/-- Cut the first n HOLD stages of a chain in their context (R68). -/
def cutHolds : Nat → List StageInst → List StageInst
  | 0, is => is
  | _ + 1, [] => []
  | n + 1, i :: is =>
    if i.holds then { i with cut := true } :: cutHolds n is else i :: cutHolds (n + 1) is

/-- The selection of R68 for a commit after which a context of cost newFront is the front. -/
def State.selectFor (s : State) (newFront : Nat) : State :=
  let running := runningCosts s.spl.tails
  let holds := (s.sen.front.stages.filter (·.holds)).map (·.kind.cost)
  let n := removed newFront (running ++ holds)
  { s with
    spl := { s.spl with tails := cutOldest n s.spl.tails }
    sen := { s.sen with
      front := { s.sen.front with stages := cutHolds (n - running.length) s.sen.front.stages } } }

end Sys2Proof.Machine
end

