-- ==== Sys2Proof/Machine/Pool.lean ====
section
/-! DEFINITION. Chain contexts and the segment pool: grants and reclaims (R54, R55), the build step
(R6, R56, R99), emptying contexts and discarding tails (R57, R71). -/

namespace Sys2Proof.Machine

/-! ### Emptying (R57, R71) -/

/-- The segments a context holds: those of its stages and those granted to stages not yet built. -/
def Context.segs (c : Context) : List Nat := c.stages.flatMap (·.segs) ++ c.granted

/-- A context emptied: it keeps its generation (entry 39). -/
def Context.clear (c : Context) : Context := { Context.emptied with generation := c.generation }

/-- Empty the back context; its segments return to the free list (R57). -/
def State.emptyBack (s : State) : State :=
  { s with
    sen := { s.sen with back := s.sen.back.clear }
    spl := { s.spl with free := putSegments s.sen.back.segs s.spl.free } }

/-- Empty both contexts, discard every tail without a fade and withdraw a waiting grant: every
segment is in the free list (R8, R9, R57, R71). -/
def State.emptyAll (s : State) : State :=
  { s with
    sen := { s.sen with front := s.sen.front.clear, back := s.sen.back.clear }
    spl := { s.spl with tails := [], grant := none, free := List.range 48 } }

/-! ### Grants and reclaims (R54, R55) -/

/-- Grant m segments to a building context whose build takes n boundaries (R54, R98). -/
def Context.granting (c : Context) (m n : Nat) (free : List Nat) : Context :=
  { c with granted := free.take m, toClear := free.take m, buildCount := n }

/-- The segments of the tails already CUTTING (R55). -/
def cuttingSegments (ts : List Tail) : Nat :=
  (tailSegs (ts.filter fun t => decide (t.state = .cutting))).length

/-- The reclaim of R55: RUNNING tails, oldest first, become CUTTING while the available count is below
the demand, and the grant waits for every tail that is CUTTING (entry 25). -/
def reclaim (demand : Nat) : Nat → List Tail → List Tail
  | _, [] => []
  | avail, t :: ts =>
    if t.state = .running ∧ avail < demand then
      { t.cutNow with awaited := true } :: reclaim demand (avail + t.inst.segs.length) ts
    else { t with awaited := decide (t.state = .cutting) } :: reclaim demand avail ts

/-- The blocks left of the switch record. -/
def Scn.setBlocksLeft (c : Scn) (n : Nat) : Scn :=
  { c with switch := c.switch.map fun r => { r with blocksLeft := n } }

/-- Whether a switch makes no fade (R101). -/
def SwitchRec.zeroFade (r : SwitchRec) : Bool :=
  decide (r.kind = .immediate) || decide (r.kind = .cut)

/-- The blocks of PREPARE from the grant of a build of n boundaries (R98): a switch without a fade has a
closing block after a build of one boundary (R101). A budget block is not yet known (entry 52). -/
def SwitchRec.prepareBlocks (r : SwitchRec) (n : Nat) : Nat :=
  if r.zeroFade && decide (n = 1) then 2 else n

/-- The blocks of PREPARE from a take whose grant waits, for a build of n boundaries (R98): one more when
a cut it waits for is still to begin its pass (entry 20). -/
def waitBlocks (ts : List Tail) (n : Nat) : Nat :=
  if ts.any (fun t => t.awaited && !t.cutRan) then n + 1 else n

/-- Make the grant of the back context from the free list (R54, R98). The blocks left become those of
PREPARE from here (R89). -/
def State.grantBack (s : State) : State :=
  let m := chainDemand s.scn.live.chain
  let n := buildLength s.scn.live.chain
  { s with
    scn := { s.scn with switch := s.scn.switch.map fun r => { r with blocksLeft := r.prepareBlocks n } }
    sen := { s.sen with back := s.sen.back.granting m n s.spl.free }
    spl := { s.spl with grant := none, free := s.spl.free.drop m } }

/-- Ask for the grant of the back context for the copied chain (R54): made at once when enough segments
are free, else after a reclaim, whose wait the blocks left count (R98, entry 20). -/
def State.requestGrant (s : State) : State :=
  let m := chainDemand s.scn.live.chain
  if m ≤ s.spl.free.length then s.grantBack
  else
    let ts := reclaim m (s.spl.free.length + cuttingSegments s.spl.tails) s.spl.tails
    { s with
      scn := s.scn.setBlocksLeft (waitBlocks ts (buildLength s.scn.live.chain))
      spl := { s.spl with tails := ts, grant := some { demand := m, due := false } } }

/-! ### The build (R6, R56, R99) -/

/-- Clear segments to zero (R56). -/
def clearSegments (segs : List Nat) (mem : List (Nat × Int)) : List (Nat × Int) :=
  segs.foldr (fun x m => memClear m x) mem

/-- The stage that the next step of a build builds: while stages are left, the next entry of the live
scene record as it stands. -/
def nextStage (l : Lib) (period : Nat) (chain : List StageEntry) (c : Context) : Option StageInst :=
  (chain[c.stages.length]?).map fun e => buildStage l period (c.granted.take e.need) e

/-- One build step of a context (R99): a stage is built, or four segments are cleared. -/
def Context.buildStep (c : Context) (next : Option StageInst) : Context :=
  match next with
  | some i =>
    { c with
      stages := c.stages ++ [i]
      granted := c.granted.drop i.segs.length
      buildCount := c.buildCount - 1 }
  | none => { c with toClear := c.toClear.drop 4, buildCount := c.buildCount - 1 }

/-- The delay memory after one build step (R56). -/
def Context.buildMem (c : Context) (next : Option StageInst) (mem : List (Nat × Int)) :
    List (Nat × Int) :=
  match next with
  | some _ => mem
  | none => clearSegments (c.toClear.take 4) mem

/-- What a build step adds to a list of degraded stages (R6, R97, R99). -/
def Context.buildDegraded (c : Context) (next : Option StageInst) : List Degraded :=
  match next.bind builtCause with
  | some cause => [{ index := c.stages.length, cause := cause }]
  | none => []

/-- The next stage of the front context's build. -/
def State.nextFront (s : State) : Option StageInst :=
  nextStage s.lib s.tgn.period s.scn.live.chain s.sen.front

/-- The next stage of the back context's build. -/
def State.nextBack (s : State) : Option StageInst :=
  nextStage s.lib s.tgn.period s.scn.live.chain s.sen.back

/-- One step of the build in STARTING (R6); degraded stages go with a RESUME's reply (R162). -/
def State.buildFront (s : State) : State :=
  let i := s.nextFront
  let c := s.sen.front
  { s with
    sen := { s.sen with front := c.buildStep i }
    spl := { s.spl with mem := c.buildMem i s.spl.mem }
    opu := { s.opu with
      resume := s.opu.resume.map fun w => { w with degraded := w.degraded ++ c.buildDegraded i } } }

/-- One step of the build in PREPARE (R99); the blocks left count down (R98). -/
def State.buildBack (s : State) : State :=
  let i := s.nextBack
  let c := s.sen.back
  { s with
    scn := { s.scn with
      switch := s.scn.switch.map fun r =>
        { r with degraded := r.degraded ++ c.buildDegraded i, blocksLeft := r.blocksLeft - 1 } }
    sen := { s.sen with back := c.buildStep i }
    spl := { s.spl with mem := c.buildMem i s.spl.mem } }

/-! ### Starting and stopping the engine (R6, R8, R9) -/

/-- Enter STARTING (R6): the front context begins to build the live scene record, its segments taken
from the free list at once; STARTING enters the reason set as the reason given leaves it (R154). -/
def State.startEngine (s : State) (leaving : Reason) : State :=
  let m := chainDemand s.scn.live.chain
  let front : Context :=
    { Context.emptied with
      state := .building
      generation := s.scn.generation
      cost := chainCost s.scn.live.chain }
  { s with
    sen := { s.sen with
      engine := .starting
      front := front.granting m (buildLength s.scn.live.chain) s.spl.free }
    spl := { s.spl with free := s.spl.free.drop m }
    opu := s.opu.swapReason .starting leaving }

/-- The engine leaves STARTING or RUN for a state without passes (R8, R9): the pass under way is
abandoned and no output is left, contexts, tails and grant end; the summary clip stays. -/
def State.stopEngine (s : State) (dest : EngineState) : State :=
  let s1 := s.emptyAll
  { s1 with
    sen := { s1.sen with
      engine := dest
      awaiting := none
      pass := none
      ready := []
      outQueue := []
      load := 0
      lastLoad := 0
      runaway := 0 } }

end Sys2Proof.Machine
end

