-- ==== Sys2Proof/Machine/Tempo.lean ====
section
/-! DEFINITION. The tempo generator (chapter 6): the counted frame, beat events, the requests
TEMPO-SOURCE, TEMPO-SET, TAP and TEMPO-READ, and the events of the counter, the lamp, the taps and
the pulse input. -/

namespace Sys2Proof.Machine

/-! ### Counting and beat events (R117 to R120) -/

/-- The counts of one counted frame (R117); in FOLLOWING the counter stays at 0 (R118). -/
def Tgn.countFrame (t : Tgn) : Tgn :=
  { t with frameCount := t.frameCount + 1, counter := t.counter - 1, age := min 288000 (t.age + 1) }

/-- A beat period handed to the synced stages of a context (R58, R119). -/
def Context.handBeat (b : Nat) (c : Context) : Context :=
  { c with stages := c.stages.map fun i => if i.sync.isSome then { i with beat := b } else i }

/-- The registers at a beat event (R118, R119). -/
def Tgn.beat (t : Tgn) : Tgn :=
  { t with
    counter := t.period
    inForce := t.period
    beatCount := t.beatCount + 1
    age := 0
    lamp := true }

/-- A beat event (R119). -/
def State.beatEvent (s : State) (cause : BeatCause) : State :=
  let t := s.tgn.beat
  let s1 := { s with
    tgn := t
    sen := { s.sen with
      front := s.sen.front.handBeat t.inForce
      back := s.sen.back.handBeat t.inForce } }
  s1.raise (.beat
    { count := t.beatCount, inForce := t.inForce, cause := cause, source := t.source
      pulse := t.pulse })

/-- The TEMPO notice that a state composes for given events (R132). -/
def Tgn.notice (t : Tgn) (write : Option TempoWriter) (sourceTaken pulseChanged : Bool)
    (port : Option Port) (clamped : Bool) : Notice :=
  .tempo
    { write := write, sourceTaken := sourceTaken, pulseChanged := pulseChanged, port := port
      clamped := clamped, source := t.source, pulse := t.pulse, edge := t.edge, n := t.n
      period := t.period, inForce := t.inForce }

/-- Raise the TEMPO notice of a register write when the register's value has changed (R120). -/
def State.noticeWrite (s : State) (before : Nat) (w : TempoWriter) (port : Option Port) : State :=
  if s.tgn.period = before then s else s.raise (s.tgn.notice (some w) false false port false)

/-- The tap series emptied. -/
def Tgn.emptyTaps (t : Tgn) : Tgn := { t with tapStamp := none, taps := [] }

/-- The tap series emptied when the source is TAP (R121, R130). -/
def Tgn.emptyTapsInTap (t : Tgn) : Tgn := if t.source = .tap then t.emptyTaps else t

/-- A preset tempo (R130): ignored under PULSE, else written to the register. -/
def State.presetTempo (s : State) (port : Option Port) (tempo : Option Nat) : State :=
  match tempo with
  | none => s
  | some v =>
    if s.tgn.source = .pulse then s
    else
      State.noticeWrite { s with tgn := { s.tgn with period := v }.emptyTapsInTap } s.tgn.period
        .preset port

/-! ### TEMPO-SET (R121) -/

/-- TEMPO-SET at its owner (R121). With a restart the TEMPO notice shows the period in force that the beat
has loaded (entry 69). -/
def ownTempoSet (r : TempoSetReq) (t : Ticket) (s : State) : State :=
  if s.tgn.source = .pulse then s.answer t .wrongState .none
  else
    let v := clampNat 12000 144000 r.period
    let s1 := { s with tgn := { s.tgn with period := v }.emptyTapsInTap }
    let s2 := if r.restart then s1.beatEvent .restart else s1
    let s3 := s2.noticeWrite s.tgn.period .tempoSet (some t.port)
    s3.answer t (doneOrClamped (clamps 12000 144000 r.period))
      (.tempoSet s3.tgn.period s3.tgn.inForce s3.tgn.source)

/-- TEMPO_SET (R121). -/
def execTempoSet (p : Port) (tag : Byte) (r : TempoSetReq) (s : State) :
    Host.Outcome State Fault Refusal :=
  .next (takeRequest p tag (.tempoSet r) (ownTempoSet r) s)

/-! ### TEMPO-SOURCE (R122) -/

/-- The registers after a TEMPO-SOURCE is taken (R122). -/
def Tgn.select (t : Tgn) (src : TempoSource) (edge : Option PulseEdge) (n : Option Int) : Tgn :=
  { t.emptyTaps with
    source := src
    pulse := if src = .pulse then some .waiting else none
    edge := edge.getD t.edge
    n := match n with
      | some v => clampNat 1 96 v
      | none => t.n
    pulseCount := 0
    pulseStamp := none }

/-- The counter waits at 0 for a pulse beat (R118, R122), in any link state (entry 53). -/
def Tgn.waitsForPulse (t : Tgn) : Bool := decide (t.pulse = some .following) && decide (t.counter = 0)

/-- TEMPO-SOURCE at its owner (R122); the beat that waits in FOLLOWING is made at the take in every link
state (entry 53). Its BEAT notice shows the new source and pulse state (entry 68), and the TEMPO notice the
period in force that it has loaded (entry 69). -/
def ownTempoSource (r : TempoSourceReq) (t : Ticket) (s : State) : State :=
  match tempoSourceOf r.source, optChoice pulseEdgeOf r.edge with
  | some src, some edge =>
    let s1 := { s with tgn := s.tgn.select src edge r.n }
    let s2 := if s.tgn.waitsForPulse then s1.beatEvent .counter else s1
    let s3 := s2.raise (s2.tgn.notice none true false none false)
    s3.answer t (doneOrClamped (optClamps 1 96 r.n))
      (.tempoSource s3.tgn.source s3.tgn.pulse s3.tgn.edge s3.tgn.n)
  | _, _ => s.answer t .invalid .none

/-- TEMPO_SOURCE (R122). -/
def execTempoSource (p : Port) (tag : Byte) (r : TempoSourceReq) (s : State) :
    Host.Outcome State Fault Refusal :=
  .next (takeRequest p tag (.tempoSource r) (ownTempoSource r) s)

/-! ### TAP (R123) -/

/-- round(S / k) of the sum and the number of a list of intervals (R123). -/
def meanInterval (xs : List Nat) : Nat := (2 * xs.sum + xs.length) / (2 * xs.length)

/-- The interval list with one more: the last four (R123). -/
def pushTap (xs : List Nat) (i : Nat) : List Nat := (xs ++ [i]).drop (xs.length + 1 - 4)

/-- What a tap's stamp does to the registers, and its reply (R123); a valid tap is followed by its beat
event. -/
def Tgn.tap (t : Tgn) : Tgn × TapOutcome × Option Nat :=
  match t.tapStamp with
  | none => ({ t with tapStamp := some t.frameCount, taps := [] }, .first, none)
  | some last =>
    let i := (t.frameCount - last).toNat
    if i < 12000 ∨ 144000 < i then
      ({ t with tapStamp := some t.frameCount, taps := [] }, .restarted, some i)
    else
      let xs := pushTap t.taps i
      ({ t with tapStamp := some t.frameCount, taps := xs, period := meanInterval xs }, .valid,
        some i)

/-- TAP at its owner (R123). With another source and the link not RUNNING the answer is WRONG_STATE
(entry 70). The TEMPO notice of a valid tap shows the period in force that its beat has loaded
(entry 69). -/
def ownTap (t : Ticket) (s : State) : State :=
  if s.tgn.source ≠ .tap then s.answer t .wrongState .none
  else if s.lnk.state ≠ .running then s.answer t .notReady .none
  else
    let o := s.tgn.tap
    let s1 := { s with tgn := o.1 }
    let s2 := if o.2.1 = .valid then s1.beatEvent .tap else s1
    let s3 := s2.noticeWrite s.tgn.period .tap (some t.port)
    s3.answer t .done (.tapped o.2.1 o.2.2 s3.tgn.taps.length s3.tgn.period)

/-- TAP (R123). -/
def execTap (p : Port) (tag : Byte) (s : State) : Host.Outcome State Fault Refusal :=
  .next (takeRequest p tag .tap ownTap s)

/-! ### TEMPO-READ (R133) -/

/-- The fields of TEMPO-READ (R133). -/
def Tgn.report (t : Tgn) : TempoReport :=
  { source := t.source, pulse := t.pulse, edge := t.edge, n := t.n, pulseCount := t.pulseCount
    period := t.period, inForce := t.inForce, counter := t.counter, age := t.age
    beatCount := t.beatCount, lamp := t.lamp, tapStamp := t.tapStamp, taps := t.taps
    frameCount := t.frameCount }

/-- TEMPO-READ at its owner (R133). -/
def ownTempoRead (t : Ticket) (s : State) : State := s.answer t .done (.tempo s.tgn.report)

/-- TEMPO_READ (R133). -/
def execTempoRead (p : Port) (tag : Byte) (s : State) : Host.Outcome State Fault Refusal :=
  .next (takeRequest p tag .tempoRead ownTempoRead s)

/-! ### Events of the counter, the lamp and the taps: each belongs to the counted frame that makes it due,
and none happens while the link is not RUNNING (R117) -/

/-- The beat counter stands at 0 and no pulse is waited for (R118). -/
def State.beatUnderflow (s : State) : State :=
  if s.lnk.state = .running ∧ s.tgn.counter = 0 ∧ s.tgn.pulse ≠ some .following then
    s.beatEvent .counter
  else s

/-- BEAT_COUNTER_UNDERFLOW (R118). -/
def execBeatCounterUnderflow (s : State) : Host.Outcome State Fault Refusal :=
  .next (unlessReset State.beatUnderflow s)

/-- The counter has come down to the off compare (R128). -/
def State.beatLampOff (s : State) : State :=
  if s.lnk.state = .running ∧ s.tgn.lamp = true ∧
      s.tgn.counter ≤ s.tgn.inForce - s.tgn.inForce / 4 then
    { s with tgn := { s.tgn with lamp := false } }
  else s

/-- BEAT_LAMP_OFF (R128). -/
def execBeatLampOff (s : State) : Host.Outcome State Fault Refusal :=
  .next (unlessReset State.beatLampOff s)

/-- More than 144,000 frames have been counted since the last tap stamp (R124). -/
def Tgn.tapOverdue (t : Tgn) : Bool :=
  decide (t.source = .tap) && t.tapStamp.any fun last => decide (144000 < (t.frameCount - last).toNat)

/-- The tap timeout (R124). -/
def State.tapTimeout (s : State) : State :=
  if s.lnk.state = .running ∧ s.tgn.tapOverdue = true then { s with tgn := s.tgn.emptyTaps } else s

/-- TAP_TIMEOUT (R124). -/
def execTapTimeout (s : State) : Host.Outcome State Fault Refusal :=
  .next (unlessReset State.tapTimeout s)

/-! ### The pulse input (R125 to R127) -/

/-- Whether an edge is of the direction chosen (R125). -/
def PulseEdge.counts : PulseEdge → EdgeDir → Bool
  | .rising, .rising => true
  | .falling, .falling => true
  | .both, _ => true
  | _, _ => false

/-- A counted edge in WAITING (R125): a pulse beat without measurement. The state is FOLLOWING before the
beat event, so its BEAT notice shows FOLLOWING (entry 54), and the TEMPO notice shows the period in force that
the beat has loaded (entry 69). -/
def State.firstEdge (s : State) : State :=
  let s1 := { s with tgn := { s.tgn with
    pulseStamp := some s.tgn.frameCount, pulseCount := 0, pulse := some .following } }
  let s2 := s1.beatEvent .pulse
  s2.raise (s2.tgn.notice none false true none false)

/-- The interval that a pulse beat measures (R126). -/
def Tgn.pulseInterval (t : Tgn) : Nat := (t.frameCount - t.pulseStamp.getD t.frameCount).toNat

/-- A pulse beat in FOLLOWING (R126). The TEMPO notice of its register write shows the period in force that
the beat has loaded (entry 69), with R132's clamped mark (entry 76). -/
def State.pulseBeat (s : State) : State :=
  let i := s.tgn.pulseInterval
  let v := clampNat 12000 144000 i
  let s1 := { s with tgn := { s.tgn with
    pulseCount := 0, period := v, pulseStamp := some s.tgn.frameCount } }
  let s2 := s1.beatEvent .pulse
  if v = s.tgn.period then s2
  else s2.raise (s2.tgn.notice (some .pulse) false false none (decide (v ≠ i)))

/-- A counted edge (R125). -/
def State.countedEdge (s : State) : State :=
  match s.tgn.pulse with
  | none => s
  | some .waiting => s.firstEdge
  | some .following =>
    if s.tgn.pulseCount + 1 < s.tgn.n then
      { s with tgn := { s.tgn with pulseCount := s.tgn.pulseCount + 1 } }
    else s.pulseBeat
  | some .holding =>
    let s1 := { s with tgn := { s.tgn with pulse := some .waiting, pulseCount := 0 } }
    s1.raise (s1.tgn.notice none false true none false)

/-- An edge on the tempo pulse input (R125): counted only in RUNNING, and in the chosen direction. -/
def State.pulseEdge (d : EdgeDir) (s : State) : State :=
  if s.lnk.state = .running ∧ s.tgn.edge.counts d = true then s.countedEdge else s

/-- PULSE_EDGE (R125). -/
def execPulseEdge (d : EdgeDir) (s : State) : Host.Outcome State Fault Refusal :=
  .next (unlessReset (State.pulseEdge d) s)

/-- The pulse is lost (R127). The state is HOLDING before the beat event, so its BEAT notice shows HOLDING
(entry 54), and the TEMPO notice shows the period in force that the beat has loaded (entry 69). -/
def State.pulseLost (s : State) : State :=
  if s.lnk.state = .running ∧ s.tgn.pulse = some .following ∧ 2 * s.tgn.period ≤ s.tgn.age then
    let s1 := { s with tgn := { s.tgn with pulse := some .holding, pulseCount := 0 } }
    let s2 := s1.beatEvent .hold
    s2.raise (s2.tgn.notice none false true none false)
  else s

/-- PULSE_LOST (R127). -/
def execPulseLost (s : State) : Host.Outcome State Fault Refusal :=
  .next (unlessReset State.pulseLost s)

/-! ### The counted frame -/

/-- The events of the counter, the lamp, the taps and the pulse that a counted frame makes due: they
happen in that frame, before anything that follows it (R117, R118, R124, R127, R128). An edge of the pulse
input detected in the same frame comes after them, so a pulse lost in that frame is lost before it (entry
83). -/
def State.tempoEvents (s : State) : State := s.beatUnderflow.beatLampOff.tapTimeout.pulseLost

/-- The tempo generator's work on one frame received in RUNNING (R117). -/
def State.tempoFrame (s : State) : State :=
  State.tempoEvents { s with tgn := s.tgn.countFrame }

end Sys2Proof.Machine
end

