-- ==== Sys2Proof/Machine/Scene.lean ====
section
/-! DEFINITION. Scene switching (chapter 5): the latch word, RECALL with its take, the phases of a
switch, the commit, abandonment, EDIT and BYPASS-STAGE, SCENE-READ and LATCH. -/

namespace Sys2Proof.Machine

/-! ### Notices and the dirty flag (R87, R90) -/

/-- The SCENE notice of an event as the state stands (R90). -/
def Scn.notice (c : Scn) (e : SceneEvent) (port : Option Port) (slot : Option Nat)
    (kind : Option SwitchKind) (phaseThen : Option SwitchPhase) : Notice :=
  .scene
    { event := e, generation := c.generation, phase := c.phase, origin := c.origin
      dirty := c.dirty, name := c.live.name, port := port, slot := slot, kind := kind
      phaseThen := phaseThen }

/-- Set the dirty flag for an edit from a port, with a SCENE notice when it was clear (R87). -/
def State.setDirty (s : State) (port : Port) : State :=
  if s.scn.dirty then s
  else
    let s1 := { s with scn := { s.scn with dirty := true } }
    s1.raise (s1.scn.notice .dirty (some port) none none
      (if s.scn.phase = .steady then none else some s.scn.phase))

/-! ### The latch word (R91, R92) -/

/-- The latch word after the three masks of a LATCH (R91); bits above 15 are ignored. -/
def latchAfter (word : Word16) (r : LatchReq) : Word16 :=
  ((word ||| r.set.setWidth 16) &&& ~~~(r.clear.setWidth 16)) ^^^ r.toggle.setWidth 16

/-- Write the latch word, with a LATCH notice when it changes (R92). -/
def State.setLatch (s : State) (w : Word16) (port : Port) : State :=
  if w = s.scn.latch then s
  else State.raise { s with scn := { s.scn with latch := w } } (.latch w port)

/-! ### The level write (R83, R184) -/

/-- The internal write of an output level (R184). -/
def levelAccess (level : Nat) : Access :=
  { owner := none, tag := none, data := some level, target := .primary, index := 64, sent := false
    waited := 0, fresh := false }

/-- The level joins the converter command queue, or is held as pending (R184). -/
def Lnk.handLevel (k : Lnk) (level : Nat) : Lnk :=
  if k.queue.length < 4 then { k with queue := k.queue ++ [levelAccess level], levelPending := none }
  else { k with levelPending := some level }

/-- SCN hands over the live scene's output level (R83). -/
def State.handLevel (s : State) : State := { s with lnk := s.lnk.handLevel s.scn.live.level }

/-! ### The selection and the start of a fade (R68, R101, R104, R107) -/

/-- Hand SPL the selection request for the commit of the switch under way (R68). -/
def State.select (s : State) : State :=
  let s1 := s.selectFor s.sen.back.cost
  { s1 with scn := { s1.scn with switch := s1.scn.switch.map fun r => { r with selected := true } } }

/-- What falls at the boundary that begins the last block before a commit: the selection, and in
GAP_OUT the reason SWITCH_GAP (R104, R107, R108). -/
def State.lastBlock (s : State) : State :=
  if s.scn.phase = .gapOut then s.select.addReason .switchGap else s.select

/-- Enter FADE or GAP_OUT with F blocks left (R102, R107). -/
def State.enterFade (s : State) (phase : SwitchPhase) (kind : SwitchKind) (fade : Nat) : State :=
  let s1 := { s with scn := { s.scn with
    phase := phase
    switch := s.scn.switch.map fun r =>
      { r with kind := kind, blocksLeft := fade, budget := false } } }
  if fade = 1 then s1.lastBlock else s1

/-- After a build step of a zero-fade switch that leaves one step, its closing block begins (R101). -/
def State.afterBuild (s : State) : State :=
  match s.scn.switch with
  | some r => if r.zeroFade && decide (s.sen.back.buildCount = 1) then s.lastBlock else s
  | none => s

/-- Mark the commit of the switch due. -/
def State.makeCommitDue (s : State) : State :=
  { s with scn := { s.scn with switch := s.scn.switch.map fun r => { r with commitDue := true } } }

/-! ### What is due at a boundary -/

/-- STARTING has built and cleared everything (R7). -/
def State.startingDue (s : State) : Bool :=
  decide (s.sen.engine = .starting) && decide (s.sen.front.state = .building) &&
  decide (s.sen.front.buildCount = 0)

/-- The boundary of a waiting grant has come (R54). -/
def State.grantDue (s : State) : Bool := s.spl.grant.any (·.due)

/-- The back context's build count has reached 0 (R98). -/
def State.prepareDue (s : State) : Bool :=
  decide (s.scn.phase = .prepare) && decide (s.sen.back.state = .building) && s.spl.grant.isNone &&
  decide (s.sen.back.buildCount = 0)

/-- The commit's boundary has come. -/
def State.commitDue (s : State) : Bool := s.scn.switch.any (·.commitDue)

/-- GAP_IN has run its blocks (R109). -/
def State.gapInDue (s : State) : Bool :=
  decide (s.scn.phase = .gapIn) && s.scn.switch.any fun r => decide (r.blocksLeft = 0)

/-- Whether a step that precedes the pass of this boundary is still due (R7, R105). -/
def State.boundaryBusy (s : State) : Bool :=
  s.startingDue || s.grantDue || s.prepareDue || s.commitDue || s.gapInDue

/-- Begin the pass of the boundary once nothing that precedes it is due (R2); in another engine state
the input block is discarded. -/
def State.beginDuePass (s : State) : State :=
  match s.sen.awaiting with
  | none => s
  | some block =>
    if s.boundaryBusy then s
    else if s.sen.engine = .run then s.beginPass block
    else { s with sen := { s.sen with awaiting := none } }

/-! ### The phases at a boundary (R99 to R109) -/

/-- A grant waiting on a reclaim becomes due at the boundary that finds its cuts complete (R54). -/
def Spl.markGrant (p : Spl) : Spl :=
  if p.tails.any (·.awaited) then p
  else { p with grant := p.grant.map fun g => { g with due := true } }

/-- One boundary of a fade or gap phase: the blocks left count down (R102). -/
def State.fadeBoundary (s : State) (r : SwitchRec) : State :=
  let s1 := { s with scn := s.scn.setBlocksLeft (r.blocksLeft - 1) }
  if r.blocksLeft = 1 then s1.makeCommitDue
  else if r.blocksLeft = 2 then s1.lastBlock
  else s1

/-- A boundary in PREPARE with the grant waiting (R98): it comes due, or another block has passed. -/
def State.waitBoundary (s : State) (r : SwitchRec) : State :=
  let q := s.spl.markGrant
  if q.grant.any (·.due) then { s with spl := q }
  else { s with spl := q, scn := s.scn.setBlocksLeft (r.blocksLeft - 1) }

/-- A boundary in PREPARE (R98 to R101). -/
def State.prepareBoundary (s : State) (r : SwitchRec) : State :=
  if s.spl.grant.isSome then s.waitBoundary r
  else if s.sen.back.state = .building then s.buildBack.afterBuild
  else if r.budget then s.enterFade .fade r.kind r.fade
  else s.makeCommitDue

/-- What a boundary does to a switch under way (R99, R102, R107 to R109). -/
def State.switchBoundary (s : State) : State :=
  match s.scn.switch with
  | none => s
  | some r =>
    match s.scn.phase with
    | .steady => s
    | .prepare => s.prepareBoundary r
    | .fade => s.fadeBoundary r
    | .gapOut => s.fadeBoundary r
    | .gapIn =>
      State.removeReason { s with scn := s.scn.setBlocksLeft (r.blocksLeft - 1) } .switchGap

/-- The grant after a reclaim, at its boundary, with the first build step (R54, R98). -/
def State.grantAfterReclaim (s : State) : State :=
  if s.grantDue then s.grantBack.buildBack.afterBuild.beginDuePass else s

/-- GRANT_AFTER_RECLAIM (R54). -/
def execGrantAfterReclaim (s : State) : Host.Outcome State Fault Refusal :=
  .next (unlessReset State.grantAfterReclaim s)

/-- The budget check of a FADED switch (R100); a budget block shows one block left (entry 52). -/
def State.budgetCheck (s : State) (r : SwitchRec) : State :=
  let contexts := s.sen.front.cost + s.sen.back.cost
  if budget < contexts then s.enterFade .gapOut .gapped r.fade
  else if contexts + tailsCost s.spl.tails ≤ budget then s.enterFade .fade r.kind r.fade
  else
    { s with
      scn := { s.scn with switch := some { r with budget := true, blocksLeft := 1 } }
      spl := { s.spl with
        tails := cutOldest (overBudget contexts (runningCosts s.spl.tails)) s.spl.tails } }

/-- The end of PREPARE of a zero-fade switch: its commit, or its closing block when the end is the
first boundary after the take (R101), which has one block left. -/
def State.zeroFadeEnd (s : State) (r : SwitchRec) : State :=
  if r.selected then s.makeCommitDue else State.lastBlock { s with scn := s.scn.setBlocksLeft 1 }

/-- The end of PREPARE (R99 to R101). -/
def State.endOfPrepare (s : State) : State :=
  if s.prepareDue then
    match s.scn.switch with
    | none => s
    | some r =>
      let s1 := { s with sen := { s.sen with back := { s.sen.back with state := .live } } }
      (if r.zeroFade then s1.zeroFadeEnd r else s1.budgetCheck r).beginDuePass
  else s

/-- END_OF_PREPARE (R99). -/
def execEndOfPrepare (s : State) : Host.Outcome State Fault Refusal :=
  .next (unlessReset State.endOfPrepare s)

/-! ### The commit (R13, R63, R105) -/

/-- The tail that a HOLD stage becomes (R63). -/
def admission (drain life : Nat) (gen : Word16) (ni : Nat × StageInst) : Tail :=
  { inst := { ni.2 with enabled := true, cut := false }
    cost := ni.2.kind.cost
    originGen := gen
    originIdx := ni.1
    state := .running
    drainReload := drain
    drain := drain
    life := 3000 * life
    cutRan := false
    awaited := false }

/-- Number a list's elements from i. -/
def numbered {α : Type} : Nat → List α → List (Nat × α)
  | _, [] => []
  | i, x :: xs => (i, x) :: numbered (i + 1) xs

/-- Whether a stage of the outgoing front is admitted as a tail: a HOLD stage that the selection kept
(R63, R68). -/
def StageInst.admitted (i : StageInst) : Bool := i.holds && !i.cut

/-- The stages of a chain that are admitted, with their indices. -/
def admittedStages (is : List StageInst) : List (Nat × StageInst) :=
  (numbered 0 is).filter fun ni => ni.2.admitted

/-- Exchange the roles of the contexts (R13): the admitted stages become tails, the others are
discarded and their segments return. -/
def State.exchange (s : State) : State :=
  let out := s.sen.front
  { s with
    sen := { s.sen with front := s.sen.back, back := out.clear }
    spl := { s.spl with
      tails := s.spl.tails ++ (admittedStages out.stages).map
        (admission s.spl.drainSetting s.spl.lifeSetting out.generation)
      free := putSegments
        ((out.stages.filter fun i => !i.admitted).flatMap (·.segs) ++ out.granted) s.spl.free } }

/-- The LOOP stages of a chain that are open now, as degraded stages (R46, R97). -/
def State.openLoops (s : State) : List Degraded :=
  if s.loopOpen then
    ((numbered 0 s.sen.front.stages).filter fun ni =>
      decide (ni.2.kind = .loop) && ni.2.enabled).map fun ni =>
        { index := ni.1, cause := .loopOpen }
  else []

/-- DONE, or DEGRADED when a stage is degraded (R97). -/
def doneOrDegraded (ds : List Degraded) : Status := if ds.isEmpty then .done else .degraded

/-- The scene after a commit: the dirty flag is clear, the origin is the chosen slot, and the phase is
STEADY, or GAP_IN with its F blocks for a GAPPED switch (R105, R106, R109). -/
def Scn.committed (c : Scn) (r : SwitchRec) : Scn :=
  if r.kind = .gapped then
    { c with
      dirty := false
      origin := some r.slot
      phase := .gapIn
      switch := some { r with blocksLeft := r.fade, selected := false, commitDue := false } }
  else { c with dirty := false, origin := some r.slot, phase := .steady, switch := none }

/-- The answer of a committed recall (R97). -/
def State.answerCommit (s : State) (r : SwitchRec) : State :=
  let ds := r.degraded ++ s.openLoops
  s.answer r.ticket (doneOrDegraded ds)
    (.recallDone r.slot s.scn.live.name s.scn.generation r.kind r.fade ds)

/-- The commit (R105). -/
def State.commit (s : State) : State :=
  match s.scn.switch with
  | none => s
  | some r =>
    if r.commitDue then
      let s1 := s.exchange
      let s2 := { s1 with scn := s1.scn.committed r }
      let s3 := (s2.presetTempo (some r.ticket.port) r.tempo).handLevel
      let s4 := s3.answerCommit r
      (s4.raise (s4.scn.notice .commit (some r.ticket.port) (some r.slot) (some r.kind)
        none)).beginDuePass
    else s

/-- COMMIT (R105). -/
def execCommit (s : State) : Host.Outcome State Fault Refusal :=
  .next (unlessReset State.commit s)

/-- The end of GAP_IN (R106, R109). -/
def State.gapInEnd (s : State) : State :=
  if s.gapInDue then
    let s1 := { s with scn := { s.scn with phase := .steady, switch := none } }
    (s1.raise (s1.scn.notice .gapInEnd (s.scn.switch.map (·.ticket.port)) none none
      none)).beginDuePass
  else s

/-- GAP_IN_END (R109). -/
def execGapInEnd (s : State) : Host.Outcome State Fault Refusal :=
  .next (unlessReset State.gapInEnd s)

/-! ### Abandonment (R114, R115) -/

/-- Answer the taken recall ABORTED when its reply is still due (R114). -/
def State.abortTaken (s : State) (cause : AbortCause) : State :=
  match s.scn.switch with
  | some r =>
    if s.scn.phase = .gapIn then s
    else s.answer r.ticket .aborted (.recallAborted (some s.scn.generation) cause)
  | none => s

/-- Answer a pending recall ABORTED (R114). -/
def State.abortPending (s : State) (cause : AbortCause) : State :=
  match s.scn.pendingRecall with
  | some q =>
    State.answer { s with scn := { s.scn with pendingRecall := none } } q.ticket .aborted
      (.recallAborted none cause)
  | none => s

/-- Abandon any switch under way (R114, R115); the engine empties the contexts and the grant. -/
def State.abandonSwitch (s : State) (cause : AbortCause) (port : Option Port) : State :=
  if s.scn.phase = .steady then s.abortPending cause
  else
    let s1 := ((s.removeReason .switchGap).abortTaken cause).abortPending cause
    let s2 := { s1 with scn := { s1.scn with phase := .steady, switch := none } }
    s2.raise (s2.scn.notice .abandoned port none none (some s.scn.phase))

/-! ### RECALL (R93 to R97) -/

/-- Whether a recall's condition chooses preset B (R94, step 1). -/
def recallChoosesB (r : RecallReq) (latch : Word16) : Bool :=
  match r.cond with
  | none => false
  | some c => decide (latch.getLsbD c.bit.toNat ≠ decide (c.polarity = 1))

/-- The slot a recall chooses (R94, step 1). -/
def recallChosen (r : RecallReq) (latch : Word16) : Nat :=
  match r.cond with
  | none => r.presetA.toNat
  | some c => if recallChoosesB r latch then c.presetB.toNat else r.presetA.toNat

/-- The toggle-after of a conditional recall (R94, step 3). -/
def State.toggleAfter (s : State) (r : RecallReq) (port : Port) : State :=
  match r.cond with
  | some c =>
    if c.toggle then s.setLatch (s.scn.latch ^^^ bitAt c.bit.toNat true) port else s
  | none => s

/-- Abandon the preparation under way for a superseding recall (R95). -/
def State.supersede (s : State) (port : Port) : State :=
  match s.scn.switch with
  | some r =>
    s.emptyBack.answer r.ticket .superseded (.superseded (some s.scn.generation) port)
  | none => s

/-- The generation after a take: from 65,535 it goes to 1 (R88). -/
def nextGeneration (g : Word16) : Word16 := if g = 65535#16 then 1#16 else g + 1

/-- The fade a recall resolves (R94, step 6). -/
def resolveFade (r : RecallReq) (rec : Preset) (default_ : Nat) : Nat :=
  match r.fade, rec.fade with
  | some f, _ => f.toNat
  | none, some f => f
  | none, none => default_

/-- The kind and fade of a switch (R94, step 6; R113). -/
def switchKind (tunerSilent : Bool) (fade : Nat) : SwitchKind × Nat :=
  if tunerSilent then (.cut, 0) else if fade = 0 then (.immediate, 0) else (.faded, fade)

/-- Begin a switch to a record (R94, steps 4 to 8). -/
def State.beginSwitch (s : State) (t : Ticket) (slot : Nat) (rec : Preset) (fade : Nat) : State :=
  let kf := switchKind s.opu.reasons.tunerSilent fade
  let g := nextGeneration s.scn.generation
  let sw : SwitchRec :=
    { ticket := t, slot := slot, fade := kf.2, kind := kf.1, blocksLeft := 0, degraded := []
      tempo := rec.tempo, budget := false, selected := false, commitDue := false }
  let back : Context :=
    { Context.emptied with state := .building, generation := g, cost := chainCost rec.chain }
  let s1 := { s with
    scn := { s.scn with generation := g, live := rec, phase := .prepare, switch := some sw }
    sen := { s.sen with back := back } }
  let s2 := s1.requestGrant
  s2.raise (s2.scn.notice .take (some t.port) (some slot) (some kf.1) none)

/-- The take of a recall (R94). The EMPTY reply of a recall without a condition names preset A as the one
chosen (entry 77). -/
def State.takeRecall (s : State) (t : Ticket) (r : RecallReq) : State :=
  let slot := recallChosen r s.scn.latch
  match s.scn.library.getD slot none with
  | none => s.answer t .empty (.recallEmpty slot (recallChoosesB r s.scn.latch))
  | some rec =>
    ((s.toggleAfter r t.port).supersede t.port).beginSwitch t slot rec
      (resolveFade r rec s.scn.defaultFade)

/-- The take of a pending recall at the end of the switch before it (R106). -/
def State.pendingTake (s : State) : State :=
  match s.scn.pendingRecall with
  | some q =>
    if s.scn.phase = .steady then
      State.takeRecall { s with scn := { s.scn with pendingRecall := none } } q.ticket q.req
    else s
  | none => s

/-- PENDING_RECALL_TAKE (R106). -/
def execPendingRecallTake (s : State) : Host.Outcome State Fault Refusal :=
  .next (unlessReset State.pendingTake s)

/-- Leave a recall pending; one already pending is answered SUPERSEDED (R96). -/
def State.leavePending (s : State) (t : Ticket) (r : RecallReq) : State :=
  let s1 := { s with scn := { s.scn with pendingRecall := some { ticket := t, req := r } } }
  match s.scn.pendingRecall with
  | some q => s1.answer q.ticket .superseded (.superseded none t.port)
  | none => s1

/-- Whether every field of a recall is in range (R93). -/
def recallInRange (r : RecallReq) : Bool :=
  (slotOf r.presetA).isSome &&
  (match r.cond with
   | none => true
   | some c => (inRange 0 15 c.bit).isSome && (inRange 0 1 c.polarity).isSome &&
       (slotOf c.presetB).isSome) &&
  (match r.fade with
   | none => true
   | some f => (inRange 0 255 f).isSome)

/-- Whether an arriving recall is taken at once: in STEADY, or in PREPARE before a selection (R93). -/
def Scn.takesAtOnce (c : Scn) : Bool :=
  match c.phase with
  | .steady => true
  | .prepare => !(c.switch.any (·.selected))
  | _ => false

/-- The outcome of an arriving recall in RUN by the switch phase (R93). -/
def State.arrive (s : State) (t : Ticket) (r : RecallReq) : State :=
  if s.scn.takesAtOnce then s.takeRecall t r else s.leavePending t r

/-- RECALL at its owner (R93); a recall whose turn came at this boundary is taken first. -/
def ownRecall (r : RecallReq) (t : Ticket) (s : State) : State :=
  if recallInRange r then
    if s.sen.engine = .run then s.pendingTake.arrive t r else s.answer t .stopped .none
  else s.answer t .invalid .none

/-- RECALL (R93). -/
def execRecall (p : Port) (tag : Byte) (r : RecallReq) (s : State) :
    Host.Outcome State Fault Refusal :=
  .next (takeRequest p tag (.recall r) (ownRecall r) s)

/-! ### EDIT and BYPASS-STAGE (R110 to R112) -/

/-- Whether an expected generation differs from the current one (R110, step 1). -/
def Scn.stale (c : Scn) (expected : Option Int) : Bool :=
  expected.any fun g => decide (g ≠ (c.generation.toNat : Int))

/-- The entry of the live scene record at a stage index (R110, step 2). -/
def Scn.entryAt (c : Scn) (stage : Int) : Option StageEntry :=
  if stage < 0 then none else c.live.chain[stage.toNat]?

/-- Which context an edit reaches (R111). -/
inductive EditReach where
  | front | back | none
  deriving DecidableEq, Repr

/-- The context that an edit reaches by phase and engine state (R111). -/
def State.editReach (s : State) : EditReach :=
  match s.sen.engine with
  | .stopped => .none
  | .fault => .none
  | .starting => .front
  | .run =>
    match s.scn.phase with
    | .steady => .front
    | .gapIn => .front
    | .prepare => .back
    | .fade => .back
    | .gapOut => .back

/-- Change the stage of a context at an index, when it is built. -/
def Context.modifyStage (c : Context) (n : Nat) (f : StageInst → StageInst) : Context :=
  { c with stages := c.stages.modify n f }

/-- Change the stage instance that an edit reaches (R111). -/
def State.editInst (s : State) (n : Nat) (f : StageInst → StageInst) : State :=
  match s.editReach with
  | .front => { s with sen := { s.sen with front := s.sen.front.modifyStage n f } }
  | .back => { s with sen := { s.sen with back := s.sen.back.modifyStage n f } }
  | .none => s

/-- The stage instance that an edit reaches (R111). -/
def State.instAt (s : State) (n : Nat) : Option StageInst :=
  match s.editReach with
  | .front => s.sen.front.stages[n]?
  | .back => s.sen.back.stages[n]?
  | .none => none

/-- Change an entry of the live scene record. -/
def State.editEntry (s : State) (n : Nat) (f : StageEntry → StageEntry) : State :=
  { s with scn := { s.scn with live :=
    { s.scn.live with chain := s.scn.live.chain.modify n f } } }

/-- The reach a DELAY is judged by: its instance's, or that of the segments its entry needs
(entry 17). -/
def editReachOf (e : StageEntry) (i : Option StageInst) : Nat :=
  match i with
  | some i => i.reach
  | none => 8192 * e.need

/-- Whether an EDIT leaves its stage degraded by the parameter it writes (R51, R61), also when it was
degraded before (entry 50). -/
def editDegrades (l : Lib) (e : StageEntry) (i : Option StageInst) (id : Nat) (v : Int) : Bool :=
  match e.kind, id with
  | .drive, 2 => (l.curve v.toNat).isNone
  | .cab, 0 => (l.impulse v.toNat).isNone
  | .delay, 1 => e.sync.isNone && decide (editReachOf e i < v.toNat + 16)
  | _, _ => false

/-- The status of a taken EDIT (R25, R51, R61). -/
def editStatus (degraded clamped : Bool) : Status :=
  if degraded then .degraded else doneOrClamped clamped

/-- Write an EDIT's value to the live scene record and to the instance it reaches (R110, R111). -/
def State.writeParam (s : State) (n id : Nat) (v : Int) : State :=
  (s.editEntry n fun e => { e with params := e.params.set id v }).editInst n (·.setParam id v)

/-- EDIT at its owner (R110). -/
def ownEdit (r : EditReq) (t : Ticket) (s : State) : State :=
  if s.scn.stale r.expected then s.answer t .stale (.stale s.scn.generation)
  else
    match s.scn.entryAt r.stage with
    | none => s.answer t .stageAbsent .none
    | some e =>
      match editValue e.kind r.param r.value with
      | none => s.answer t .invalid .none
      | some (v, clamped) =>
        let n := r.stage.toNat
        let id := r.param.toNat
        ((s.writeParam n id v).setDirty t.port).answer t
          (editStatus (editDegrades s.lib e (s.instAt n) id v) clamped)
          (.edited s.scn.generation n id v)

/-- EDIT (R110). -/
def execEdit (p : Port) (tag : Byte) (r : EditReq) (s : State) :
    Host.Outcome State Fault Refusal :=
  .next (takeRequest p tag (.edit r) (ownEdit r) s)

/-- Write an enabled flag to the live scene record and to the instance it reaches (R112). -/
def State.writeEnabled (s : State) (n : Nat) (b : Bool) : State :=
  (s.editEntry n fun e => { e with enabled := b }).editInst n fun i => { i with enabled := b }

/-- BYPASS-STAGE at its owner (R112). -/
def ownBypassStage (r : BypassReq) (t : Ticket) (s : State) : State :=
  if s.scn.stale r.expected then s.answer t .stale (.stale s.scn.generation)
  else
    match s.scn.entryAt r.stage with
    | none => s.answer t .stageAbsent .none
    | some _ =>
      let n := r.stage.toNat
      ((s.writeEnabled n r.enabled).setDirty t.port).answer t .done
        (.bypassed s.scn.generation n r.enabled)

/-- BYPASS_STAGE (R112). -/
def execBypassStage (p : Port) (tag : Byte) (r : BypassReq) (s : State) :
    Host.Outcome State Fault Refusal :=
  .next (takeRequest p tag (.bypassStage r) (ownBypassStage r) s)

/-! ### SCENE-READ (R89) -/

/-- The fields of SCENE-READ (R89). -/
def State.sceneReport (s : State) : SceneReport :=
  { live := s.scn.live
    cost := chainCost s.scn.live.chain
    demand := chainDemand s.scn.live.chain
    generation := s.scn.generation
    dirty := s.scn.dirty
    origin := s.scn.origin
    phase := s.scn.phase
    switch := s.scn.switch.map fun r =>
      { slot := r.slot, fade := r.fade, kind := r.kind, blocksLeft := r.blocksLeft }
    pending := s.scn.pendingRecall.map (·.ticket.port)
    latch := s.scn.latch
    frontGeneration := s.sen.front.generation }

/-- SCENE-READ at its owner (R89). -/
def ownSceneRead (t : Ticket) (s : State) : State := s.answer t .done (.scene s.sceneReport)

/-- SCENE_READ (R89). -/
def execSceneRead (p : Port) (tag : Byte) (s : State) : Host.Outcome State Fault Refusal :=
  .next (takeRequest p tag .sceneRead ownSceneRead s)

end Sys2Proof.Machine
end

