-- ==== Sys2Proof/Machine/Library.lean ====
section
/-! DEFINITION. The preset library (chapter 4) and the shape library (R48 to R50): WRITE-PRESET with
its checks and clamps, READ-PRESET, ERASE-PRESET, STORE, SET-SCENE-OPTIONS, WRITE-CURVE,
WRITE-IMPULSE; and LATCH and the meter and tail requests. -/

namespace Sys2Proof.Machine

/-! ### The structure checks of WRITE-PRESET (R75) -/

/-- Whether the spill of an entry is allowed (R75, check 6; entry 12). -/
def spillAllowed (k : StageKind) (spill : Nat) : Bool :=
  decide (spill = 0) || (decide (spill = 1) && k.mayHold)

/-- Whether the sync division of an entry is allowed (R75, check 7). -/
def syncAllowed (k : StageKind) (sync : Option Nat) : Bool :=
  match sync with
  | none => true
  | some c => k.maySync && decide (c ≤ 9)

/-- Whether the type value of a MOD entry is allowed (R75, check 8). -/
def typeAllowed (k : StageKind) (params : List Int) : Bool :=
  decide (k ≠ .mod) || decide (params.getD 0 0 = 0) || decide (params.getD 0 0 = 1)

/-- The first of checks 4 to 8 that an entry fails (R75). -/
def entryFault (e : EntryReq) : Option PresetReason :=
  match kindOfCode e.kind with
  | none => some .kind
  | some k =>
    if e.params.length ≠ k.paramCount then some .paramCount
    else if !spillAllowed k e.spill then some .spill
    else if !syncAllowed k e.sync then some .sync
    else if !typeAllowed k e.params then some .type
    else none

/-- The first entry that fails a check, numbered from n (R75). -/
def firstEntryFault (n : Nat) : List EntryReq → Option (PresetReason × Nat)
  | [] => none
  | e :: es =>
    match entryFault e with
    | some r => some (r, n)
    | none => firstEntryFault (n + 1) es

/-- The indices of the LOOP entries of a list numbered from n. -/
def loopIndices (n : Nat) : List EntryReq → List Nat
  | [] => []
  | e :: es =>
    if kindOfCode e.kind = some .loop then n :: loopIndices (n + 1) es else loopIndices (n + 1) es

/-- The structure checks of WRITE-PRESET in their order: the reason and the entry where one is
concerned (R75). -/
def presetFault (r : WritePresetReq) : Option (PresetReason × Option Nat) :=
  if (slotOf r.slot).isNone then some (.slot, none)
  else if !nameOk r.name then some (.name, none)
  else if r.entries.length < 1 ∨ 10 < r.entries.length then some (.stageCount, none)
  else
    match firstEntryFault 0 r.entries with
    | some (reason, n) => some (reason, some n)
    | none =>
      match loopIndices 0 r.entries with
      | _ :: n :: _ => some (.loopCount, some n)
      | _ => none

/-! ### Storing (R76, R77) -/

/-- The parameter values as they are stored, numbered from id (R77). -/
def storedParams (k : StageKind) (id : Nat) : List Int → List Int
  | [] => []
  | v :: vs => storedValue k id v :: storedParams k (id + 1) vs

/-- The clamped parameters of an entry (R77). -/
def clampedParams (k : StageKind) (n id : Nat) : List Int → List ClampMark
  | [] => []
  | v :: vs =>
    if storedValue k id v = v then clampedParams k n (id + 1) vs
    else .param n id :: clampedParams k n (id + 1) vs

/-- The kind of an entry that passed its checks. -/
def entryKind (e : EntryReq) : StageKind := (kindOfCode e.kind).getD .volume

/-- An entry as it is stored (R77). -/
def storedEntry (e : EntryReq) : StageEntry where
  kind := entryKind e
  enabled := e.enabled
  spill := if e.spill = 1 then .hold else .cut
  params := storedParams (entryKind e) 0 e.params
  sync := e.sync

/-- The record as it is stored (R77; the output level by entry 11). -/
def storedPreset (r : WritePresetReq) : Preset where
  name := r.name
  chain := r.entries.map storedEntry
  tempo := r.tempo.map (clampNat 12000 144000)
  fade := r.fade.map (clampNat 0 255)
  level := clampNat 0 65535 r.level

/-- The clamped parameters of all entries, numbered from n. -/
def clampedEntries (n : Nat) : List EntryReq → List ClampMark
  | [] => []
  | e :: es => clampedParams (entryKind e) n 0 e.params ++ clampedEntries (n + 1) es

/-- A mark when a condition holds. -/
def markIf (b : Bool) (m : ClampMark) : List ClampMark := if b then [m] else []

/-- Everything that storing a record clamps (R77). -/
def clampMarks (r : WritePresetReq) : List ClampMark :=
  clampedEntries 0 r.entries ++ markIf (optClamps 12000 144000 r.tempo) .tempo ++
    markIf (optClamps 0 255 r.fade) .fade ++ markIf (clamps 0 65535 r.level) .level

/-- Place a record in a slot, or make it EMPTY (R72). -/
def State.setSlot (s : State) (n : Nat) (rec : Option Preset) : State :=
  { s with scn := { s.scn with library := s.scn.library.set n rec } }

/-- WRITE-PRESET at its owner (R75 to R77). -/
def ownWritePreset (r : WritePresetReq) (t : Ticket) (s : State) : State :=
  match presetFault r with
  | some (reason, n) => s.answer t .invalid (.presetInvalid reason n)
  | none =>
    let rec_ := storedPreset r
    let cost := chainCost rec_.chain
    let demand := chainDemand rec_.chain
    if 1200 < cost then s.answer t .overBudget (.overBudget cost)
    else if 24 < demand then s.answer t .overMemory (.overMemory demand)
    else
      (s.setSlot r.slot.toNat (some rec_)).answer t (doneOrClamped !(clampMarks r).isEmpty)
        (.presetWritten r.slot.toNat cost demand (clampMarks r))

/-- WRITE_PRESET (R75 to R77). -/
def execWritePreset (p : Port) (tag : Byte) (r : WritePresetReq) (s : State) :
    Host.Outcome State Fault Refusal :=
  .next (takeRequest p tag (.writePreset r) (ownWritePreset r) s)

/-! ### READ-PRESET, ERASE-PRESET and STORE (R79 to R81) -/

/-- READ-PRESET at its owner (R79). -/
def ownReadPreset (r : ReadPresetReq) (t : Ticket) (s : State) : State :=
  match slotOf r.slot with
  | none => s.answer t .invalid .none
  | some n =>
    match s.scn.library.getD n none with
    | none => s.answer t .empty .none
    | some rec_ => s.answer t .done (.presetRead rec_ (chainCost rec_.chain) (chainDemand rec_.chain))

/-- READ_PRESET (R79). -/
def execReadPreset (p : Port) (tag : Byte) (r : ReadPresetReq) (s : State) :
    Host.Outcome State Fault Refusal :=
  .next (takeRequest p tag (.readPreset r) (ownReadPreset r) s)

/-- ERASE-PRESET at its owner (R80). -/
def ownErasePreset (r : ErasePresetReq) (t : Ticket) (s : State) : State :=
  match slotOf r.slot with
  | none => s.answer t .invalid .none
  | some n => (s.setSlot n none).answer t .done (.erased (s.scn.library.getD n none).isSome)

/-- ERASE_PRESET (R80). -/
def execErasePreset (p : Port) (tag : Byte) (r : ErasePresetReq) (s : State) :
    Host.Outcome State Fault Refusal :=
  .next (takeRequest p tag (.erasePreset r) (ownErasePreset r) s)

/-- The live scene record with a STORE's name, when one is given (R81). -/
def Preset.named (rec_ : Preset) (name : Option (List Byte)) : Preset :=
  { rec_ with name := name.getD rec_.name }

/-- A STORE that passed its checks. R81 (step 3), R86 and R87 name the live scene, set the origin and clear
the dirty flag, where R78 says that a STORE changes none of them: R81 is followed (entry 67). -/
def State.store (s : State) (n : Nat) (name : Option (List Byte)) (t : Ticket) : State :=
  let rec_ := s.scn.live.named name
  let s1 := State.setSlot
    { s with scn := { s.scn with live := rec_, origin := some n, dirty := false } } n (some rec_)
  (s1.raise (s1.scn.notice .store (some t.port) none none none)).answer t .done
    (.stored n rec_.name (chainCost rec_.chain) (chainDemand rec_.chain))

/-- STORE at its owner (R81). With a slot and a name that both fail, the reason is SLOT (entry 70). -/
def ownStore (r : StoreReq) (t : Ticket) (s : State) : State :=
  match slotOf r.slot with
  | none => s.answer t .invalid (.presetInvalid .slot none)
  | some n =>
    if r.name.any (fun x => !nameOk x) then s.answer t .invalid (.presetInvalid .name none)
    else if s.scn.phase ≠ .steady then s.answer t .busy .none
    else s.store n r.name t

/-- STORE (R81). -/
def execStore (p : Port) (tag : Byte) (r : StoreReq) (s : State) :
    Host.Outcome State Fault Refusal :=
  .next (takeRequest p tag (.store r) (ownStore r) s)

/-! ### SET-SCENE-OPTIONS (R84) -/

/-- An optional setting: the value clamped, or the one in force. -/
def optSetting (lo hi : Nat) (v : Option Int) (now : Nat) : Nat :=
  match v with
  | some v => clampNat lo hi v
  | none => now

/-- SET-SCENE-OPTIONS at its owner (R84). -/
def ownSetSceneOptions (r : SceneOptionsReq) (t : Ticket) (s : State) : State :=
  let safe := optSetting 0 127 r.safe s.scn.safeIdx
  let fade := optSetting 0 255 r.fade s.scn.defaultFade
  State.answer { s with scn := { s.scn with safeIdx := safe, defaultFade := fade } } t
    (doneOrClamped (optClamps 0 127 r.safe || optClamps 0 255 r.fade)) (.sceneOptions safe fade)

/-- SET_SCENE_OPTIONS (R84). -/
def execSetSceneOptions (p : Port) (tag : Byte) (r : SceneOptionsReq) (s : State) :
    Host.Outcome State Fault Refusal :=
  .next (takeRequest p tag (.setSceneOptions r) (ownSetSceneOptions r) s)

/-! ### LATCH (R91, R92) -/

/-- The LINK notice of an event (R180). -/
def Lnk.linkNotice (k : Lnk) (e : LinkEvent) (before : LinkState) (cause : Option Departure) :
    Notice :=
  .link
    { event := e, before := before, after := k.state, cause := cause, primary := k.primary
      secondary := k.secondary, auxValid := k.auxValid, restPending := k.restPending.isSome
      wakePending := k.wakePending, queued := k.queue.length }

/-- Set or clear the aux valid mark, with a LINK notice without a cause on a change (R180, R185,
entry 72). -/
def State.setAuxValid (s : State) (b : Bool) : State :=
  if s.lnk.auxValid = b then s
  else
    let k := { s.lnk with auxValid := b }
    State.raise { s with lnk := k } (k.linkNotice .auxValid k.state none)

/-- LATCH at its owner (R91): it is reported to the link, whose aux valid mark the first one after a link
start sets (R185). -/
def ownLatch (r : LatchReq) (t : Ticket) (s : State) : State :=
  let s1 := (s.setLatch (latchAfter s.scn.latch r) t.port).setAuxValid true
  s1.answer t .done (.latched s1.scn.latch)

/-- LATCH (R91). -/
def execLatch (p : Port) (tag : Byte) (r : LatchReq) (s : State) :
    Host.Outcome State Fault Refusal :=
  .next (takeRequest p tag (.latch r) (ownLatch r) s)

/-! ### The shape library (R49, R50) -/

/-- WRITE-CURVE at its owner (R49). -/
def ownWriteCurve (r : WriteCurveReq) (t : Ticket) (s : State) : State :=
  match inRange 1 7 r.slot with
  | none => s.answer t .invalid .none
  | some n =>
    if r.points.length ≠ 257 then s.answer t .badRequest (.badRequest 11 (some 2))
    else
      State.answer { s with lib := { s.lib with curves := s.lib.curves.set (n - 1) (some r.points) } }
        t .done .none

/-- WRITE_CURVE (R49). -/
def execWriteCurve (p : Port) (tag : Byte) (r : WriteCurveReq) (s : State) :
    Host.Outcome State Fault Refusal :=
  .next (takeRequest p tag (.writeCurve r) (ownWriteCurve r) s)

/-- WRITE-IMPULSE at its owner (R50). -/
def ownWriteImpulse (r : WriteImpulseReq) (t : Ticket) (s : State) : State :=
  match inRange 1 3 r.slot with
  | none => s.answer t .invalid .none
  | some n =>
    if r.taps.length ≠ 256 then s.answer t .badRequest (.badRequest 12 (some 2))
    else
      State.answer
        { s with lib := { s.lib with impulses := s.lib.impulses.set (n - 1) (some r.taps) } }
        t .done .none

/-- WRITE_IMPULSE (R50). -/
def execWriteImpulse (p : Port) (tag : Byte) (r : WriteImpulseReq) (s : State) :
    Host.Outcome State Fault Refusal :=
  .next (takeRequest p tag (.writeImpulse r) (ownWriteImpulse r) s)

/-! ### METERS (R23) -/

/-- The record of a stage with its index. -/
def meterEntry (ni : Nat × StageInst) : MeterEntry :=
  { index := ni.1, kind := ni.2.kind, status := ni.2.status }

/-- The fields of METERS (R23). -/
def State.metersReport (s : State) : MetersReport :=
  { engine := s.sen.engine
    bypassHold := s.sen.bypassHold
    blockCount := s.sen.blockCount
    load := s.sen.lastLoad
    summaryClip := s.sen.summaryClip
    frontGeneration := s.sen.front.generation
    records :=
      if s.sen.front.state = .live then (numbered 0 s.sen.front.stages).map meterEntry else [] }

/-- The clear of a status record: peak, CLIP and SAT_IN (R23). -/
def StageInst.clearMeters (i : StageInst) : StageInst :=
  { i with status := { i.status with peak := 0, clip := false, satIn := false } }

/-- The clear of METERS: every stage of both contexts and the tails, and the summary clip (R23). -/
def State.clearMeters (s : State) : State :=
  { s with
    sen := { s.sen with
      front := { s.sen.front with stages := s.sen.front.stages.map (·.clearMeters) }
      back := { s.sen.back with stages := s.sen.back.stages.map (·.clearMeters) }
      summaryClip := false }
    spl := { s.spl with tails := s.spl.tails.map fun t => { t with inst := t.inst.clearMeters } } }

/-- METERS at its owner (R23). -/
def ownMeters (r : MetersReq) (t : Ticket) (s : State) : State :=
  (if r.clear then s.clearMeters else s).answer t .done (.meters s.metersReport)

/-- METERS (R23). -/
def execMeters (p : Port) (tag : Byte) (r : MetersReq) (s : State) :
    Host.Outcome State Fault Refusal :=
  .next (takeRequest p tag (.meters r) (ownMeters r) s)

/-! ### SET-TAILS (R70) -/

/-- One tail as SET-TAILS reports it (R70). -/
def Tail.report (t : Tail) : TailReport :=
  { kind := t.inst.kind, state := t.state, cost := t.cost, segments := t.inst.segs.length
    drain := t.drain, life := t.life, originGen := t.originGen, originIdx := t.originIdx }

/-- The segment pool after a SET-TAILS (R70); the cut runs in the first pass that begins after the take,
even when that pass follows a commit (entry 49). -/
def Spl.setTails (p : Spl) (r : SetTailsReq) : Spl :=
  { p with
    drainSetting := optSetting 1 255 r.drain p.drainSetting
    lifeSetting := optSetting 1 60 r.life p.lifeSetting
    tails := if r.cut = some true then p.tails.map (·.cutNow) else p.tails }

/-- SET-TAILS at its owner (R70). -/
def ownSetTails (r : SetTailsReq) (t : Ticket) (s : State) : State :=
  let q := s.spl.setTails r
  State.answer { s with spl := q } t
    (doneOrClamped (optClamps 1 255 r.drain || optClamps 1 60 r.life))
    (.tails q.drainSetting q.lifeSetting (q.tails.map (·.report)))

/-- SET_TAILS (R70). -/
def execSetTails (p : Port) (tag : Byte) (r : SetTailsReq) (s : State) :
    Host.Outcome State Fault Refusal :=
  .next (takeRequest p tag (.setTails r) (ownSetTails r) s)

end Sys2Proof.Machine
end

