-- ==== Sys2Proof/Machine/Protection.lean ====
section
/-! DEFINITION. Output protection, faults and the bypass relay (chapter 8): the output gain, entering
FAULT and adding causes, RESUME, the starts of the engine, the relay's moves, the failover flag, and
the protection requests. -/

namespace Sys2Proof.Machine

/-! ### The output gain (R153) -/

/-- The gain in one frame sent (R153). -/
def Opu.advanceGain (o : Opu) : Opu :=
  match o.gainState with
  | .opened => o
  | .muted => o
  | .rampDown => { o with gain := o.gain - 128 }
  | .rampUp => { o with gain := min 4096 (o.gain + 128) }

/-! ### The target of a relay move (R167, R168) -/

/-- The move of the relay may take its target: it waits, the gain is MUTED, and a move to ENGAGED finds
the link RUNNING (R167, R168). -/
def State.relayDue (s : State) (m : RelayMove) : Bool :=
  m.hold.isNone && decide (s.opu.gainState = .muted) &&
  (decide (m.target = .bypass) || decide (s.lnk.state = .running))

/-- The relay takes the target of a waiting move, and the hold begins (R168, step 2). -/
def State.relayTakesTarget (s : State) : State :=
  match s.opu.move with
  | none => s
  | some m =>
    if s.relayDue m then
      { s with opu := { s.opu with relay := m.target, move := some { m with hold := some 4 } } }
    else s

/-! ### The ends of a ramp (R153) -/

/-- A ramp down has come to 0 (R153): a relay move that waits takes its target (R168, step 2). -/
def State.gainMuted (s : State) : State :=
  if s.opu.gainState = .rampDown ∧ s.opu.gain = 0 then
    State.relayTakesTarget { s with opu := { s.opu with gainState := .muted } }
  else s

/-- GAIN_REACHES_MUTED (R153). -/
def execGainReachesMuted (s : State) : Host.Outcome State Fault Refusal :=
  .next (unlessReset State.gainMuted s)

/-- A ramp up has come to 4,096 (R153). -/
def State.gainOpen (s : State) : State :=
  if s.opu.gainState = .rampUp ∧ s.opu.gain = 4096 then
    { s with opu := { s.opu with gainState := .opened } }
  else s

/-- GAIN_REACHES_OPEN (R153). -/
def execGainReachesOpen (s : State) : Host.Outcome State Fault Refusal :=
  .next (unlessReset State.gainOpen s)

/-! ### MUTE (R155) -/

/-- MUTE at its owner (R155). -/
def ownMute (r : MuteReq) (t : Ticket) (s : State) : State :=
  match muteOf r.value with
  | none => s.answer t .invalid .none
  | some on =>
    let s1 := if on then s.addReason .masterMute else s.removeReason .masterMute
    s1.answer t .done (.muted s1.opu.reasons s1.opu.gain s1.opu.gainState)

/-- MUTE (R155). -/
def execMute (p : Port) (tag : Byte) (r : MuteReq) (s : State) :
    Host.Outcome State Fault Refusal :=
  .next (takeRequest p tag (.mute r) (ownMute r) s)

/-! ### The relay (R167 to R170) -/

/-- RELAY_TAKES_TARGET (R168). -/
def execRelayTakesTarget (s : State) : Host.Outcome State Fault Refusal :=
  .next (unlessReset State.relayTakesTarget s)

/-- The end of a move's hold (R168, step 3): a target kept behind it starts as a new move, with
RELAY_MOVE staying in the set. -/
def Opu.endHold (o : Opu) (m : RelayMove) : Opu :=
  match m.next with
  | some target =>
    if target = o.relay then { o.removeReason .relayMove with move := none }
    else { o with move := some { target := target, hold := none, next := none } }
  | none => { o.removeReason .relayMove with move := none }

/-- The hold count has reached 0 (R168): the new move of a target kept behind it takes that target at its
start when the gain is MUTED. -/
def State.relayHoldEnd (s : State) : State :=
  match s.opu.move with
  | none => s
  | some m =>
    if m.hold = some 0 then State.relayTakesTarget { s with opu := s.opu.endHold m } else s

/-- RELAY_HOLD_END (R168). -/
def execRelayHoldEnd (s : State) : Host.Outcome State Fault Refusal :=
  .next (unlessReset State.relayHoldEnd s)

/-- One block boundary of a hold (R168). -/
def Opu.holdBoundary (o : Opu) : Opu :=
  { o with move := o.move.map fun m => { m with hold := m.hold.map (· - 1) } }

/-! ### Faults (R156 to R159) -/

/-- Whether a cause is in a set. -/
def CauseSet.has (c : CauseSet) : Cause → Bool
  | .frameLoss => c.frameLoss
  | .runaway => c.runaway
  | .powerWarn => c.powerWarn
  | .converterLost => c.converterLost

/-- Add a cause to a set. -/
def CauseSet.add (c : CauseSet) : Cause → CauseSet
  | .frameLoss => { c with frameLoss := true }
  | .runaway => { c with runaway := true }
  | .powerWarn => { c with powerWarn := true }
  | .converterLost => { c with converterLost := true }

/-- The set of no cause. -/
def CauseSet.empty : CauseSet :=
  { frameLoss := false, runaway := false, powerWarn := false, converterLost := false }

/-- The fault record of a first cause (R157). -/
def State.faultRecord (s : State) (c : Cause) : FaultRecord :=
  { first := c, causes := CauseSet.empty.add c, blockCount := s.sen.blockCount
    generation := s.scn.generation, phase := s.scn.phase }

/-- The reason set at the entry into FAULT (R157). -/
def MuteSet.faulted (m : MuteSet) : MuteSet :=
  { m with fault := true, stopped := false, starting := false, relayMove := false }

/-- The relay at the entry into FAULT (R170): forced to BYPASS under policy BYPASS or with the failover
flag set; in every case a move held is ended. -/
def Opu.faultRelay (o : Opu) : Opu :=
  { o with
    relay := if o.policy = .bypass ∨ o.failover = true then .bypass else o.relay
    move := none }

/-- The protection unit at the entry into FAULT (R154, R157). -/
def Opu.enterFault (o : Opu) (rec_ : FaultRecord) : Opu :=
  Opu.faultRelay
    { o with
      reasons := o.reasons.faulted
      gain := 0
      gainState := .muted
      fault := some rec_ }

/-- A RESUME awaiting its reply is answered ABORTED (R157, R162). -/
def State.abortResume (s : State) (cause : AbortCause) : State :=
  match s.opu.resume with
  | some w =>
    State.answer { s with opu := { s.opu with resume := none } } w.ticket .aborted (.resumeEnded cause)
  | none => s

/-- A FAULT notice (R159). -/
def Opu.notice (o : Opu) (e : FaultEvent) (cause : Option Cause) (mode : Option ResumeMode)
    (port : Option Port) (rec_ : Option FaultRecord) : Notice :=
  .fault
    { event := e, cause := cause, mode := mode, port := port, record := rec_, relay := o.relay
      failover := o.failover }

/-- A gain that a fault mutes at once under a rest pending holds its final step until the first frame after
the entry has been sent (R178, entry 82). -/
def Lnk.holdRest (k : Lnk) (gain : Nat) : Lnk :=
  { k with restHeld := k.restHeld || (k.restPending.isSome && decide (0 < gain)) }

/-- Enter FAULT on a first cause (R157). -/
def State.enterFault (s : State) (c : Cause) : State :=
  let s1 := { s with opu := s.opu.enterFault (s.faultRecord c), lnk := s.lnk.holdRest s.opu.gain }
  let s2 := ((s1.abortResume (.fault c)).stopEngine .fault).abandonSwitch (.fault c) none
  s2.raise (s2.opu.notice .entered (some c) none none s2.opu.fault)

/-- Add a cause in FAULT (R158). -/
def State.addCause (s : State) (rec_ : FaultRecord) (c : Cause) : State :=
  if rec_.causes.has c then s
  else
    let s1 := { s with opu := { s.opu with
      fault := some { rec_ with causes := rec_.causes.add c } } }
    s1.raise (s1.opu.notice .added (some c) none none s1.opu.fault)

/-- A cause is handed to the protection unit (R156). -/
def State.handCause (c : Cause) (s : State) : State :=
  match s.opu.fault with
  | none => s.enterFault c
  | some r => s.addCause r c

/-- The runaway count has reached 2,048 (R22). -/
def State.runaway (s : State) : State :=
  if 2048 ≤ s.sen.runaway then
    State.handCause .runaway { s with sen := { s.sen with runaway := 0 } }
  else s

/-- RUNAWAY (R22). -/
def execRunaway (s : State) : Host.Outcome State Fault Refusal :=
  .next (unlessReset State.runaway s)

/-! ### Starts of the engine (R5 to R7, R162, R169) -/

/-- The automatic start (R5). -/
def State.engineAutoStart (s : State) : State :=
  if s.lnk.state = .running ∧ s.sen.engine = .stopped ∧ s.sen.bypassHold = false then
    s.startEngine .stopped
  else s

/-- ENGINE_AUTO_START (R5). -/
def execEngineAutoStart (s : State) : Host.Outcome State Fault Refusal :=
  .next (unlessReset State.engineAutoStart s)

/-- The answer of a RESUME whose start has completed (R162). -/
def State.answerResume (s : State) : State :=
  match s.opu.resume with
  | some w =>
    let ds := w.degraded ++ s.openLoops
    State.answer { s with opu := { s.opu with resume := none } } w.ticket (doneOrDegraded ds)
      (.resumed w.mode s.scn.generation w.safeSlot ds)
  | none => s

/-- The relay engage at the completion of STARTING (R169): RELAY_MOVE enters as STARTING leaves. -/
def Opu.engage (o : Opu) : Opu := (o.ordinaryMove .engaged).removeReason .starting

/-- STARTING completes (R7); the relay engages at once when the gain is MUTED (R168, R169). -/
def State.startingComplete (s : State) : State :=
  if s.startingDue then
    let s1 := State.relayTakesTarget { s with
      sen := { s.sen with engine := .run, front := { s.sen.front with state := .live } }
      opu := s.opu.engage }
    (s1.handLevel.answerResume).beginDuePass
  else s

/-- STARTING_COMPLETE (R7). -/
def execStartingComplete (s : State) : Host.Outcome State Fault Refusal :=
  .next (unlessReset State.startingComplete s)

/-! ### RESUME (R161, R162) -/

/-- Load the safe preset or the built-in clean scene (R85). -/
def State.loadSafe (s : State) (port : Port) : State :=
  let slot := s.scn.library.getD s.scn.safeIdx none
  let rec_ := slot.getD cleanScene
  let s1 := { s with scn := { s.scn with
    live := rec_
    origin := if slot.isSome then some s.scn.safeIdx else none
    dirty := false } }
  (s1.raise (s1.scn.notice .resumeSafe (some port) none none none)).presetTempo (some port) rec_.tempo

/-- The engine's part of an accepted RESUME in BYPASS mode (R10, R161): STOPPED enters the reason set as
FAULT leaves it, and the relay, when ENGAGED, is moved to BYPASS, at once when the gain is MUTED (R168). -/
def State.resumeBypass (s : State) : State :=
  State.relayTakesTarget { s with
    sen := { s.sen with engine := .stopped, bypassHold := true }
    opu := (s.opu.swapReason .stopped .fault).ordinaryMove .bypass }

/-- The RESUME waits for its start to end (R162). -/
def State.awaitStart (s : State) (t : Ticket) (mode : ResumeMode) (safe : Option Bool) : State :=
  { s with opu := { s.opu with
    resume := some { ticket := t, mode := mode, safeSlot := safe, degraded := [] } } }

/-- What an accepted RESUME does by its mode (R10, R161). -/
def State.resumeIn (s : State) (t : Ticket) (mode : ResumeMode) : State :=
  match mode with
  | .scene => (s.startEngine .fault).awaitStart t .scene none
  | .safe =>
    ((s.loadSafe t.port).startEngine .fault).awaitStart t .safe
      (some (s.scn.library.getD s.scn.safeIdx none).isSome)
  | .bypass => s.resumeBypass.answer t .done .none

/-- A RESUME is accepted (R161). Its FAULT notice is raised before the mode decides, so it shows the relay as it
stood (entry 85). -/
def State.acceptResume (s : State) (t : Ticket) (mode : ResumeMode) : State :=
  let s1 := { s with
    opu := { s.opu with fault := none, lastFault := s.opu.fault }
    spl := s.spl.releaseTails fun _ => true }
  let s2 := s1.raise (s1.opu.notice .resumed none (some mode) (some t.port) s1.opu.lastFault)
  s2.resumeIn t mode

/-- RESUME at its owner (R161). -/
def ownResume (r : ResumeReq) (t : Ticket) (s : State) : State :=
  match resumeModeOf r.mode with
  | none => s.answer t .invalid .none
  | some mode =>
    if s.opu.fault.isNone then s.answer t .wrongState .none
    else if s.lnk.state ≠ .running ∨ s.lnk.primary = false ∨ s.powerWarning = true then
      s.answer t .notReady
        (.notReady (decide (s.lnk.state ≠ .running)) (!s.lnk.primary) s.powerWarning)
    else s.acceptResume t mode

/-- RESUME (R161). -/
def execResume (p : Port) (tag : Byte) (r : ResumeReq) (s : State) :
    Host.Outcome State Fault Refusal :=
  .next (takeRequest p tag (.resume r) (ownResume r) s)

/-! ### FAULT-READ (R160) -/

/-- The fields of FAULT-READ (R160). -/
def Opu.report (o : Opu) : FaultReport :=
  { fault := o.fault, lastFault := o.lastFault, reasons := o.reasons, gain := o.gain
    gainState := o.gainState, relay := o.relay, move := o.move, policy := o.policy
    monMode := o.monMode, limit := o.limit, elapsed := o.elapsed, failover := o.failover }

/-- FAULT-READ at its owner (R160). -/
def ownFaultRead (t : Ticket) (s : State) : State := s.answer t .done (.fault s.opu.report)

/-- FAULT_READ (R160). -/
def execFaultRead (p : Port) (tag : Byte) (s : State) : Host.Outcome State Fault Refusal :=
  .next (takeRequest p tag .faultRead ownFaultRead s)

/-! ### The failover flag (R165, R166) -/

/-- The seen mark of a port. -/
def Opu.seen (o : Opu) : Port → Bool
  | .p0 => o.seen0
  | .p1 => o.seen1
  | .p2 => o.seen2

/-- Set the seen mark of a port. -/
def Opu.markSeen (o : Opu) : Port → Opu
  | .p0 => { o with seen0 := true }
  | .p1 => { o with seen1 := true }
  | .p2 => { o with seen2 := true }

/-- Set or clear the failover flag; every port's seen mark is cleared (R165, R166). -/
def Opu.setFailover (o : Opu) (b : Bool) : Opu :=
  { o with failover := b, seen0 := false, seen1 := false, seen2 := false }

/-- FAILOVER-READ at its owner (R166). -/
def ownFailoverRead (t : Ticket) (s : State) : State :=
  (if s.opu.failover then { s with opu := s.opu.markSeen t.port } else s).answer t .done
    (.failoverFlag s.opu.failover)

/-- FAILOVER_READ (R166). -/
def execFailoverRead (p : Port) (tag : Byte) (s : State) : Host.Outcome State Fault Refusal :=
  .next (takeRequest p tag .failoverRead ownFailoverRead s)

/-- FAILOVER-CLEAR at its owner (R166). -/
def ownFailoverClear (t : Ticket) (s : State) : State :=
  if s.opu.seen t.port then
    State.answer { s with opu := s.opu.setFailover false } t .done .none
  else s.answer t .notSeen .none

/-- FAILOVER_CLEAR (R166). -/
def execFailoverClear (p : Port) (tag : Byte) (s : State) : Host.Outcome State Fault Refusal :=
  .next (takeRequest p tag .failoverClear ownFailoverClear s)

/-! ### SET-PROTECTION (R164) -/

/-- The settings after a SET-PROTECTION; the elapsed time returns to 0 when mode or limit change
(R164). -/
def Opu.protect (o : Opu) (mode : Option MonMode) (limit : Option Int) (policy : Option Policy) :
    Opu :=
  let mode' := mode.getD o.monMode
  let limit' := optSetting 0 7 limit o.limit
  { o with
    monMode := mode'
    limit := limit'
    policy := policy.getD o.policy
    elapsed := if mode' = o.monMode ∧ limit' = o.limit then o.elapsed else 0 }

/-- SET-PROTECTION at its owner (R164). -/
def ownSetProtection (r : ProtectionReq) (t : Ticket) (s : State) : State :=
  match optChoice monModeOf r.mode, optChoice policyOf r.policy with
  | some mode, some policy =>
    let o := s.opu.protect mode r.limit policy
    State.answer { s with opu := o } t (doneOrClamped (optClamps 0 7 r.limit))
      (.protection o.monMode o.limit o.policy)
  | _, _ => s.answer t .invalid .none

/-- SET_PROTECTION (R164). -/
def execSetProtection (p : Port) (tag : Byte) (r : ProtectionReq) (s : State) :
    Host.Outcome State Fault Refusal :=
  .next (takeRequest p tag (.setProtection r) (ownSetProtection r) s)

end Sys2Proof.Machine
end

