-- ==== Sys2Proof/Machine/Tuner.lean ====
section
/-! DEFINITION. The tuner (chapter 7): the frame's five steps, captures, series and readings, the block
tests, and the requests TUNER-MODE, TUNER-SET and TUNER-READ. -/

namespace Sys2Proof.Machine

/-! ### Notes (R143) -/

/-- How many entries of the note table, from the first, are at least a period. -/
def entriesAbove (p : Nat) : List Nat → Nat
  | [] => 0
  | t :: ts => if p ≤ t then entriesAbove p ts + 1 else 0

/-- The note and cents for a c of step 3 (R143, step 4). -/
def noteOf (n : Nat) (c : Nat) : Nat × Int := if c ≤ 50 then (n, c) else (n + 1, (c : Int) - 100)

/-- The c of step 3 for a period between T(n) and T(n + 1) (R143). -/
def centsAbove (tn tn1 p : Nat) : Nat := (200 * (tn - p) + (tn - tn1)) / (2 * (tn - tn1))

/-- Note and cents of a mean period from a note table; none is OUT_OF_RANGE (R143). -/
def judgePeriod (table : List Nat) (p : Nat) : Option (Nat × Int) :=
  if table.getD 0 0 < p ∨ p < table.getD 71 0 then none
  else
    let n := entriesAbove p table - 1
    if n = 71 then some (71, 0)
    else some (noteOf n (centsAbove (table.getD n 0) (table.getD (n + 1) 0) p))

/-- A note with its name and octave (R143, step 5). -/
def noteReading (nc : Nat × Int) : NoteReading :=
  { note := nc.1, name := (nc.1 + 11) % 12, octave := (nc.1 + 11) / 12, cents := nc.2 }

/-! ### Captures (R136 to R139, R141) -/

/-- The fractional offset of a crossing (R136). -/
def crossingOffset (prev x : Int) : Nat := ((128 * (-prev) + (x - prev)) / (2 * (x - prev))).toNat

/-- Whether a period is valid (R138). -/
def periodValid (p : Int) : Bool := decide (1536 ≤ p) && decide (p ≤ 131072)

/-- The newest entry of a series. -/
def newest (xs : List Nat) : Option Nat := xs.getLast?

/-- The series after a period (R138, R139). -/
def seriesAfter (xs : List Nat) (p : Int) : List Nat :=
  if periodValid p then
    match newest xs with
    | none => [p.toNat]
    | some q => if (q : Int) < (p - q).natAbs * 16 then [p.toNat] else xs ++ [p.toNat]
  else []

/-- The mean of a series, round(S / K) (R141). -/
def meanPeriod (xs : List Nat) : Nat := (2 * xs.sum + xs.length) / (2 * xs.length)

/-- A reading from a full series (R141). -/
def Tun.read (t : Tun) : Tun :=
  let mean := meanPeriod t.series
  let note := (judgePeriod t.table mean).map noteReading
  { t with
    series := []
    reading := some { mean := mean, reference := t.reference, note := note }
    readingCount := t.readingCount + 1
    sinceReading := 0
    state := if note.isSome then .locked else .outOfRange }

/-- Whether the capture fires in the frame of sample x (R135 step 1, R136). -/
def Tun.fires (t : Tun) (x : Int) : Bool :=
  decide (t.mode ≠ .off) && t.armed && t.prevSample.any (fun p => decide (p < 0)) && decide (0 ≤ x)

/-- The capture value before the carry (R137). -/
def Tun.rawCapture (t : Tun) (x : Int) : Nat := t.timebase + crossingOffset (t.prevSample.getD 0) x

/-- Whether the capture carries (R137). -/
def Tun.carries (t : Tun) (x : Int) : Bool := decide (65536 ≤ t.rawCapture x)

/-- The capture value (R137). -/
def Tun.captureValue (t : Tun) (x : Int) : Nat :=
  if t.carries x then t.rawCapture x - 65536 else t.rawCapture x

/-- The period a capture forms, in ticks; none for a first capture (R137). -/
def Tun.period (t : Tun) (x : Int) : Option Int :=
  t.prevCapture.map fun q =>
    65536 * ((if t.carries x then t.wraps + 1 else t.wraps : Nat) : Int) + t.captureValue x - q

/-- The registers after a capture fires, before any reading (R136 to R139). -/
def Tun.captured (t : Tun) (x : Int) : Tun :=
  { t with
    armed := false
    prevCapture := some (t.captureValue x)
    wraps := 0
    series := match t.period x with
      | none => t.series
      | some p => seriesAfter t.series p }

/-- Whether a capture's period completes the series (R139). -/
def Tun.completes (t : Tun) (x : Int) : Bool :=
  (t.period x).any periodValid && decide ((t.captured x).series.length = t.k)

/-- Step 1 of R135: the crossing check with what it leads to. -/
def Tun.crossing (t : Tun) (x : Int) : Tun :=
  if t.fires x then (if t.completes x then (t.captured x).read else t.captured x) else t

/-- Step 2 of R135: the arming check. -/
def Tun.arming (t : Tun) (x : Int) : Tun :=
  if t.mode ≠ .off ∧ x < -((t.floor / 2 : Nat) : Int) then { t with armed := true } else t

/-- Step 3 of R135: the timebase advances; the return to 0 of a carried capture's frame is not counted
again. -/
def Tun.advance (t : Tun) (carried : Bool) : Tun :=
  if t.timebase + 64 ≤ 65472 then { t with timebase := t.timebase + 64 }
  else { t with timebase := 0, wraps := if carried then t.wraps else min 3 (t.wraps + 1) }

/-- Step 4 of R135 without the block tests: the block peak. -/
def Tun.peak (t : Tun) (x : Int) : Tun :=
  if t.mode ≠ .off then { t with blockPeak := max t.blockPeak x.natAbs } else t

/-- The five steps of R135 on one frame of guitar sample x. -/
def Tun.measure (t : Tun) (x : Int) : Tun :=
  let carried := t.fires x && t.carries x
  { (((t.crossing x).arming x).advance carried).peak x with prevSample := some x }

/-- The tuner's work on one frame of guitar sample x (R135); the first frame after the link has entered
RUNNING again only sets the previous sample (R150, entry 47). -/
def Tun.frame (t : Tun) (x : Int) : Tun :=
  if t.returned then { t with prevSample := some x, returned := false } else t.measure x

/-- Whether a frame makes a reading. -/
def Tun.reads (t : Tun) (x : Int) : Bool := !t.returned && t.fires x && t.completes x

/-- The block test of R140 and the count of blocks since the reading (R144) at a boundary in MONITOR or
SILENT, after which the block peak is 0 (R135, step 4). -/
def Tun.blockTests (t : Tun) : Tun :=
  if t.mode = .off then t
  else
    let quiet := decide (t.blockPeak < t.floor)
    { t with
      series := if quiet then [] else t.series
      prevCapture := if quiet then none else t.prevCapture
      sinceReading := min 300 (t.sinceReading + 1)
      blockPeak := 0 }

/-! ### Notices and events -/

/-- The TUNER notice of an event (R147). -/
def Tun.notice (t : Tun) (e : TunerEvent) : Notice :=
  .tuner { mode := t.mode, state := t.state, count := t.readingCount, reading := t.reading, event := e }

/-- The tuner's frame, with the notice of a reading (R135, R141, R147). -/
def State.tunerFrame (s : State) (x : Int) : State :=
  let s1 := { s with tun := s.tun.frame x }
  if s.tun.reads x then s1.raise (s1.tun.notice .reading) else s1

/-- 300 blocks without a reading (R144). -/
def State.tunerTimeout (s : State) : State :=
  if s.tun.mode ≠ .off ∧ s.tun.sinceReading = 300 ∧ s.tun.state ≠ .noSignal then
    let s1 := { s with tun := { s.tun with state := .noSignal } }
    s1.raise (s1.tun.notice .timeout)
  else s

/-- TUNER_TIMEOUT (R144). -/
def execTunerTimeout (s : State) : Host.Outcome State Fault Refusal :=
  .next (unlessReset State.tunerTimeout s)

/-- The tuner's registers when the link leaves RUNNING (R150). -/
def Tun.linkDown (t : Tun) : Tun :=
  { t with
    armed := false
    prevSample := none
    returned := true
    prevCapture := none
    series := []
    blockPeak := 0
    state := if t.mode = .off then t.state else .noSignal }

/-- The link leaves RUNNING (R150). -/
def State.tunerLinkDown (s : State) : State :=
  let s1 := { s with tun := s.tun.linkDown }
  if s1.tun.state = s.tun.state then s1 else s1.raise (s1.tun.notice .link)

/-! ### TUNER-MODE (R145) -/

/-- The registers after a change of mode (R145). -/
def Tun.setMode (t : Tun) (m : TunerMode) : Tun :=
  if t.mode = .off then
    { t with mode := m, armed := false, prevCapture := none, series := [], blockPeak := 0
             sinceReading := 0 }
  else if m = .off then
    { t with mode := m, armed := false, prevCapture := none, series := [], blockPeak := 0
             reading := none, state := .noSignal }
  else { t with mode := m }

/-- A change of mode with its effect on the reason set (R145). -/
def State.setTunerMode (s : State) (m : TunerMode) : State :=
  let s1 := { s with tun := s.tun.setMode m }
  if m = .silent then s1.addReason .tunerSilent else s1.removeReason .tunerSilent

/-- TUNER-MODE at its owner (R145). -/
def ownTunerMode (r : TunerModeReq) (t : Ticket) (s : State) : State :=
  match tunerModeOf r.mode with
  | none => s.answer t .invalid .none
  | some m =>
    let s1 := if m = s.tun.mode then s
      else (s.setTunerMode m).raise ((s.setTunerMode m).tun.notice .mode)
    s1.answer t .done (.tunerMode s1.tun.mode s1.tun.state)

/-- TUNER_MODE (R145). -/
def execTunerMode (p : Port) (tag : Byte) (r : TunerModeReq) (s : State) :
    Host.Outcome State Fault Refusal :=
  .next (takeRequest p tag (.tunerMode r) (ownTunerMode r) s)

/-! ### TUNER-SET (R148) -/

/-- An averaging count, 4, 8 or 16 (R148). -/
def averagingOf (v : Int) : Option Nat :=
  if v = 4 then some 4 else if v = 8 then some 8 else if v = 16 then some 16 else none

/-- The reference field (R148). -/
def Tun.setReference (t : Tun) (v : Option Int) : Tun :=
  match v with
  | none => t
  | some v =>
    let r := clampNat 4000 4800 v
    if r = t.reference then t else { t with reference := r, table := noteTable r }

/-- The K field (R148). -/
def Tun.setK (t : Tun) (k : Option Nat) : Tun :=
  match k with
  | none => t
  | some k => if k = t.k then t else { t with k := k, series := [] }

/-- The floor field (R148). -/
def Tun.setFloor (t : Tun) (v : Option Int) : Tun :=
  match v with
  | none => t
  | some v => { t with floor := clampNat 64 1048576 v }

/-- TUNER-SET at its owner (R148). -/
def ownTunerSet (r : TunerSetReq) (t : Ticket) (s : State) : State :=
  match optChoice averagingOf r.k with
  | none => s.answer t .invalid .none
  | some k =>
    let u := ((s.tun.setReference r.reference).setK k).setFloor r.floor
    State.answer { s with tun := u } t
      (doneOrClamped (optClamps 4000 4800 r.reference || optClamps 64 1048576 r.floor))
      (.tunerSettings u.reference u.k u.floor)

/-- TUNER_SET (R148). -/
def execTunerSet (p : Port) (tag : Byte) (r : TunerSetReq) (s : State) :
    Host.Outcome State Fault Refusal :=
  .next (takeRequest p tag (.tunerSet r) (ownTunerSet r) s)

/-! ### TUNER-READ (R149) -/

/-- The note index of TUNER-READ (R149): none is INVALID. -/
def noteIndexOf (v : Int) : Option Nat := inRange 0 71 v

/-- The fields of TUNER-READ (R149). -/
def Tun.report (t : Tun) (note : Option Nat) : TunerReport :=
  { mode := t.mode, state := t.state, reference := t.reference, k := t.k, floor := t.floor
    reading := t.reading, readingCount := t.readingCount, seriesLen := t.series.length
    sinceReading := t.sinceReading, flat := t.flatLamp, inTune := t.inTuneLamp
    sharp := t.sharpLamp, entry := note.map fun n => t.table.getD n 0 }

/-- TUNER-READ at its owner (R149). -/
def ownTunerRead (r : TunerReadReq) (t : Ticket) (s : State) : State :=
  match optChoice noteIndexOf r.note with
  | none => s.answer t .invalid .none
  | some n => s.answer t .done (.tuner (s.tun.report n))

/-- TUNER_READ (R149). -/
def execTunerRead (p : Port) (tag : Byte) (r : TunerReadReq) (s : State) :
    Host.Outcome State Fault Refusal :=
  .next (takeRequest p tag (.tunerRead r) (ownTunerRead r) s)

end Sys2Proof.Machine
end

