-- ==== Sys2Proof/Machine/Link.lean ====
section
/-! DEFINITION. The converter link (chapter 9): oscillator time, the changes of link state and of the
ready bits, departures from RUNNING, rest and wake, and the converter command queue. -/

namespace Sys2Proof.Machine

/-! ### Oscillator time (R163, R171, R189) -/

/-- Oscillator time passing at a receiver: it counts within a frame, no further than 1,001 µs. -/
def Receiver.elapse (r : Receiver) (d : Nat) : Receiver :=
  if r.phase = .hunt then r else { r with since := min 1001 (r.since + d) }

/-- Oscillator time passing at a port. -/
def PortState.elapse (ps : PortState) (d : Nat) : PortState := { ps with rx := ps.rx.elapse d }

/-- Whether the frame-loss monitor times (R163). -/
def State.monitorRuns (s : State) : Bool :=
  decide (s.opu.monMode ≠ .off) && decide (s.lnk.state = .running)

/-- d microseconds of the oscillator pass. -/
def State.elapse (d : Nat) (s : State) : State :=
  { s with
    pif := { s.pif with
      port0 := s.pif.port0.elapse d
      port1 := s.pif.port1.elapse d
      port2 := s.pif.port2.elapse d }
    opu := { s.opu with elapsed := if s.monitorRuns then s.opu.elapsed + d else 0 }
    lnk := { s.lnk with time := s.lnk.time + d } }

/-! ### Link states and ready bits (R171, R173, R180) -/

/-- Change the link state, with its LINK notice; a state begun afresh only restarts its time (R174,
R180). Which changes carry a cause is entry 72's. -/
def State.linkTo (s : State) (dest : LinkState) (cause : Option Departure) : State :=
  let k := { s.lnk with state := dest, time := 0 }
  let s1 := { s with lnk := k, opu := { s.opu with elapsed := 0 } }
  if s.lnk.state = dest then s1 else s1.raise (k.linkNotice .state s.lnk.state cause)

/-- Set the primary ready bit, with a LINK notice without a cause on a change (R173, entry 72). -/
def State.setPrimary (s : State) (b : Bool) : State :=
  if s.lnk.primary = b then s
  else
    let k := { s.lnk with primary := b }
    State.raise { s with lnk := k } (k.linkNotice .primaryReady k.state none)

/-- Set the secondary ready bit, with a LINK notice without a cause on a change (R173, entry 72). -/
def State.setSecondary (s : State) (b : Bool) : State :=
  if s.lnk.secondary = b then s
  else
    let k := { s.lnk with secondary := b }
    State.raise { s with lnk := k } (k.linkNotice .secondaryReady k.state none)

/-- Both ready bits become not ready (R173). -/
def State.clearReady (s : State) : State := (s.setPrimary false).setSecondary false

/-! ### The converter command queue (R182 to R184) -/

/-- A READ whose access is ended is answered ABORTED; a WRITE receives nothing (R183). -/
def State.endAccess (cause : ReadEnd) (s : State) (a : Access) : State :=
  match a.owner, a.data with
  | some t, none => s.answer t .aborted (.readEnded cause)
  | _, _ => s

/-- End the accesses that satisfy a test; the others keep their order (R183). -/
def State.endAccesses (s : State) (gone : Access → Bool) (cause : ReadEnd) : State :=
  (s.lnk.queue.filter gone).foldl (State.endAccess cause)
    { s with lnk := { s.lnk with queue := s.lnk.queue.filter fun a => !gone a } }

/-- The command queue at the end of RUNNING: every access and the level pending are gone (R183,
R184). -/
def State.endQueue (s : State) : State :=
  State.endAccesses { s with lnk := { s.lnk with levelPending := none } } (fun _ => true) .link

/-- Whether a read is SENT. -/
def Lnk.readSent (k : Lnk) : Bool := k.queue.any (·.sent)

/-- The ready bit of a target (R182). -/
def Lnk.ready (k : Lnk) : Target → Bool
  | .primary => k.primary
  | .secondary => k.secondary

/-- The echo of a target's line in the last frame received. -/
def Lnk.echoOn (k : Lnk) : Target → Option Echo
  | .primary => k.echo0
  | .secondary => k.echo1

/-- The echo that completes a SENT read, in a frame received after the one in which it was sent
(R183). -/
def Lnk.completion (k : Lnk) (a : Access) : Option Echo :=
  if a.sent = true ∧ 1 ≤ a.waited then
    match k.echoOn a.target with
    | some e => if e.index = a.index then some e else none
    | none => none
  else none

/-- Remove the SENT read, the oldest of the queue. -/
def Lnk.dropFirst (k : Lnk) : Lnk := { k with queue := k.queue.drop 1 }

/-- Answer the request an access was made for, when there is one. -/
def State.answerOwner (s : State) (a : Access) (st : Status) (f : Fields) : State :=
  match a.owner with
  | some t => s.answer t st f
  | none => s

/-- A read completes (R183). -/
def State.convReadCompletion (s : State) : State :=
  match s.lnk.queue with
  | [] => s
  | a :: _ =>
    match s.lnk.completion a with
    | some e =>
      State.answerOwner { s with lnk := s.lnk.dropFirst } a .done
        (.converter e.data a.index a.target a.waited)
    | none => s

/-- CONV_READ_COMPLETION (R183). -/
def execConvReadCompletion (s : State) : Host.Outcome State Fault Refusal :=
  .next (unlessReset State.convReadCompletion s)

/-- A read times out: 8 frames received without a matching echo (R183). -/
def State.convReadTimeout (s : State) : State :=
  match s.lnk.queue with
  | [] => s
  | a :: _ =>
    if a.sent = true ∧ 8 ≤ a.waited ∧ (s.lnk.completion a).isNone = true then
      State.answerOwner { s with lnk := s.lnk.dropFirst } a .timeout .none
    else s

/-- CONV_READ_TIMEOUT (R183). -/
def execConvReadTimeout (s : State) : Host.Outcome State Fault Refusal :=
  .next (unlessReset State.convReadTimeout s)

/-- The level write pending joins the queue when it has room (R184). -/
def State.levelWriteJoin (s : State) : State :=
  match s.lnk.levelPending with
  | some v => if s.lnk.queue.length < 4 then { s with lnk := s.lnk.handLevel v } else s
  | none => s

/-- LEVEL_WRITE_JOIN (R184). -/
def execLevelWriteJoin (s : State) : Host.Outcome State Fault Refusal :=
  .next (unlessReset State.levelWriteJoin s)

/-- A register index, 0 to 127 (R182). -/
def registerOf (v : Int) : Option Nat := inRange 0 127 v

/-- The checks of R182 after the fields are in range: the refusal, if any. -/
def Lnk.convRefusal (k : Lnk) (t : Target) : Option Status :=
  if k.state ≠ .running ∨ k.ready t = false then some .notReady
  else if 4 ≤ k.queue.length then some .busy
  else none

/-- An access joins the end of the queue (R182). -/
def State.joinQueue (s : State) (a : Access) : State :=
  { s with lnk := { s.lnk with queue := s.lnk.queue ++ [a] } }

/-- CONV-READ at its owner (R182). -/
def ownConvRead (tag : Byte) (r : ConvReadReq) (t : Ticket) (s : State) : State :=
  match targetOf r.target, registerOf r.index with
  | some target, some n =>
    match s.lnk.convRefusal target with
    | some st => s.answer t st .none
    | none =>
      s.joinQueue
        { owner := some t, tag := some tag, data := none, target := target, index := n, sent := false
          waited := 0, fresh := false }
  | _, _ => s.answer t .invalid .none

/-- CONV_READ (R182). -/
def execConvRead (p : Port) (tag : Byte) (r : ConvReadReq) (s : State) :
    Host.Outcome State Fault Refusal :=
  .next (takeRequest p tag (.convRead r) (ownConvRead tag r) s)

/-- CONV-WRITE at its owner (R182). -/
def ownConvWrite (tag : Byte) (r : ConvWriteReq) (t : Ticket) (s : State) : State :=
  match targetOf r.target, registerOf r.index, inRange 0 65535 r.data with
  | some target, some n, some v =>
    match s.lnk.convRefusal target with
    | some st => s.answer t st .none
    | none =>
      (s.joinQueue
        { owner := some t, tag := some tag, data := some v, target := target, index := n
          sent := false, waited := 0, fresh := false }).answer t .posted (.posted s.lnk.queue.length)
  | _, _, _ => s.answer t .invalid .none

/-- CONV_WRITE (R182). -/
def execConvWrite (p : Port) (tag : Byte) (r : ConvWriteReq) (s : State) :
    Host.Outcome State Fault Refusal :=
  .next (takeRequest p tag (.convWrite r) (ownConvWrite tag r) s)

/-! ### Departures from RUNNING (R176, R8) -/

/-- The engine at a departure without a fault (R8, R115): STARTING and RUN become STOPPED, with STOPPED
in the reason set before STARTING leaves it. -/
def State.engineLinkStop (s : State) (port : Option Port) : State :=
  if s.sen.engine = .starting ∨ s.sen.engine = .run then
    let s1 := { s with opu := s.opu.swapReason .stopped .starting }
    ((s1.abortResume .link).stopEngine .stopped).abandonSwitch .link port
  else s

/-- The protection unit and the engine at a departure: the cause handed over, or the engine stopped and
the relay forced to BYPASS (R167, R176). -/
def State.departEngine (s : State) (cause : Option Cause) (port : Option Port) : State :=
  match cause with
  | some c => s.handCause c
  | none =>
    let s1 := s.engineLinkStop port
    { s1 with opu := s1.opu.forceBypass }

/-- The frames of the block partly received are discarded (R1): a block wholly received has made its
boundary in its sixteenth frame. -/
def State.dropBlock (s : State) : State := { s with sen := { s.sen with gathered := [] } }

/-- The link leaves RUNNING (R176). The replies that it ends are filled in this order: the reads of the
queue, the RESUME, the recall taken, the recall pending (entry 79). -/
def State.leaveRunning (s : State) (dest : LinkState) (why : Departure) (cause : Option Cause)
    (port : Option Port) : State :=
  ((s.endQueue.dropBlock.tunerLinkDown).departEngine cause port).linkTo dest (some why)

/-! ### Rest (R178, R179) -/

/-- A rest pending ends before its final step (R179); the LINK notices that follow show it gone
(entry 80). -/
def State.abortRest (s : State) (cause : RestEnd) : State :=
  match s.lnk.restPending with
  | some t =>
    State.answer { s with lnk := { s.lnk with restPending := none, restHeld := false } } t .aborted
      (.restEnded cause)
  | none => s

/-- The final step of a rest (R178): with the gain MUTED, and after a fault that muted it at once not before
the frame after its entry. Its LINK notices show the rest no longer pending (entry 80), and its own reply
is filled after those of the departure (entry 79). -/
def State.linkRestFinal (s : State) : State :=
  match s.lnk.restPending with
  | some t =>
    if s.lnk.state = .running ∧ s.opu.gainState = .muted ∧ s.lnk.restHeld = false then
      let s1 := { s with lnk := { s.lnk with restPending := none } }
      ((s1.leaveRunning .resting .rest none (some t.port)).clearReady).answer t .done .none
    else s
  | none => s

/-- LINK-REST at its owner (R178): with the gain MUTED the final step falls at the take. -/
def ownLinkRest (t : Ticket) (s : State) : State :=
  if s.lnk.state ≠ .running ∨ s.lnk.restPending.isSome = true then s.answer t .wrongState .none
  else State.linkRestFinal
    { s.addReason .standby with lnk := { s.lnk with restPending := some t, restHeld := false } }

/-- LINK_REST (R178). -/
def execLinkRest (p : Port) (tag : Byte) (s : State) : Host.Outcome State Fault Refusal :=
  .next (takeRequest p tag .linkRest ownLinkRest s)

/-- LINK_REST_FINAL_STEP (R178). -/
def execLinkRestFinalStep (s : State) : Host.Outcome State Fault Refusal :=
  .next (unlessReset State.linkRestFinal s)

/-! ### Link starts (R174, R177) -/

/-- A link start clears the aux valid mark; the ready bits are not ready (R173, R174). -/
def State.linkStarted (s : State) : State := s.clearReady.setAuxValid false

/-- The change to COLD_START by LINK-START, from RUNNING or from another state (R177). The LINK notice
carries START from either (entry 72). -/
def State.coldStart (s : State) (port : Port) : State :=
  if s.lnk.state = .running then s.leaveRunning .coldStart .start none (some port)
  else s.linkTo .coldStart (some .start)

/-- LINK-START at its owner (R177). The LINK-REST that it ends is answered first, its own reply is filled
last (entry 79). -/
def ownLinkStart (t : Ticket) (s : State) : State :=
  let s1 := s.abortRest .start
  let s2 := State.coldStart
    { s1 with
      lnk := { s1.lnk with wakePending := false }
      sen := { s1.sen with bypassHold := false } } t.port
  ((s2.linkStarted).removeReason .standby).answer t .done (.linkBefore s.lnk.state)

/-- LINK_START (R177). -/
def execLinkStart (p : Port) (tag : Byte) (s : State) : Host.Outcome State Fault Refusal :=
  .next (takeRequest p tag .linkStart ownLinkStart s)

/-- The 1 ms of COLD_START ends (R174). -/
def State.coldStartExpiry (s : State) : State :=
  if s.lnk.state = .coldStart then
    (s.elapse (1000 - s.lnk.time)).linkTo .syncing none
  else s

/-- COLD_START_EXPIRY (R174). -/
def execColdStartExpiry (s : State) : Host.Outcome State Fault Refusal :=
  .next (unlessReset State.coldStartExpiry s)

/-! ### Wake (R181) -/

/-- Enter WAKING, a link start (R181). The LINK notice of the change carries WAKE (entry 72) and shows the
wake no longer pending (entry 80). -/
def State.enterWaking (s : State) : State :=
  (State.linkTo { s with lnk := { s.lnk with wakePending := false } } .waking (some .wake)).linkStarted

/-- A wake asked for in RESTING: at once from 100 µs on, else held as pending (R181). -/
def State.wake (s : State) : State :=
  if 100 ≤ s.lnk.time then s.enterWaking else { s with lnk := { s.lnk with wakePending := true } }

/-- LINK-WAKE at its owner (R179, R181). A DONE always carries the deferred mark, no where the wake was
not deferred and where a rest is cancelled (entry 73). -/
def ownLinkWake (t : Ticket) (s : State) : State :=
  match s.lnk.state with
  | .resting => s.wake.answer t .done (.wake (decide (s.lnk.time < 100)))
  | .running =>
    if s.lnk.restPending.isSome then
      ((s.abortRest .wake).removeReason .standby).answer t .done (.wake false)
    else s.answer t .wrongState .none
  | .off => s.answer t .wrongState .none
  | .coldStart => s.answer t .wrongState .none
  | .syncing => s.answer t .wrongState .none
  | .lost => s.answer t .wrongState .none
  | .waking => s.answer t .wrongState .none

/-- LINK_WAKE (R181). -/
def execLinkWake (p : Port) (tag : Byte) (s : State) : Host.Outcome State Fault Refusal :=
  .next (takeRequest p tag .linkWake ownLinkWake s)

/-- A rising level on DIN0 while RESTING (R181). -/
def State.converterWake (s : State) : State := if s.lnk.state = .resting then s.wake else s

/-- CONVERTER_WAKE (R181). -/
def execConverterWake (s : State) : Host.Outcome State Fault Refusal :=
  .next (unlessReset State.converterWake s)

/-- The 100 µs of a deferred wake end (R181). -/
def State.wakeDeferralExpiry (s : State) : State :=
  if s.lnk.state = .resting ∧ s.lnk.wakePending = true then
    (s.elapse (100 - s.lnk.time)).enterWaking
  else s

/-- WAKE_DEFERRAL_EXPIRY (R181). -/
def execWakeDeferralExpiry (s : State) : Host.Outcome State Fault Refusal :=
  .next (unlessReset State.wakeDeferralExpiry s)

/-- The 2 µs of WAKING end (R181). -/
def State.wakingExpiry (s : State) : State :=
  if s.lnk.state = .waking then (s.elapse (2 - s.lnk.time)).linkTo .syncing none else s

/-- WAKING_EXPIRY (R181). -/
def execWakingExpiry (s : State) : Host.Outcome State Fault Refusal :=
  .next (unlessReset State.wakingExpiry s)

/-! ### The frame-loss monitor (R163) -/

/-- The limit of a code in microseconds (R163). -/
def limitTime (code : Nat) : Nat := 250 * 2 ^ code

/-- A departure by the monitor or by the primary's drop ends a rest pending (R179). -/
def State.departBy (s : State) (dest : LinkState) (why : Departure) (c : Cause) : State :=
  let pending := s.lnk.restPending.isSome
  let s1 := (s.abortRest .link).leaveRunning dest why (some c) none
  if pending then s1.removeReason .standby else s1

/-- What FAILOVER mode adds to an expiry: the relay is forced to BYPASS and the failover flag is set
(R163, R165). -/
def Opu.failOver (o : Opu) : Opu :=
  if o.monMode = .failover then (o.forceBypass).setFailover true else o

/-- The frame-loss monitor expires (R163). -/
def State.frameLossExpiry (s : State) : State :=
  if s.monitorRuns then
    let s1 := s.elapse (limitTime s.opu.limit - s.opu.elapsed)
    (State.departBy { s1 with opu := s1.opu.failOver } .lost .monitor .frameLoss).clearReady
  else s

/-- FRAME_LOSS_EXPIRY (R163). -/
def execFrameLossExpiry (s : State) : Host.Outcome State Fault Refusal :=
  .next (unlessReset State.frameLossExpiry s)

/-! ### AUX-READ (R186) -/

/-- The fields of AUX-READ (R186). -/
def State.auxReport (s : State) : AuxReport :=
  { auxIn := s.lnk.auxIn, primary := s.lnk.primary, secondary := s.lnk.secondary
    link := s.lnk.state, auxOut := s.auxOut, auxValid := s.lnk.auxValid }

/-- AUX-READ at its owner (R186). -/
def ownAuxRead (t : Ticket) (s : State) : State := s.answer t .done (.aux s.auxReport)

/-- AUX_READ (R186). -/
def execAuxRead (p : Port) (tag : Byte) (s : State) : Host.Outcome State Fault Refusal :=
  .next (takeRequest p tag .auxRead ownAuxRead s)

end Sys2Proof.Machine
end

