-- ==== Sys2Proof/Machine/Boundary.lean ====
section
/-! DEFINITION. The block boundary (R1 to R3), the completion of a pass and the expiries of tails as
events, and what the part does by itself between the frames (entry 2). -/

namespace Sys2Proof.Machine

/-! ### The events of a pass -/

/-- The pass under way completes, with the expiries of tails that fall at its completion (R65, R66). -/
def State.finishPass (s : State) : State :=
  if s.sen.pass.isSome then s.passComplete.tailDrainExpiry.tailLifeExpiry else s

/-- PASS_COMPLETE (R20). -/
def execPassComplete (s : State) : Host.Outcome State Fault Refusal :=
  .next (unlessReset State.finishPass s)

/-- TAIL_DRAIN_EXPIRY (R65). -/
def execTailDrainExpiry (s : State) : Host.Outcome State Fault Refusal :=
  .next (unlessReset State.tailDrainExpiry s)

/-- TAIL_LIFE_EXPIRY (R66). -/
def execTailLifeExpiry (s : State) : Host.Outcome State Fault Refusal :=
  .next (unlessReset State.tailLifeExpiry s)

/-! ### The boundary (R1) -/

/-- The steps that belong to a boundary before its pass, each when it is due and each with the pass when
nothing else precedes it (R7, R99, R105, R109). -/
def State.boundarySteps (s : State) : State :=
  s.startingComplete.grantAfterReclaim.endOfPrepare.commit.gapInEnd

/-- What of the boundary before is still due, and the pass under way, are done (R2, entry 2). -/
def State.catchUp (s : State) : State := s.boundarySteps.pendingTake.finishPass

/-- The frames, the count and the outputs at a boundary (R1, R3). -/
def Sen.boundary (e : Sen) : Sen :=
  { e with
    blockCount := e.blockCount + 1
    awaiting := some (e.gathered.take 16)
    gathered := e.gathered.drop 16
    outQueue := e.outQueue ++ e.ready
    ready := [] }

/-- What a boundary does to the engine: a build step of a start, or a switch's next block (R6, R99). -/
def State.engineBoundary (s : State) : State :=
  match s.sen.engine with
  | .starting => if 0 < s.sen.front.buildCount then s.buildFront else s
  | .run => s.switchBoundary
  | .stopped => s
  | .fault => s

/-- A block boundary (R1). -/
def State.boundary (s : State) : State :=
  let s1 := { s with sen := s.sen.boundary, tun := s.tun.blockTests, opu := s.opu.holdBoundary }
  s1.engineBoundary.beginDuePass

/-- The boundary of a block of sixteen frames (R1). -/
def State.blockBoundary (s : State) : State :=
  if 16 ≤ s.sen.gathered.length then s.catchUp.boundary else s

/-- BLOCK_BOUNDARY (R1). -/
def execBlockBoundary (s : State) : Host.Outcome State Fault Refusal :=
  .next (unlessReset State.blockBoundary s)

/-! ### What falls in a frame -/

/-- The events of the link, of the engine start and of a runaway that are due (R5, R22, R183, R184). -/
def State.settleLink (s : State) : State :=
  s.convReadCompletion.convReadTimeout.levelWriteJoin.engineAutoStart.runaway

/-- The block boundary that is the arrival of a block's sixteenth frame (R1), with the tuner's timeout
(R135, R144), the end of a relay's hold (R168), the steps of the boundary and the pending recall (entry 59). -/
def State.settleBlock (s : State) : State :=
  s.blockBoundary.tunerTimeout.relayHoldEnd.boundarySteps.pendingTake

/-- The same for a frame that departs: its block makes its boundary when it is whole (R1, entry 41). -/
def State.wholeBlock (s : State) : State :=
  if 16 ≤ s.sen.gathered.length then s.settleBlock else s

/-- The events of protection that are due (R153, R168, R178). -/
def State.settleOutput (s : State) : State :=
  s.gainMuted.gainOpen.relayTakesTarget.linkRestFinal

/-- Everything that is due, in a fixed order (entry 2). -/
def State.settle (s : State) : State := s.settleLink.settleBlock.settleOutput

end Sys2Proof.Machine
end

