-- ==== Sys2Proof/Machine/Frames.lean ====
section
/-! DEFINITION. The frames of the converter link (R172, R173, R175, R183, R185, R186): what a frame
received brings, and how a frame sent is composed. -/

namespace Sys2Proof.Machine

/-! ### Frames received -/

/-- The aux input word of a frame, when its slot 6 is valid (R186). -/
def auxWordOf (f : InFrame) : Option Word16 :=
  if slotValid f.tag 6 then some (f.slot6.setWidth 16) else none

/-- Store a changed aux input word, with an AUX notice (R186). -/
def State.storeAux (s : State) (w : Word16) : State :=
  State.raise { s with lnk := { s.lnk with auxIn := w } } (.aux w s.lnk.auxIn (w ^^^ s.lnk.auxIn))

/-- The aux input word of a frame: a change is stored and reported, a rise of bit 2 is POWER_WARN
(R186). -/
def State.auxInput (s : State) (f : InFrame) : State :=
  match auxWordOf f with
  | none => s
  | some w =>
    if w = s.lnk.auxIn then s
    else
      let s1 := s.storeAux w
      if w.getLsbD 2 && !s.lnk.auxIn.getLsbD 2 then s1.handCause .powerWarn else s1

/-- Whether a frame brings a power warning. -/
def State.warns (s : State) (f : InFrame) : Bool :=
  (auxWordOf f).any (·.getLsbD 2) && !s.lnk.auxIn.getLsbD 2

/-- The status echoes of a frame. -/
def State.storeEchoes (s : State) (f0 f1 : InFrame) : State :=
  { s with lnk := { s.lnk with echo0 := echoOf f0, echo1 := echoOf f1 } }

/-- The secondary ready bit while RUNNING: a drop ends the accesses to the secondary (R173, R183). Its
LINK notice is raised before they leave and still counts them (entry 62). -/
def State.secondaryBit (s : State) (b : Bool) : State :=
  let s1 := s.setSecondary b
  if s.lnk.secondary && !b then
    s1.endAccesses (fun a => decide (a.target = .secondary)) .converter
  else s1

/-- Entering RUNNING (R175): STANDBY leaves the reason set. -/
def State.enterRunning (s : State) : State := (s.linkTo .running none).removeReason .standby

/-- A frame received in SYNCING (R172, R175): the notices of the ready bits come before that of the change
to RUNNING (entry 34). -/
def State.syncingFrame (s : State) (f0 f1 : InFrame) : State :=
  let s1 := (s.setPrimary (readyBit f0.tag)).setSecondary (readyBit f1.tag)
  let s2 := (s1.auxInput f0).storeEchoes f0 f1
  if readyBit f0.tag then s2.enterRunning else s2

/-- A frame received counts for a SENT read, but not the one of the frame period of its sending
(R183, entry 37). -/
def Access.countFrame (a : Access) : Access :=
  if a.sent then (if a.fresh then { a with fresh := false } else { a with waited := a.waited + 1 })
  else a

/-- The counts of the command queue in a frame received (R183). -/
def Lnk.countFrame (k : Lnk) : Lnk := { k with queue := k.queue.map (·.countFrame) }

/-- A frame received in RUNNING is counted (R172): its samples reach the engine and the tuner, the
tempo generator counts it with all that falls due in it, the monitor's time returns to 0. -/
def State.countFrame (s : State) (f0 f1 : InFrame) : State :=
  let x := slotSample f0.tag 3 f0.slot3
  let ret := slotSample f1.tag 5 f1.slot5
  (State.tunerFrame
    { s with
      sen := { s.sen with gathered := s.sen.gathered ++ [(x, ret)] }
      opu := { s.opu with elapsed := 0 }
      lnk := s.lnk.countFrame } x).tempoFrame

/-- The primary converter has dropped in a frame (R173): the ready bit's LINK notice comes before that of
the state (entry 34) and still counts the accesses of the queue (entry 62). -/
def State.converterLost (s : State) : State :=
  (s.setPrimary false).departBy .syncing .converter .converterLost

/-- A frame received in RUNNING that shows the primary not ready: it is counted as every frame received in
RUNNING is, a block that it fills makes its boundary (R1, R172), and the link then departs (R173, entry 41). A
drop of the secondary in the same frame is handled first (entry 58). When the frame brings a power warning
too, which cause is taken first is open (entry 10). -/
def State.lossFrame (s : State) (f0 f1 : InFrame) : State :=
  let s1 := ((s.secondaryBit (readyBit f1.tag)).countFrame f0 f1).wholeBlock
  if s1.warns f0 then
    let s2 := { s1 with freeCtr := s1.freeCtr + 1 }
    (if Config.powerWarnFirst s1.freeCtr then (s2.auxInput f0).converterLost
      else (s2.converterLost).auxInput f0).storeEchoes f0 f1
  else ((s1.converterLost).auxInput f0).storeEchoes f0 f1

/-- A frame received in RUNNING (R172). A drop that it shows comes before the echo it brings, which
completes a read only at the end of the frame (entry 57). -/
def State.runningFrame (s : State) (f0 f1 : InFrame) : State :=
  if readyBit f0.tag then
    (((s.secondaryBit (readyBit f1.tag)).auxInput f0).storeEchoes f0 f1).countFrame f0 f1
  else s.lossFrame f0 f1

/-- A frame received, by link state (R171, R175). -/
def State.frameIn (s : State) (f0 f1 : InFrame) : State :=
  match s.lnk.state with
  | .syncing => s.syncingFrame f0 f1
  | .running => s.runningFrame f0 f1
  | .lost => (s.linkTo .syncing none).syncingFrame f0 f1
  | .off => s
  | .coldStart => s
  | .resting => s
  | .waking => s

/-- A frame received, after everything already due, with everything that falls due in it: the end of a
read (R183), the start of the engine (R5), the block boundary of a sixteenth frame (R1) (entry 2). -/
def State.frameReceived (f0 f1 : InFrame) (s : State) : State := (s.settle.frameIn f0 f1).settle

/-- FRAME_RECEIVED (R172). -/
def execFrameReceived (f0 f1 : InFrame) (s : State) : Host.Outcome State Fault Refusal :=
  .next (unlessReset (State.frameReceived f0 f1) s)

/-! ### Frames sent -/

/-- The command that a frame sends: the oldest access, when no read is SENT (R183). -/
def Lnk.command (k : Lnk) : Option Access := if k.readSent then none else k.queue.head?

/-- The command queue after a frame sent: a WRITE has left, a READ is SENT (R183). -/
def Lnk.afterCommand (k : Lnk) : Lnk :=
  match k.command with
  | none => k
  | some a =>
    if a.data.isSome then k.dropFirst
    else { k with queue := { a with sent := true, waited := 0, fresh := true } :: k.queue.drop 1 }

/-- Out slot 1 of a command: the index, and bit 7 for a read (section 9.1). -/
def commandWord (a : Access) : Word24 :=
  BitVec.ofNat 24 (a.index % 128) ||| tagBit 7 a.data.isNone

/-- Out slot 2 of a command: the data of a WRITE (section 9.1). -/
def commandData (a : Access) : Word24 := BitVec.ofNat 24 (a.data.getD 0 % 65536)

/-- The sample that leaves in a frame, before the gain, with its loop send: zero when no pass output is
at hand (R19). -/
def Sen.leaving (e : Sen) : Int × Int := e.outQueue.headD (0, 0)

/-- The output gain point before saturation (R19). -/
def gained (m : Int) (g : Nat) : Int := q12 (m * g)

/-- Whether the frame is muted: in MUTED, or with the ramp just come to 0 (R19, entry 21), or with the
engine not in RUN. -/
def State.muted (s : State) : Bool :=
  decide (s.opu.gainState = .muted) || decide (s.opu.gain = 0) || decide (s.sen.engine ≠ .run)

/-- The sample sent in slots 3 and 4 (R19). -/
def State.outSample (s : State) : Int :=
  if s.muted then 0 else sat (gained s.sen.leaving.1 s.opu.gain)

/-- The loop send sent in slot 5 (R19). -/
def State.outSend (s : State) : Int := if s.muted then 0 else s.sen.leaving.2

/-- Whether the output gain point saturates in this frame (R19). -/
def State.outSaturates (s : State) : Bool :=
  !s.muted && satHits (gained s.sen.leaving.1 s.opu.gain)

/-- The runaway count after a frame sent (R22). -/
def State.runawayAfter (s : State) : Nat :=
  if s.sen.engine = .run then (if 8388000 ≤ s.outSample.natAbs then s.sen.runaway + 1 else 0)
  else s.sen.runaway

/-- Slot 6 of a frame sent: the aux output word when it is valid, else zero (R185). -/
def State.auxSlot (s : State) : Word24 :=
  if s.lnk.auxValid then s.auxOut.setWidth 24 else 0

/-- The tag and slots that carry a command or not, with the audio slots valid or not (R172). -/
def State.composeFrame (s : State) (audio : Bool) (cmd : Option Access) (sample send : Int) :
    OutFrame :=
  { tag := tagBit 0 cmd.isSome ||| tagBit 1 cmd.isSome ||| tagBit 2 audio ||| tagBit 3 audio |||
      tagBit 4 audio ||| tagBit 5 s.lnk.auxValid |||
      tagBit 8 (cmd.any fun a => decide (a.target = .secondary)) ||| tagBit 23 true
    slot1 := (cmd.map commandWord).getD 0
    slot2 := (cmd.map commandData).getD 0
    slot3 := slotWord sample
    slot4 := slotWord sample
    slot5 := slotWord send
    slot6 := s.auxSlot
    slot7 := 0 }

/-- The gain advances for the frame (R153). -/
def State.gainFrame (s : State) : State := { s with opu := s.opu.advanceGain }

/-- A frame sent in RUNNING (R19, R22, R172, R183). Its aux output word is composed after its own sample
has passed the output gain point, so a saturation there lights the clip lamp in this frame (R21, R185,
entry 61). A final step held for the frame after a fault's entry is held no longer (R178). -/
def State.sendRunning (s : State) : State :=
  let sample := s.outSample
  let s1 := if s.outSaturates then s.setSummaryClip else s
  let frame := s1.composeFrame true s1.lnk.command sample s.outSend
  { s1 with
    sen := { s1.sen with outQueue := s1.sen.outQueue.drop 1, runaway := s.runawayAfter }
    lnk := { s1.lnk.afterCommand with lastOut := frame, restHeld := false } }

/-- A frame sent in SYNCING: frame valid, audio zero (R172). -/
def State.sendSyncing (s : State) : State :=
  { s with lnk := { s.lnk with lastOut := s.composeFrame false none 0 0 } }

/-- The bits of an outgoing tag that section 9.1 uses, but for the mark of slot 6. -/
def lostTagBits : Word24 := 0x80015F

/-- The frame of LOST, from the free words w: R172 composes none, so what section 9.1 lets the tag and slots
1 and 2 carry is free, and so is the aux output word of slot 6 in its bits 0 to 13; the slot 6 mark follows the
aux valid mark, and slot 6 is zero while that is clear (R185); the audio slots carry zero (R19), and so do
slot 7 and every unused bit (section 9.1) (entry 9). -/
def lostFrame (w : Nat → Word24) (auxValid : Bool) : OutFrame :=
  { tag := (w 0 &&& lostTagBits) ||| tagBit 5 auxValid
    slot1 := w 1 &&& 0xFF
    slot2 := w 2 &&& 0xFFFF
    slot3 := 0
    slot4 := 0
    slot5 := 0
    slot6 := if auxValid then w 6 &&& 0x3FFF else 0
    slot7 := 0 }

/-- A frame sent in LOST (R171). -/
def State.sendLost (s : State) : State :=
  { s with
    lnk := { s.lnk with lastOut := lostFrame (Config.lostWord s.freeCtr) s.lnk.auxValid }
    freeCtr := s.freeCtr + 1 }

/-- A frame sent, by link state (R171). -/
def State.frameOut (s : State) : State :=
  match s.lnk.state with
  | .running => s.gainFrame.sendRunning
  | .syncing => s.gainFrame.sendSyncing
  | .lost => s.gainFrame.sendLost
  | .off => s
  | .coldStart => s
  | .resting => s
  | .waking => s

/-- A frame sent, after everything already due, with everything that falls due in it: the end of a ramp
(R153), a runaway (R22), the final step of a rest (R178) (entry 2). -/
def State.frameSent (s : State) : State := s.settle.frameOut.settle

/-- FRAME_SENT (R172). -/
def execFrameSent (s : State) : Host.Outcome State Fault Refusal :=
  .next (unlessReset State.frameSent s)

end Sys2Proof.Machine
end

