-- ==== Sys2Proof/Machine/Receiver.lean ====
section
/-! DEFINITION. The receiver of a port (R189) and the queueing of a good frame (R191). -/

namespace Sys2Proof.Machine

/-- What the bytes after a sync byte amount to: a frame not yet whole, a bad frame, or a good frame with
its body and the bytes after it. -/
inductive Verdict where
  | unfinished (phase : RxPhase)
  | bad
  | good (body : List Byte) (rest : List RxByte)
  deriving DecidableEq, Repr

/-- A byte whose arrival makes its frame bad: a framing error, or more than 1 ms since the byte before
it (R189). -/
def RxByte.faulty (b : RxByte) : Bool := b.framingError || decide (1000 < b.gap)

/-- The sum of bytes. -/
def byteSum : List RxByte → Nat
  | [] => 0
  | b :: bs => b.value.toNat + byteSum bs

/-- The body length that the first two bytes give, low byte first. -/
def bodyLength (lo hi : RxByte) : Nat := lo.value.toNat + 256 * hi.value.toNat

/-- The receiver state for n bytes of a frame whose body is len bytes long. -/
def phaseFor (n len : Nat) : RxPhase := if n < len + 2 then .body else .check

/-- Judge a frame of a body length from all its bytes after the sync byte (R189). -/
def judgeLength (len : Nat) (bytes : List RxByte) : Verdict :=
  if len = 0 ∨ 600 < len then .bad
  else if (bytes.take (len + 3)).any (·.faulty) then .bad
  else if bytes.length < len + 3 then .unfinished (phaseFor bytes.length len)
  else if byteSum (bytes.take (len + 3)) % 256 = 0 then
    .good (((bytes.drop 2).take len).map (·.value)) (bytes.drop (len + 3))
  else .bad

/-- Judge the bytes after a sync byte (R189). -/
def judge (bytes : List RxByte) : Verdict :=
  match bytes with
  | [] => .unfinished .length
  | [b] => if b.faulty then .bad else .unfinished .length
  | lo :: hi :: _ =>
    if lo.faulty || hi.faulty then .bad else judgeLength (bodyLength lo hi) bytes

/-- A good frame is offered to the request queue (R191). -/
def PortState.accept (ps : PortState) (body : List Byte) : PortState :=
  if ps.requests.length < 4 then ps.setRequests (ps.requests ++ [body])
  else { ps with overrun := true }

/-- The receiver in HUNT. -/
def PortState.hunting (ps : PortState) : PortState :=
  { ps with rx := { phase := .hunt, buf := [], since := 0 } }

/-- The bytes after the first sync byte, 165, of a list. -/
def afterSync : List RxByte → Option (List RxByte)
  | [] => none
  | b :: bs => if b.value = 165#8 then some bs else afterSync bs

/-- Judge the bytes after a sync byte, and scan what follows a discarded or a good frame again (R189).
With `expired` set, more than 1 ms has passed since the last byte, so a frame not whole is bad.  The
fuel is the number of bytes. -/
def scan (expired : Bool) : Nat → PortState → List RxByte → PortState
  | 0, ps, _ => ps.hunting
  | fuel + 1, ps, bytes =>
    match judge bytes with
    | .unfinished phase =>
      if expired then
        match afterSync bytes with
        | some rest => scan expired fuel { ps with badFrame := true } rest
        | none => { ps with badFrame := true }.hunting
      else { ps with rx := { phase := phase, buf := bytes, since := 0 } }
    | .bad =>
      match afterSync bytes with
      | some rest => scan expired fuel { ps with badFrame := true } rest
      | none => { ps with badFrame := true }.hunting
    | .good body rest =>
      match afterSync rest with
      | some more => scan expired fuel (ps.accept body) more
      | none => (ps.accept body).hunting

/-- A byte arrives at a port's receiver (R189). -/
def PortState.receive (ps : PortState) (b : Byte) (framingError : Bool) : PortState :=
  if ps.rx.phase = .hunt then
    if b = 165#8 then { ps with rx := { phase := .length, buf := [], since := 0 } } else ps
  else
    let bytes := ps.rx.buf ++ [{ value := b, framingError := framingError, gap := ps.rx.since }]
    scan false (bytes.length + 1) ps bytes

/-- RX_BYTE (R189). -/
def execRxByte (p : Port) (b : Byte) (framingError : Bool) (s : State) :
    Host.Outcome State Fault Refusal :=
  .next (unlessReset (fun s => s.setPort p ((s.port p).receive b framingError)) s)

/-- More than 1 ms has passed within a frame: it is bad (R189). -/
def PortState.timeout (ps : PortState) : PortState :=
  scan true (ps.rx.buf.length + 1) ps ps.rx.buf

/-- The 1 ms within a frame runs out at a port (R189). -/
def State.rxTimeout (p : Port) (s : State) : State :=
  if (s.port p).rx.phase = .hunt then s
  else
    let s1 := s.elapse (1001 - (s.port p).rx.since)
    s1.setPort p (s1.port p).timeout

/-- RX_INTERBYTE_TIMEOUT (R189). -/
def execRxInterbyteTimeout (p : Port) (s : State) : Host.Outcome State Fault Refusal :=
  .next (unlessReset (State.rxTimeout p) s)

end Sys2Proof.Machine
end

