-- ==== Sys2Proof/Machine/Ports.lean ====
section
/-! DEFINITION. The port interface (chapter 10): requests that cannot be read, SUBSCRIBE, IDENTIFY,
RESTART, the transmit lines, the application of a restart and the power-on reset input. -/

namespace Sys2Proof.Machine

/-! ### A request that cannot be read (R192) -/

/-- What the request queue becomes when an unreadable body is taken (entry 5). -/
def afterTakeBad (body : List Byte) : List (List Byte) → Option (List (List Byte))
  | [] => some []
  | b :: rest => if b = body then some rest else none

/-- The take of a body that fails the checks of R192: its entry is filled with BAD_REQUEST. -/
def takeBad (p : Port) (body : List Byte) (s : State) : State :=
  if s.por || s.pif.restart.isSome then s
  else
    match readRequest body, afterTakeBad body (s.port p).requests, (s.port p).freeEntry with
    | .bad tag kind item, some rs, some e =>
      (s.setPort p ((s.port p).reserve e tag kind rs)).answer { port := p, entry := e }
        .badRequest (.badRequest kind item)
    | _, _, _ => s

/-- UNKNOWN_REQUEST_KIND (R192). -/
def execUnknownRequestKind (p : Port) (body : List Byte) (s : State) :
    Host.Outcome State Fault Refusal :=
  .next (takeBad p body s)

/-! ### SUBSCRIBE (R195) -/

/-- A port after a SUBSCRIBE: notices of classes not in the new set leave its queue (R195). -/
def PortState.subscribe (ps : PortState) (set : Word16) : PortState :=
  { ps with subs := set, notices := ps.notices.filter fun n => subscribed set n.cls }

/-- SUBSCRIBE at its owner (R195). -/
def ownSubscribe (r : SubscribeReq) (t : Ticket) (s : State) : State :=
  if 512 ≤ r.classes.toNat then s.answer t .invalid .none
  else
    let set : Word16 := r.classes.setWidth 16
    (s.setPort t.port ((s.port t.port).subscribe set)).answer t .done (.subscribed set)

/-- SUBSCRIBE (R195). -/
def execSubscribe (p : Port) (tag : Byte) (r : SubscribeReq) (s : State) :
    Host.Outcome State Fault Refusal :=
  .next (takeRequest p tag (.subscribe r) (ownSubscribe r) s)

/-! ### IDENTIFY (R198) -/

/-- How many entries of a reply queue are FREE. -/
def freeCount (es : List ReplyEntry) : Nat := (es.filter fun e => decide (e = .free)).length

/-- The fields of IDENTIFY (R198). -/
def State.identityReport (s : State) (p : Port) : IdentityReport :=
  { port := p, restartCount := s.pif.restartCount, lastStart := s.pif.lastStart
    queued := (s.port p).requests.length, free := freeCount (s.port p).replies }

/-- IDENTIFY at its owner (R198). -/
def ownIdentify (t : Ticket) (s : State) : State :=
  s.answer t .done (.identity (s.identityReport t.port))

/-- IDENTIFY (R198). -/
def execIdentify (p : Port) (tag : Byte) (s : State) : Host.Outcome State Fault Refusal :=
  .next (takeRequest p tag .identify ownIdentify s)

/-! ### RESTART (R199) -/

/-- RESTART at its owner (R199): the flag is set, the reply carries the count to come. -/
def ownRestart (t : Ticket) (s : State) : State :=
  let s1 := s.answer t .done (.restartCount (s.pif.restartCount + 1))
  { s1 with pif := { s1.pif with restart := some { ticket := t, sent := false } } }

/-- RESTART (R199). -/
def execRestart (p : Port) (tag : Byte) (s : State) : Host.Outcome State Fault Refusal :=
  .next (takeRequest p tag .restart ownRestart s)

/-! ### The transmit lines (R193, R194, R197) -/

/-- Begin to send the reply of an entry: the marks are written into it and cleared (R193). -/
def PortState.sendReply (ps : PortState) (entry : Nat) : PortState :=
  match ps.replies[entry]? with
  | some (.filled r) =>
    { ps with
      replies := ps.replies.set entry (.sending r)
      order := ps.order.erase entry
      tx := .reply entry ps.badFrame ps.overrun
      badFrame := false
      overrun := false }
  | _ => ps

/-- The entry whose reply a port's line sends next: the oldest filled one (R194); from the take of a
RESTART only its DONE reply, on its own port (R199, entry 22). -/
def Pif.nextReply (f : Pif) (p : Port) : Option Nat :=
  match f.restart with
  | none => (f.port p).order.head?
  | some w => if w.ticket.port = p ∧ w.sent = false then some w.ticket.entry else none

/-- An idle line begins a reply (R194). -/
def State.replySendStart (p : Port) (s : State) : State :=
  if (s.port p).tx = .idle then
    match s.pif.nextReply p with
    | some e => s.setPort p ((s.port p).sendReply e)
    | none => s
  else s

/-- REPLY_SEND_START (R194). -/
def execReplySendStart (p : Port) (s : State) : Host.Outcome State Fault Refusal :=
  .next (unlessReset (State.replySendStart p) s)

/-- Begin to send the oldest notice: the lost marker is written into it and cleared (R197). -/
def PortState.sendNotice (ps : PortState) : PortState :=
  match ps.notices with
  | [] => ps
  | n :: ns => { ps with notices := ns, tx := .notice n ps.lost, lost := false }

/-- An idle line with no reply filled begins a notice (R194); none begins from the take of a RESTART
(R199). -/
def State.noticeSendStart (p : Port) (s : State) : State :=
  if (s.port p).tx = .idle ∧ (s.port p).order = [] ∧ s.pif.restart = none then
    s.setPort p (s.port p).sendNotice
  else s

/-- NOTICE_SEND_START (R194). -/
def execNoticeSendStart (p : Port) (s : State) : Host.Outcome State Fault Refusal :=
  .next (unlessReset (State.noticeSendStart p) s)

/-- A port after the last byte of its message (R193). -/
def PortState.endMessage (ps : PortState) : PortState :=
  match ps.tx with
  | .idle => ps
  | .reply e _ _ => { ps with replies := ps.replies.set e .free, tx := .idle }
  | .notice _ _ => { ps with tx := .idle }

/-- Whether the message that a port is sending is the RESTART's reply. -/
def Pif.sendsRestart (f : Pif) (p : Port) : Bool :=
  match f.restart, (f.port p).tx with
  | some w, .reply e _ _ => decide (w.ticket.port = p) && decide (w.ticket.entry = e)
  | _, _ => false

/-- The last byte of a message has been sent (R193, R199). -/
def State.txMessageEnd (s : State) (p : Port) : State :=
  let sent := s.pif.sendsRestart p
  let s1 := s.setPort p (s.port p).endMessage
  { s1 with pif := { s1.pif with
    restart := s1.pif.restart.map fun w => { w with sent := w.sent || sent } } }

/-! ### The application of a restart (R199) -/

/-- The restart may be applied: its reply has been sent and every line is idle (R199). -/
def Pif.restartDue (f : Pif) : Bool :=
  f.restart.any (·.sent) && decide (f.port0.tx = .idle) && decide (f.port1.tx = .idle) &&
  decide (f.port2.tx = .idle)

/-- PIF after RESTART (R188). -/
def Pif.restarted (f : Pif) : Pif :=
  { Pif.powerOn with restartCount := f.restartCount + 1, lastStart := .restart }

/-- SCN after RESTART: the library and the scene options are kept (R72, R84, R115). -/
def Scn.restarted (c : Scn) : Scn :=
  { Scn.powerOn with library := c.library, safeIdx := c.safeIdx, defaultFade := c.defaultFade }

/-- OPU after RESTART: the failover flag is kept, and the last fault is the record held or the one kept
(R160, section 8.7). -/
def Opu.restarted (o : Opu) : Opu :=
  { Opu.powerOn with
    lastFault := if o.fault.isSome then o.fault else o.lastFault
    failover := o.failover }

/-- LNK after RESTART: OFF, and COLD_START at once (R174). -/
def Lnk.restarted (k : Lnk) : Lnk :=
  { Lnk.fresh with state := .coldStart, lastOut := k.lastOut }

/-- Every block takes its values after RESTART (R199). -/
def State.restarted (s : State) : State :=
  { s with
    pif := s.pif.restarted
    scn := s.scn.restarted
    sen := .fresh
    spl := { Spl.powerOn with mem := s.spl.mem }
    tgn := .fresh
    tun := .fresh
    opu := s.opu.restarted
    lnk := s.lnk.restarted }

/-- The restart is applied when it is due (R199). -/
def State.restartApply (s : State) : State := if s.pif.restartDue then s.restarted else s

/-- TX_MESSAGE_END (R193): with the last byte that a restart waits for, the restart is applied (R199). -/
def execTxMessageEnd (p : Port) (s : State) : Host.Outcome State Fault Refusal :=
  .next (unlessReset (fun s => (s.txMessageEnd p).restartApply) s)

/-- RESTART_APPLY (R199). -/
def execRestartApply (s : State) : Host.Outcome State Fault Refusal :=
  .next (unlessReset State.restartApply s)

/-! ### The power-on reset input (R200) -/

/-- A port while the power-on reset input is asserted: RDY is low (R200). -/
def PortState.held : PortState := { PortState.fresh with rdy := false }

/-- The part while the power-on reset input is asserted: its values after power-on, the link OFF (R174,
R200). -/
def State.powerOnAssert (s : State) : State :=
  { State.reset with
    pif := { Pif.powerOn with port0 := .held, port1 := .held, port2 := .held }
    lnk := .fresh
    por := true
    freeCtr := s.freeCtr
    pending := s.pending }

/-- POWER_ON_ASSERT (R200). -/
def execPowerOnAssert (s : State) : Host.Outcome State Fault Refusal := .next s.powerOnAssert

/-- The release of the power-on reset input (R200). -/
def State.powerOnRelease (s : State) : State :=
  if s.por then { State.reset with freeCtr := s.freeCtr, pending := s.pending } else s

/-- POWER_ON_RELEASE (R200). -/
def execPowerOnRelease (s : State) : Host.Outcome State Fault Refusal := .next s.powerOnRelease

end Sys2Proof.Machine
end

