-- ==== Sys2Proof/Machine/Dispatch.lean ====
section
/-! DEFINITION. The dispatch: one arm per command, each one call of its meaning. -/

namespace Sys2Proof.Machine

def exec (i : Instr) (s : State) : Host.Outcome State Fault Refusal :=
  match i with
  | .recall p tag r => Sys2Proof.Machine.execRecall p tag r s
  | .edit p tag r => Sys2Proof.Machine.execEdit p tag r s
  | .bypassStage p tag r => Sys2Proof.Machine.execBypassStage p tag r s
  | .store p tag r => Sys2Proof.Machine.execStore p tag r s
  | .writePreset p tag r => Sys2Proof.Machine.execWritePreset p tag r s
  | .readPreset p tag r => Sys2Proof.Machine.execReadPreset p tag r s
  | .erasePreset p tag r => Sys2Proof.Machine.execErasePreset p tag r s
  | .latch p tag r => Sys2Proof.Machine.execLatch p tag r s
  | .sceneRead p tag => Sys2Proof.Machine.execSceneRead p tag s
  | .setSceneOptions p tag r => Sys2Proof.Machine.execSetSceneOptions p tag r s
  | .writeCurve p tag r => Sys2Proof.Machine.execWriteCurve p tag r s
  | .writeImpulse p tag r => Sys2Proof.Machine.execWriteImpulse p tag r s
  | .meters p tag r => Sys2Proof.Machine.execMeters p tag r s
  | .setTails p tag r => Sys2Proof.Machine.execSetTails p tag r s
  | .tempoSource p tag r => Sys2Proof.Machine.execTempoSource p tag r s
  | .tempoSet p tag r => Sys2Proof.Machine.execTempoSet p tag r s
  | .tap p tag => Sys2Proof.Machine.execTap p tag s
  | .tempoRead p tag => Sys2Proof.Machine.execTempoRead p tag s
  | .tunerMode p tag r => Sys2Proof.Machine.execTunerMode p tag r s
  | .tunerSet p tag r => Sys2Proof.Machine.execTunerSet p tag r s
  | .tunerRead p tag r => Sys2Proof.Machine.execTunerRead p tag r s
  | .mute p tag r => Sys2Proof.Machine.execMute p tag r s
  | .resume p tag r => Sys2Proof.Machine.execResume p tag r s
  | .faultRead p tag => Sys2Proof.Machine.execFaultRead p tag s
  | .failoverRead p tag => Sys2Proof.Machine.execFailoverRead p tag s
  | .failoverClear p tag => Sys2Proof.Machine.execFailoverClear p tag s
  | .setProtection p tag r => Sys2Proof.Machine.execSetProtection p tag r s
  | .linkStart p tag => Sys2Proof.Machine.execLinkStart p tag s
  | .linkRest p tag => Sys2Proof.Machine.execLinkRest p tag s
  | .linkWake p tag => Sys2Proof.Machine.execLinkWake p tag s
  | .convRead p tag r => Sys2Proof.Machine.execConvRead p tag r s
  | .convWrite p tag r => Sys2Proof.Machine.execConvWrite p tag r s
  | .auxRead p tag => Sys2Proof.Machine.execAuxRead p tag s
  | .subscribe p tag r => Sys2Proof.Machine.execSubscribe p tag r s
  | .identify p tag => Sys2Proof.Machine.execIdentify p tag s
  | .restart p tag => Sys2Proof.Machine.execRestart p tag s
  | .unknownRequestKind p body => Sys2Proof.Machine.execUnknownRequestKind p body s
  | .restartApply => Sys2Proof.Machine.execRestartApply s
  | .powerOnAssert => Sys2Proof.Machine.execPowerOnAssert s
  | .powerOnRelease => Sys2Proof.Machine.execPowerOnRelease s
  | .rxByte p b framingError => Sys2Proof.Machine.execRxByte p b framingError s
  | .rxInterbyteTimeout p => Sys2Proof.Machine.execRxInterbyteTimeout p s
  | .replySendStart p => Sys2Proof.Machine.execReplySendStart p s
  | .noticeSendStart p => Sys2Proof.Machine.execNoticeSendStart p s
  | .txMessageEnd p => Sys2Proof.Machine.execTxMessageEnd p s
  | .frameReceived line0 line1 => Sys2Proof.Machine.execFrameReceived line0 line1 s
  | .frameSent => Sys2Proof.Machine.execFrameSent s
  | .blockBoundary => Sys2Proof.Machine.execBlockBoundary s
  | .passComplete => Sys2Proof.Machine.execPassComplete s
  | .tailDrainExpiry => Sys2Proof.Machine.execTailDrainExpiry s
  | .tailLifeExpiry => Sys2Proof.Machine.execTailLifeExpiry s
  | .grantAfterReclaim => Sys2Proof.Machine.execGrantAfterReclaim s
  | .startingComplete => Sys2Proof.Machine.execStartingComplete s
  | .engineAutoStart => Sys2Proof.Machine.execEngineAutoStart s
  | .endOfPrepare => Sys2Proof.Machine.execEndOfPrepare s
  | .commit => Sys2Proof.Machine.execCommit s
  | .gapInEnd => Sys2Proof.Machine.execGapInEnd s
  | .pendingRecallTake => Sys2Proof.Machine.execPendingRecallTake s
  | .beatCounterUnderflow => Sys2Proof.Machine.execBeatCounterUnderflow s
  | .beatLampOff => Sys2Proof.Machine.execBeatLampOff s
  | .tapTimeout => Sys2Proof.Machine.execTapTimeout s
  | .pulseEdge d => Sys2Proof.Machine.execPulseEdge d s
  | .pulseLost => Sys2Proof.Machine.execPulseLost s
  | .tunerTimeout => Sys2Proof.Machine.execTunerTimeout s
  | .runaway => Sys2Proof.Machine.execRunaway s
  | .gainReachesMuted => Sys2Proof.Machine.execGainReachesMuted s
  | .gainReachesOpen => Sys2Proof.Machine.execGainReachesOpen s
  | .relayTakesTarget => Sys2Proof.Machine.execRelayTakesTarget s
  | .relayHoldEnd => Sys2Proof.Machine.execRelayHoldEnd s
  | .linkRestFinalStep => Sys2Proof.Machine.execLinkRestFinalStep s
  | .frameLossExpiry => Sys2Proof.Machine.execFrameLossExpiry s
  | .coldStartExpiry => Sys2Proof.Machine.execColdStartExpiry s
  | .converterWake => Sys2Proof.Machine.execConverterWake s
  | .wakeDeferralExpiry => Sys2Proof.Machine.execWakeDeferralExpiry s
  | .wakingExpiry => Sys2Proof.Machine.execWakingExpiry s
  | .convReadCompletion => Sys2Proof.Machine.execConvReadCompletion s
  | .convReadTimeout => Sys2Proof.Machine.execConvReadTimeout s
  | .levelWriteJoin => Sys2Proof.Machine.execLevelWriteJoin s

end Sys2Proof.Machine
end

