-- ==== Sys2Proof/Machine/Idle.lean ====
section
/-! DEFINITION. What the part does by itself on an empty command queue (entry 3): one microsecond of
its oscillator, with everything that is due. -/

namespace Sys2Proof.Machine

/-- A port's line, when idle, begins the next message (R194). -/
def State.beginMessages (s : State) : State :=
  (s.replySendStart .p0).noticeSendStart .p0 |>.replySendStart .p1 |>.noticeSendStart .p1
    |>.replySendStart .p2 |>.noticeSendStart .p2

/-- Whether a request of a port can be taken (R192). -/
def State.canTake (s : State) (p : Port) : Bool :=
  s.pif.restart.isNone && !(s.port p).requests.isEmpty && (s.port p).freeEntry.isSome

/-- The ports whose oldest request can be taken. -/
def State.takers (s : State) : List Port := [Port.p0, Port.p1, Port.p2].filter s.canTake

/-- The command that takes the oldest request of a port. -/
def State.takeCommand (s : State) (p : Port) : Option Instr :=
  match (s.port p).requests with
  | [] => none
  | body :: _ =>
    match readRequest body with
    | .request tag q => some (q.toInstr p tag)
    | .bad _ _ _ => some (.unknownRequestKind p body)

/-- Run a command on a state, for what the part does by itself. -/
def State.runs (s : State) (i : Option Instr) : State :=
  match i with
  | none => s
  | some i =>
    match exec i s with
    | .next s' => s'
    | .fault _ => s
    | .refused _ => s

/-- Take one waiting request; which port's, when several wait, is open (R192, entry 3). -/
def State.takeWaiting (s : State) : State :=
  match s.takers with
  | [] => s
  | [p] => s.runs (s.takeCommand p)
  | ps =>
    State.runs { s with freeCtr := s.freeCtr + 1 }
      (s.takeCommand (ps.getD (Config.portChoice s.freeCtr % ps.length) .p0))

/-- The expiries of the link and of the monitor whose time has come. -/
def State.linkExpiries (s : State) : State :=
  match s.lnk.state with
  | .coldStart => if 1000 ≤ s.lnk.time then s.coldStartExpiry else s
  | .resting => if 100 ≤ s.lnk.time then s.wakeDeferralExpiry else s
  | .waking => if 2 ≤ s.lnk.time then s.wakingExpiry else s
  | .running => if limitTime s.opu.limit ≤ s.opu.elapsed then s.frameLossExpiry else s
  | .off => s
  | .syncing => s
  | .lost => s

/-- The interbyte timeout of a port when its time has come (R189). -/
def State.rxExpiry (p : Port) (s : State) : State :=
  if 1000 < (s.port p).rx.since then s.rxTimeout p else s

/-- One microsecond of the part by itself. -/
def State.idle (s : State) : State :=
  if s.por then s
  else
    (((s.settle.finishPass.beginMessages.restartApply.takeWaiting.elapse 1).linkExpiries.rxExpiry
      .p0).rxExpiry .p1).rxExpiry .p2

end Sys2Proof.Machine
end

