-- ==== Sys2Proof/Machine/Wire.lean ====
section
/-! DEFINITION. The messages that leave a port, byte by byte (section 10.2, R190, R193, R197): the
field items of replies and notices in the order of the owning rules (entry 16), and the message on a
line. -/

namespace Sys2Proof.Machine

/-! ### Values (R190) -/

/-- The fewest bytes of two's complement that hold an integer; one beyond 32 bits takes 4, modulo
2^32 (entry 15). -/
def bytesNeeded (v : Int) : Nat :=
  if -128 ≤ v ∧ v ≤ 127 then 1
  else if -32768 ≤ v ∧ v ≤ 32767 then 2
  else if -8388608 ≤ v ∧ v ≤ 8388607 then 3
  else 4

/-- An integer's value: at least the bytes it needs, at most 4; how many within that is open
(entry 15). -/
def intValue (v : Int) : List Byte :=
  intBytes (max (bytesNeeded v) (min 4 (Config.integerBytes v))) v

/-- A natural number's value. -/
def natValue (n : Nat) : List Byte := intValue n

/-- The values of one field: none when it is absent, one, or one for each record of a list. -/
abbrev FieldValues := List (List Byte)

/-- A field that is present. -/
def one (v : List Byte) : FieldValues := [v]

/-- A number. -/
def num (n : Nat) : FieldValues := [natValue n]

/-- An optional number. -/
def optNum (n : Option Nat) : FieldValues := n.toList.map natValue

/-- A yes-or-no field; lamps, marks and flags of two values are sent as one too, 1 for on, set or ready
(entry 60). -/
def flag (b : Bool) : FieldValues := [flagBytes b]

/-- The field items of a sequence, numbered from id; an absent field leaves its number unused. -/
def itemsFrom (id : Nat) : List FieldValues → List Byte
  | [] => []
  | vs :: rest => vs.flatMap (itemBytes id) ++ itemsFrom (id + 1) rest

/-- A record, or the items of a message, numbered from 1. -/
def items (fields : List FieldValues) : List Byte := itemsFrom 1 fields

/-- A set of named values as an unsigned integer, bit i for the i-th name. -/
def setValue : List Bool → Nat
  | [] => 0
  | b :: bs => (if b then 1 else 0) + 2 * setValue bs

/-- The fewest bytes that hold an unsigned integer, at most 4. -/
def unsignedNeeded (n : Nat) : Nat :=
  if n < 256 then 1 else if n < 65536 then 2 else if n < 16777216 then 3 else 4

/-- An unsigned integer's value: how many bytes from those it needs to 4 is open (entry 15). -/
def unsignedValue (n : Nat) : List Byte :=
  leBytes (max (unsignedNeeded n) (min 4 (Config.integerBytes n))) n

/-- A set's value, an unsigned integer (R190). -/
def setBytes (bs : List Bool) : FieldValues := [unsignedValue (setValue bs)]

/-! ### Codes of the named values: their places in the owning rules -/

/-- The code of a status (R193). -/
def Status.code : Status → Nat
  | .done => 0
  | .clamped => 1
  | .degraded => 2
  | .posted => 3
  | .busy => 4
  | .badRequest => 5
  | .invalid => 6
  | .empty => 7
  | .stale => 8
  | .stageAbsent => 9
  | .superseded => 10
  | .aborted => 11
  | .stopped => 12
  | .wrongState => 13
  | .notReady => 14
  | .timeout => 15
  | .overBudget => 16
  | .overMemory => 17
  | .notSeen => 18

/-- Engine states (section 1.2). -/
def EngineState.code : EngineState → Nat
  | .stopped => 0
  | .starting => 1
  | .run => 2
  | .fault => 3

/-- Switch phases (R88). -/
def SwitchPhase.code : SwitchPhase → Nat
  | .steady => 0
  | .prepare => 1
  | .fade => 2
  | .gapOut => 3
  | .gapIn => 4

/-- Switch kinds (R88). -/
def SwitchKind.code : SwitchKind → Nat
  | .faded => 0
  | .gapped => 1
  | .immediate => 2
  | .cut => 3

/-- Tempo sources (R116). -/
def TempoSource.code : TempoSource → Nat
  | .internal => 0
  | .tap => 1
  | .pulse => 2

/-- Pulse states (R116). -/
def PulseState.code : PulseState → Nat
  | .waiting => 0
  | .following => 1
  | .holding => 2

/-- Pulse edges (R116). -/
def PulseEdge.code : PulseEdge → Nat
  | .rising => 0
  | .falling => 1
  | .both => 2

/-- Beat causes (R119). -/
def BeatCause.code : BeatCause → Nat
  | .counter => 0
  | .restart => 1
  | .tap => 2
  | .pulse => 3
  | .hold => 4

/-- Writers of the period register (R132). -/
def TempoWriter.code : TempoWriter → Nat
  | .tempoSet => 0
  | .tap => 1
  | .pulse => 2
  | .preset => 3

/-- Tap outcomes (R123). -/
def TapOutcome.code : TapOutcome → Nat
  | .first => 0
  | .restarted => 1
  | .valid => 2

/-- Tuner modes (R134). -/
def TunerMode.code : TunerMode → Nat
  | .off => 0
  | .monitor => 1
  | .silent => 2

/-- Tuner states (R134). -/
def TunerState.code : TunerState → Nat
  | .noSignal => 0
  | .locked => 1
  | .outOfRange => 2

/-- Tuner events (R147). -/
def TunerEvent.code : TunerEvent → Nat
  | .reading => 0
  | .timeout => 1
  | .mode => 2
  | .link => 3

/-- Gain states (R153). -/
def GainState.code : GainState → Nat
  | .opened => 0
  | .rampDown => 1
  | .muted => 2
  | .rampUp => 3

/-- Fault causes (R156). -/
def Cause.code : Cause → Nat
  | .frameLoss => 0
  | .runaway => 1
  | .powerWarn => 2
  | .converterLost => 3

/-- Causes of an ABORTED recall or RESUME: the fault causes, and after them the link (R114, R115, R162;
entry 16). -/
def AbortCause.code : AbortCause → Nat
  | .fault c => c.code
  | .link => 4

/-- Causes of an ABORTED CONV-READ (R183). -/
def ReadEnd.code : ReadEnd → Nat
  | .link => 0
  | .converter => 1

/-- Causes of an ABORTED LINK-REST (R179). -/
def RestEnd.code : RestEnd → Nat
  | .wake => 0
  | .start => 1
  | .link => 2

/-- Monitor modes (R163). -/
def MonMode.code : MonMode → Nat
  | .off => 0
  | .report => 1
  | .failover => 2

/-- Relay positions (section 8.6). -/
def Relay.code : Relay → Nat
  | .engaged => 0
  | .bypass => 1

/-- Relay policies (R164). -/
def Policy.code : Policy → Nat
  | .bypass => 0
  | .hold => 1

/-- RESUME modes (R161). -/
def ResumeMode.code : ResumeMode → Nat
  | .scene => 0
  | .safe => 1
  | .bypass => 2

/-- Link states (R171). -/
def LinkState.code : LinkState → Nat
  | .off => 0
  | .coldStart => 1
  | .syncing => 2
  | .running => 3
  | .lost => 4
  | .resting => 5
  | .waking => 6

/-- Converters (R182). -/
def Target.code : Target → Nat
  | .primary => 0
  | .secondary => 1

/-- Causes of a departure (R180). -/
def Departure.code : Departure → Nat
  | .monitor => 0
  | .converter => 1
  | .start => 2
  | .rest => 3
  | .wake => 4

/-- Last start kinds (R188). -/
def StartKind.code : StartKind → Nat
  | .powerOn => 0
  | .restart => 1

/-- Degraded causes (R97). -/
def DegradedCause.code : DegradedCause → Nat
  | .curve => 0
  | .impulse => 1
  | .reach => 2
  | .loopOpen => 3

/-- Reasons of an INVALID preset (R75). -/
def PresetReason.code : PresetReason → Nat
  | .slot => 0
  | .name => 1
  | .stageCount => 2
  | .kind => 3
  | .paramCount => 4
  | .spill => 5
  | .sync => 6
  | .type => 7
  | .loopCount => 8

/-- Tail states (R62). -/
def TailState.code : TailState → Nat
  | .running => 0
  | .cutting => 1

/-- Events of a SCENE notice (R90). -/
def SceneEvent.code : SceneEvent → Nat
  | .take => 0
  | .commit => 1
  | .gapInEnd => 2
  | .abandoned => 3
  | .store => 4
  | .dirty => 5
  | .resumeSafe => 6

/-- Events of a FAULT notice (R159). -/
def FaultEvent.code : FaultEvent → Nat
  | .entered => 0
  | .added => 1
  | .resumed => 2

/-- Events of a LINK notice (R180). Each ready bit has an event of its own, four codes in all
(entry 71). -/
def LinkEvent.code : LinkEvent → Nat
  | .state => 0
  | .primaryReady => 1
  | .secondaryReady => 2
  | .auxValid => 3

/-! ### Records -/

/-- A stage entry in the fixed layout of section 10.2. -/
def StageEntry.bytes (e : StageEntry) : List Byte :=
  entryBytes
    { kind := e.kind.code, enabled := e.enabled, spill := if e.spill = .hold then 1 else 0
      sync := e.sync, params := e.params }

/-- A preset record (R73). -/
def Preset.bytes (r : Preset) : List Byte :=
  items [one r.name, r.chain.map (·.bytes), optNum r.tempo, optNum r.fade, num r.level]

/-- A status record: SAT_IN, DEGRADED and LOOP_OPEN only for the kinds that have them (R20). -/
def StatusRec.bytes (r : StatusRec) (k : StageKind) : List Byte :=
  items
    [num r.peak, flag r.clip, if k = .drive then flag r.satIn else [], flag r.silent
    , if k = .delay ∨ k = .drive ∨ k = .cab then flag r.degraded else []
    , if k = .loop then flag r.loopOpen else []]

/-- A stage of METERS (R23). -/
def MeterEntry.bytes (m : MeterEntry) : List Byte :=
  items [one (m.status.bytes m.kind), num m.index, num m.kind.code]

/-- A degraded stage (R97). -/
def Degraded.bytes (d : Degraded) : List Byte := items [num d.index, num d.cause.code]

/-- A clamped value of WRITE-PRESET (R77): entry index and parameter id, or a field name. -/
def ClampMark.bytes : ClampMark → List Byte
  | .param n id => items [num n, num id]
  | .tempo => items [[], [], num 0]
  | .fade => items [[], [], num 1]
  | .level => items [[], [], num 2]

/-- A tail entry as SET-TAILS lists it (R70). -/
def TailReport.bytes (t : TailReport) : List Byte :=
  items
    [num t.kind.code, num t.state.code, num t.cost, num t.segments, num t.drain, num t.life
    , num t.originGen.toNat, num t.originIdx]

/-- A cause set (R157). -/
def CauseSet.value (c : CauseSet) : FieldValues :=
  setBytes [c.frameLoss, c.runaway, c.powerWarn, c.converterLost]

/-- A fault record (R157). -/
def FaultRecord.bytes (r : FaultRecord) : List Byte :=
  items
    [num r.first.code, r.causes.value, num r.blockCount.toNat, num r.generation.toNat
    , num r.phase.code]

/-- An optional fault record. -/
def optFault (r : Option FaultRecord) : FieldValues := r.toList.map (·.bytes)

/-- The mute reason set (R152). -/
def MuteSet.value (m : MuteSet) : FieldValues :=
  setBytes
    [m.stopped, m.starting, m.tunerSilent, m.switchGap, m.relayMove, m.standby, m.masterMute
    , m.fault]

/-- A relay move: the target position, the phase, WAITING or HOLDING, and the hold count, 0 in WAITING
(R167, entry 16). The target that waits behind it is no part of the record. -/
def RelayMove.bytes (m : RelayMove) : List Byte :=
  items [num m.target.code, num (if m.hold.isSome then 1 else 0), num (m.hold.getD 0)]

/-- A tuner reading (R134). -/
def Reading.bytes (r : Reading) : List Byte :=
  items
    [num r.mean, num r.reference, num (if r.note.isSome then 0 else 1), optNum (r.note.map (·.note))
    , optNum (r.note.map (·.name)), optNum (r.note.map (·.octave))
    , r.note.toList.map fun n => intValue n.cents]

/-- The tap series of TEMPO-READ (R133), 3 bytes for each interval (entry 55). -/
def tapSeries (stamp : Option Word32) (taps : List Nat) : List Byte :=
  items [optNum (stamp.map (·.toNat)), one (taps.flatMap fun i => leBytes 3 i)]

/-! ### Replies -/

/-- The items of SCENE-READ (R89). -/
def SceneReport.items (r : SceneReport) : List Byte :=
  Machine.items
    [one r.live.bytes, num r.cost, num r.demand, num r.generation.toNat, flag r.dirty
    , optNum r.origin, num r.phase.code, optNum (r.switch.map (·.slot))
    , optNum (r.switch.map (·.fade)), optNum (r.switch.map (·.kind.code))
    , optNum (r.switch.map (·.blocksLeft)), flag r.pending.isSome
    , optNum (r.pending.map (·.num)), num r.latch.toNat, num r.frontGeneration.toNat]

/-- The items of TEMPO-READ (R133); the beat lamp is a yes-or-no byte, 1 for on (entry 60). -/
def TempoReport.items (r : TempoReport) : List Byte :=
  Machine.items
    [num r.source.code, optNum (r.pulse.map (·.code)), num r.edge.code, num r.n, num r.pulseCount
    , num r.period, num r.inForce, num r.counter, num r.age, num r.beatCount.toNat, flag r.lamp
    , one (tapSeries r.tapStamp r.taps), num r.frameCount.toNat]

/-- The items of TUNER-READ (R149); no reading held is an item left out (entry 56). -/
def TunerReport.items (r : TunerReport) : List Byte :=
  Machine.items
    [num r.mode.code, num r.state.code, num r.reference, num r.k, num r.floor
    , r.reading.toList.map (·.bytes), num r.readingCount.toNat, num r.seriesLen
    , num r.sinceReading, flag r.flat, flag r.inTune, flag r.sharp, optNum r.entry]

/-- The items of FAULT-READ (R160); no last fault held is an item left out (entry 56), and the elapsed
time is in microseconds (entry 66). -/
def FaultReport.items (r : FaultReport) : List Byte :=
  Machine.items
    [num (if r.fault.isSome then 1 else 0), optFault r.fault, optFault r.lastFault, r.reasons.value
    , num r.gain, num r.gainState.code, num r.relay.code, r.move.toList.map (·.bytes)
    , num r.policy.code, num r.monMode.code, num r.limit, num r.elapsed, flag r.failover]

/-- The text of IDENTIFY (R198): Hovrin, Nampora, HN76R. -/
def vendorName : List Byte := [72, 111, 118, 114, 105, 110]

/-- The family name. -/
def familyName : List Byte := [78, 97, 109, 112, 111, 114, 97]

/-- The part designation. -/
def partName : List Byte := [72, 78, 55, 54, 82]

/-- The items of IDENTIFY (R198). -/
def IdentityReport.items (r : IdentityReport) : List Byte :=
  Machine.items
    [one vendorName, one familyName, one partName, num 1, num r.port.num, num r.restartCount.toNat
    , num r.lastStart.code, num r.queued, num r.free]

/-- The field items of a reply (R190, R193), numbered as entry 65 says. ERASE-PRESET's field is yes or no,
1 for a slot that held a record (R80, entry 51); LINK-WAKE's deferred mark is always sent, as a yes-or-no
item (entry 73); BAD_REQUEST carries the kind as field 1 beside the header's kind byte, so that the item at
fault is field 2 (entry 81); a recall's EMPTY always carries the preset chosen, 0 for A (entry 77). -/
def Fields.items : Fields → List Byte
  | .none => []
  | .badRequest kind item => Machine.items [num kind, optNum item]
  | .presetInvalid reason entry => Machine.items [num reason.code, optNum entry]
  | .stale g => Machine.items [num g.toNat]
  | .edited g n id v => Machine.items [num g.toNat, num n, num id, one (intValue v)]
  | .bypassed g n b => Machine.items [num g.toNat, num n, flag b]
  | .recallDone slot name g kind fade ds =>
    Machine.items
      [num slot, one name, num g.toNat, num kind.code, num fade, ds.map (·.bytes)]
  | .recallEmpty slot b => Machine.items [num slot, num (if b then 1 else 0)]
  | .superseded g port => Machine.items [optNum (g.map (·.toNat)), num port.num]
  | .recallAborted g c => Machine.items [optNum (g.map (·.toNat)), num c.code]
  | .stored slot name cost demand => Machine.items [num slot, one name, num cost, num demand]
  | .presetWritten slot cost demand ms =>
    Machine.items [ms.map (·.bytes), num slot, num cost, num demand]
  | .overBudget cost => Machine.items [num cost]
  | .overMemory demand => Machine.items [num demand]
  | .presetRead rec_ cost demand => Machine.items [one rec_.bytes, num cost, num demand]
  | .erased held => Machine.items [flag held]
  | .latched w => Machine.items [num w.toNat]
  | .scene r => r.items
  | .sceneOptions safe fade => Machine.items [num safe, num fade]
  | .meters r =>
    Machine.items
      [num r.engine.code, flag r.bypassHold, num r.blockCount.toNat, num r.load
      , flag r.summaryClip, num r.frontGeneration.toNat, r.records.map (·.bytes)]
  | .tails drain life ts => Machine.items [num drain, num life, ts.map (·.bytes)]
  | .tempoSource src pulse edge n =>
    Machine.items [num src.code, optNum (pulse.map (·.code)), num edge.code, num n]
  | .tempoSet period inForce src => Machine.items [num period, num inForce, num src.code]
  | .tapped o i count period => Machine.items [num o.code, optNum i, num count, num period]
  | .tempo r => r.items
  | .tunerMode m st => Machine.items [num m.code, num st.code]
  | .tunerSettings r k f => Machine.items [num r, num k, num f]
  | .tuner r => r.items
  | .muted reasons g gs => Machine.items [reasons.value, num g, num gs.code]
  | .notReady link conv power => Machine.items [setBytes [link, conv, power]]
  | .resumed mode g safe ds =>
    Machine.items
      [ds.map (·.bytes), num mode.code, num g.toNat
      , optNum (safe.map fun b => if b then 0 else 1)]
  | .resumeEnded c => Machine.items [num c.code]
  | .readEnded c => Machine.items [num c.code]
  | .restEnded c => Machine.items [num c.code]
  | .fault r => r.items
  | .failoverFlag b => Machine.items [flag b]
  | .protection m l p => Machine.items [num m.code, num l, num p.code]
  | .linkBefore st => Machine.items [num st.code]
  | .wake deferred => Machine.items [flag deferred]
  | .converter data index target frames =>
    Machine.items [num data.toNat, num index, num target.code, num frames]
  | .posted ahead => Machine.items [num ahead]
  | .aux r =>
    Machine.items
      [num r.auxIn.toNat, flag r.primary, flag r.secondary, num r.link.code, num r.auxOut.toNat
      , flag r.auxValid]
  | .subscribed w => Machine.items [one (unsignedValue w.toNat)]
  | .identity r => r.items
  | .restartCount c => Machine.items [num c.toNat]

/-! ### Notices -/

/-- The field items of a notice (R190, R195). No reading held is an item left out (R147, entry 56); the
two phases that R90 adds to a SCENE notice share one field (entry 63); whether a rest and whether a wake is
pending are two fields of a LINK notice (R180, entry 64); every TEMPO notice carries the clamped mark, 0
where no interval was clamped (entry 78); the rest of the numbering is entry 65's. -/
def Notice.items : Notice → List Byte
  | .scene n =>
    Machine.items
      [num n.event.code, num n.generation.toNat, num n.phase.code, optNum n.origin, flag n.dirty
      , one n.name, optNum (n.port.map (·.num)), optNum n.slot, optNum (n.kind.map (·.code))
      , optNum (n.phaseThen.map (·.code))]
  | .tuner n =>
    Machine.items
      [num n.mode.code, num n.state.code, num n.count.toNat, n.reading.toList.map (·.bytes)
      , num n.event.code]
  | .beat n =>
    Machine.items
      [num n.count.toNat, num n.inForce, num n.cause.code, num n.source.code
      , optNum (n.pulse.map (·.code))]
  | .tempo n =>
    Machine.items
      [setBytes [n.write.isSome, n.sourceTaken, n.pulseChanged], num n.source.code
      , optNum (n.pulse.map (·.code)), num n.edge.code, num n.n, num n.period, num n.inForce
      , optNum (n.write.map (·.code)), optNum (n.port.map (·.num)), flag n.clamped]
  | .meter n =>
    Machine.items
      [flag n.summaryClip, num n.load, num n.generation.toNat
      , one (n.stages.flatMap fun i => leBytes 2 i)]
  | .fault n =>
    Machine.items
      [num n.event.code, optNum (n.cause.map (·.code)), optNum (n.mode.map (·.code))
      , optNum (n.port.map (·.num)), optFault n.record, num n.relay.code, flag n.failover]
  | .link n =>
    Machine.items
      [num n.event.code, num n.before.code, num n.after.code, optNum (n.cause.map (·.code))
      , flag n.primary, flag n.secondary, flag n.auxValid, flag n.restPending
      , flag n.wakePending, num n.queued]
  | .aux new old changed => Machine.items [num new.toNat, num old.toNat, num changed.toNat]
  | .latch w p => Machine.items [num w.toNat, num p.num]

/-! ### Messages (section 10.2) -/

/-- The sum of a list of bytes. -/
def sumBytes : List Byte → Nat
  | [] => 0
  | b :: bs => b.toNat + sumBytes bs

/-- A message: sync byte, body length low byte first, body, and the check byte that makes the sum of the
length bytes, the body and itself 0 modulo 256. -/
def message (sync : Byte) (body : List Byte) : List Byte :=
  let framed := leBytes 2 body.length ++ body
  sync :: framed ++ [BitVec.ofNat 8 (256 - sumBytes framed % 256)]

/-- The port marks byte (section 10.2). -/
def marksByte (badFrame overrun : Bool) : Byte :=
  BitVec.ofNat 8 ((if badFrame then 1 else 0) + (if overrun then 2 else 0))

/-- The body of a reply message. -/
def Reply.body (r : Reply) (badFrame overrun : Bool) : List Byte :=
  r.tag :: BitVec.ofNat 8 r.kind :: BitVec.ofNat 8 r.status.code :: marksByte badFrame overrun ::
    r.fields.items

/-- The body of a notice message. -/
def Notice.body (n : Notice) (lost : Bool) : List Byte :=
  BitVec.ofNat 8 n.cls.code :: (if lost then 1#8 else 0#8) :: n.items

/-- The message that a port's line is sending; empty when it is idle (TX is then held high). -/
def PortState.txMessage (ps : PortState) : List Byte :=
  match ps.tx with
  | .idle => []
  | .reply e badFrame overrun =>
    match ps.replies[e]? with
    | some (.sending r) => message 166 (r.body badFrame overrun)
    | _ => []
  | .notice n lost => message 167 (n.body lost)

/-- A request message as a master sends it (section 10.2). -/
def requestMessage (tag : Byte) (q : Request) : List Byte := message 165 (writeRequest tag q)

end Sys2Proof.Machine
end

