-- ==== Sys2Proof/Safety.lean ====
section
/-! DEFINITION. What claims are stated in: the take of a request and its reply as one change of a port,
running several commands, and the invariants of the part. -/

namespace Sys2Proof.Machine

/-! ### Commands in a row -/

/-- Run commands one after another, stopping at the first that does not answer a next state. -/
def runAll : List Instr → State → Host.Outcome State Fault Refusal
  | [], s => .next s
  | c :: cs, s =>
    match exec c s with
    | .next t => runAll cs t
    | .fault r => .fault r
    | .refused r => .refused r

/-- The events that a frame brings with it, each of which acts when it is due, in the order of entry 2. -/
def dueCommands : List Instr :=
  [.convReadCompletion, .convReadTimeout, .levelWriteJoin, .engineAutoStart, .runaway,
    .blockBoundary, .tunerTimeout, .relayHoldEnd, .startingComplete, .grantAfterReclaim,
    .endOfPrepare, .commit, .gapInEnd, .pendingRecallTake, .gainReachesMuted, .gainReachesOpen,
    .relayTakesTarget, .linkRestFinalStep]

/-! ### Taking a request (R192, R193) -/

/-- The oldest request of port p reads as q under the tag, entry e of the port's reply queue is the
FREE one it takes, and neither a reset nor a restart holds requests back. -/
abbrev Takes (s : State) (p : Port) (tag : Byte) (q : Request) (e : Nat) : Prop :=
  s.por = false ∧ s.pif.restart = none ∧
  (s.port p).requests.head?.map readRequest = some (.request tag q) ∧
  (s.port p).freeEntry = some e

/-- The oldest request of a port has left its queue and a reply entry has a new content. -/
def PortState.takenInto (ps : PortState) (e : Nat) (entry : ReplyEntry) : PortState :=
  { ps with
    requests := ps.requests.drop 1
    rdy := decide (ps.requests.length < 5)
    replies := ps.replies.set e entry }

/-- The state in which a request has been taken and its reply is still due: nothing else changed. -/
def State.taken (s : State) (p : Port) (tag : Byte) (kind e : Nat) : State :=
  s.setPort p ((s.port p).takenInto e (.reserved tag kind))

/-- The state in which a request has been taken and answered: nothing else changed. -/
def State.replied (s : State) (p : Port) (tag : Byte) (kind e : Nat) (st : Status) (f : Fields) :
    State :=
  s.setPort p { (s.port p).takenInto e
      (.filled { tag := tag, kind := kind, status := st, fields := f }) with
    order := (s.port p).order ++ [e] }

/-- The port interface with every notice queue and lost marker set aside. -/
def Pif.quiet (f : Pif) : Pif :=
  { f with
    port0 := { f.port0 with notices := [], lost := false }
    port1 := { f.port1 with notices := [], lost := false }
    port2 := { f.port2 with notices := [], lost := false } }

/-! ### What a pass leaves -/

/-- The stage record after a pass, from the report of the pass (R20). -/
def recordAfter (r : StatusRec) (rep : StageReport) : StatusRec :=
  { r with
    peak := max r.peak rep.peak
    clip := r.clip || rep.clip
    satIn := r.satIn || rep.satIn
    silent := rep.silent
    loopOpen := rep.loopOpen }

/-- The wet samples that a delay line gives for a list of inputs (R42). -/
def delayWets (segs : List Nat) (reach time : Nat) (fb : Int) : DelayRun → List Int → List Int
  | _, [] => []
  | r, x :: xs =>
    let o := delayCore segs reach time fb r x
    o.2.1 :: delayWets segs reach time fb o.1 xs

/-! ### What a beat leaves -/

/-- A stage after a beat of b frames: a synced one holds b (R58, R119). -/
def StageInst.atBeat (b : Nat) (i : StageInst) : StageInst :=
  if i.sync = none then i else { i with beat := b }

/-- The part after a beat of b frames, given what became of the ports and of the tempo generator:
otherwise only the beat periods of the two contexts' synced stages have changed (R119). -/
def State.afterBeat (s : State) (f : Pif) (g : Tgn) (b : Nat) : State :=
  { s with
    pif := f
    tgn := g
    sen := { s.sen with
      front := { s.sen.front with stages := s.sen.front.stages.map (·.atBeat b) }
      back := { s.sen.back with stages := s.sen.back.stages.map (·.atBeat b) } } }

/-! ### The ports (R188, R191, R193 to R196) -/

/-- Whether an entry of a reply queue is filled. -/
def ReplyEntry.isFilled : ReplyEntry → Bool
  | .filled _ => true
  | _ => false

/-- Whether an entry of a reply queue is being sent. -/
def ReplyEntry.isSending : ReplyEntry → Bool
  | .sending _ => true
  | _ => false

/-- The entry that a line is sending, when it sends a reply. -/
def TxLine.entry : TxLine → Option Nat
  | .reply e _ _ => some e
  | _ => none

/-- A notice queue holds at most 16 notices, at most one of each latest-only class, each of a class
subscribed to (R195, R196). -/
def PortState.noticesOk (ps : PortState) : Bool :=
  decide (ps.notices.length ≤ 16) &&
  ps.notices.all (fun n => subscribed ps.subs n.cls) &&
  decide (((ps.notices.map Notice.cls).filter NoticeClass.latestOnly).Nodup)

/-- A reply queue has eight entries; the send order lists each filled entry once, and the entry being
sent is the one the line sends (R188, R193, R194). -/
def PortState.repliesOk (ps : PortState) : Bool :=
  decide (ps.replies.length = 8) && decide ps.order.Nodup &&
  ps.order.all (fun i => (ps.replies[i]?).any (·.isFilled)) &&
  (List.range 8).all (fun i =>
    (!(ps.replies[i]?).any (·.isFilled) || ps.order.contains i) &&
    (decide (ps.tx.entry = some i) == (ps.replies[i]?).any (·.isSending))) &&
  ps.tx.entry.all (fun i => decide (i < 8))

/-- A port within its bounds: at most 4 requests queued, RDY high while fewer are and the reset input is
not asserted (R188, R191, R200), its replies and its notices as above. -/
def PortState.ok (por : Bool) (ps : PortState) : Bool :=
  decide (ps.requests.length ≤ 4) && (ps.rdy == (!por && decide (ps.requests.length < 4))) &&
  ps.repliesOk && ps.noticesOk

/-- Every port is within its bounds. -/
def State.portsOk (s : State) : Bool :=
  s.pif.port0.ok s.por && s.pif.port1.ok s.por && s.pif.port2.ok s.por

/-! ### The segment pool (R52, R54, R57, R71) -/

/-- Every segment of the pool, wherever it is held. -/
def State.heldSegs (s : State) : List Nat :=
  s.spl.free ++ s.sen.front.segs ++ s.sen.back.segs ++ tailSegs s.spl.tails

/-- Each of the 48 segments is in exactly one place: the free list, a context or a tail (R52, R57). -/
def State.segsConserved (s : State) : Bool :=
  decide (s.heldSegs.Perm (List.range 48)) && decide (s.spl.free.Pairwise (· < ·))

/-- Where no segment may be held: an engine without passes holds none in its contexts, a back context
none outside a switch, and a grant waits only in PREPARE with nothing granted yet. -/
def State.segsPlaced (s : State) : Bool :=
  (s.opu.fault.isNone || decide (s.sen.engine = .fault)) &&
  (decide (s.sen.engine = .run) || decide (s.sen.engine = .starting) ||
    s.sen.front.segs.isEmpty) &&
  (decide (s.sen.engine = .run) ||
    (s.sen.back.segs.isEmpty && s.spl.grant.isNone && s.scn.pendingRecall.isNone)) &&
  ((s.scn.switch.isSome && decide (s.scn.phase ≠ .gapIn)) || s.sen.back.segs.isEmpty) &&
  (s.spl.grant.isNone ||
    (s.sen.back.granted.isEmpty && decide (s.scn.phase = .prepare) &&
      s.scn.switch.any (fun r => !r.commitDue)))

/-- The pool and the delay memory are sound. -/
def State.poolOk (s : State) : Bool :=
  s.segsConserved && s.segsPlaced && Memory.wf s.spl.mem

/-! ### Output protection and the switch (R152, R153, R157, R167, R168) -/

/-- The output gain is a multiple of 128 from 0 to 4,096 that agrees with the gain state, and the gain
state agrees with the reason set (R153). -/
def Opu.gainOk (o : Opu) : Bool :=
  decide (o.gain ≤ 4096) && decide (o.gain % 128 = 0) &&
  (match o.gainState with
   | .opened => o.reasons.isEmpty && decide (o.gain = 4096)
   | .rampUp => o.reasons.isEmpty
   | .rampDown => !o.reasons.isEmpty
   | .muted => !o.reasons.isEmpty && decide (o.gain = 0))

/-- A relay move agrees with the relay: a waiting move has another target, a held one has reached its
target and counts from 4 (R167, R168). -/
def Opu.moveOk (o : Opu) : Bool :=
  match o.move with
  | none => true
  | some m =>
    match m.hold with
    | none => decide (m.target ≠ o.relay) && m.next.isNone
    | some k => decide (m.target = o.relay) && decide (k ≤ 4)

/-- STANDBY by link state: with a rest pending in RUNNING, throughout RESTING and WAKING, never in OFF,
COLD_START or LOST (R175, R178, R179). -/
def State.standbyOk (s : State) : Bool :=
  match s.lnk.state with
  | .running => s.opu.reasons.standby == s.lnk.restPending.isSome
  | .resting => s.opu.reasons.standby && s.lnk.restPending.isNone
  | .waking => s.opu.reasons.standby && s.lnk.restPending.isNone
  | .syncing => s.lnk.restPending.isNone
  | .off => !s.opu.reasons.standby && s.lnk.restPending.isNone
  | .coldStart => !s.opu.reasons.standby && s.lnk.restPending.isNone
  | .lost => !s.opu.reasons.standby && s.lnk.restPending.isNone

/-- The reasons that follow another block's state (R4, R6, R145, R157, R168), and the fault record held
exactly while the engine is FAULT. -/
def State.reasonsOk (s : State) : Bool :=
  (s.opu.reasons.stopped == decide (s.sen.engine = .stopped)) &&
  (s.opu.reasons.starting == decide (s.sen.engine = .starting)) &&
  (s.opu.reasons.fault == decide (s.sen.engine = .fault)) &&
  (s.opu.fault.isSome == decide (s.sen.engine = .fault)) &&
  (s.opu.reasons.tunerSilent == decide (s.tun.mode = .silent)) &&
  (s.opu.reasons.relayMove == s.opu.move.isSome) && s.standbyOk

/-- A switch record is held exactly outside STEADY, its kind fits the phase, only a faded or gapped
switch has a fade, and only such a switch has a budget block (R88, R94, R100, R113). -/
def Scn.switchOk (c : Scn) : Bool :=
  match c.switch with
  | none => decide (c.phase = .steady)
  | some r =>
    (match c.phase with
     | .steady => false
     | .prepare => decide (r.kind ≠ .gapped)
     | .fade => decide (r.kind = .faded)
     | .gapOut => decide (r.kind = .gapped)
     | .gapIn => decide (r.kind = .gapped)) &&
    (r.zeroFade == decide (r.fade = 0)) && !(r.budget && r.zeroFade)

/-- SWITCH_GAP stands only in GAP_OUT and GAP_IN, and has left before GAP_IN ends (R108, R114). -/
def State.gapOk (s : State) : Bool :=
  !s.opu.reasons.switchGap || decide (s.scn.phase = .gapOut) ||
  (decide (s.scn.phase = .gapIn) && s.scn.switch.any fun r => decide (r.blocksLeft ≠ 0))

/-- A final step is held for a frame only while its rest is pending (R178). -/
def Lnk.restOk (k : Lnk) : Bool := !k.restHeld || k.restPending.isSome

/-- The protection unit agrees with itself and with the blocks it serves; a switch and a pending recall
exist only in RUN. -/
def State.protectionOk (s : State) : Bool :=
  s.opu.gainOk && s.opu.moveOk && s.reasonsOk && s.scn.switchOk && s.gapOk && s.lnk.restOk &&
  (decide (s.sen.engine = .run) ||
    (s.scn.switch.isNone && s.scn.pendingRecall.isNone && s.spl.grant.isNone))

/-! ### Ranges (R24, R73, R74, R116, R134, R182 and others) -/

/-- A value lies in a range. -/
def within (lo hi v : Nat) : Bool := decide (lo ≤ v) && decide (v ≤ hi)

/-- A stage entry as the library may hold it (R24, R73). -/
def StageEntry.ok (e : StageEntry) : Bool :=
  decide (e.params.length = e.kind.paramCount) &&
  (List.range e.params.length).all (fun id => paramOk e.kind id (e.params.getD id 0)) &&
  (decide (e.spill = .cut) || e.kind.mayHold) && syncAllowed e.kind e.sync

/-- A record as the library may hold it (R73, R74). -/
def Preset.ok (r : Preset) : Bool :=
  nameOk r.name && within 1 10 r.chain.length && r.chain.all (·.ok) &&
  decide ((r.chain.filter fun e => decide (e.kind = .loop)).length ≤ 1) &&
  decide (chainCost r.chain ≤ 1200) && decide (chainDemand r.chain ≤ 24) &&
  r.tempo.all (within 12000 144000) && r.fade.all (within 0 255) && within 0 65535 r.level

/-- The scene controller's records and settings (R72, R73, R84, R93). -/
def Scn.ok (c : Scn) : Bool :=
  decide (c.library.length = 128) && c.library.all (fun r => r.all (·.ok)) && c.live.ok &&
  decide (c.safeIdx < 128) && within 0 255 c.defaultFade &&
  c.switch.all (fun r => r.tempo.all (within 12000 144000) && decide (r.fade ≤ 255)) &&
  c.pendingRecall.all fun q => recallInRange q.req

/-- The tempo generator's registers (R116 to R127). -/
def Tgn.ok (t : Tgn) : Bool :=
  within 12000 144000 t.period && within 12000 144000 t.inForce && decide (t.counter ≤ t.inForce) &&
  decide (t.taps.length ≤ 4) && t.taps.all (within 12000 144000) &&
  (decide (t.source = .tap) || (t.taps.isEmpty && t.tapStamp.isNone)) &&
  within 1 96 t.n && decide (t.pulseCount < t.n) && decide (t.age ≤ 288000) &&
  (t.pulse.isSome == decide (t.source = .pulse))

/-- The tuner's registers (R134 to R150). -/
def Tun.ok (t : Tun) : Bool :=
  within 4000 4800 t.reference && (decide (t.k = 4) || decide (t.k = 8) || decide (t.k = 16)) &&
  within 64 1048576 t.floor && decide (t.timebase < 65536) && decide (t.timebase % 64 = 0) &&
  decide (t.wraps ≤ 3) && decide (t.series.length < t.k) && t.series.all (within 1536 131072) &&
  decide (t.sinceReading ≤ 300) && decide (t.table = noteTable t.reference) &&
  (!t.returned || t.prevSample.isNone)

/-- The converter command queue: at most 4 accesses, of which only the oldest may be a SENT read, and no
SENT read has waited more than 8 frames (R182, R183). -/
def Lnk.queueOk (k : Lnk) : Bool :=
  decide (k.queue.length ≤ 4) && (k.queue.drop 1).all (fun a => !a.sent) &&
  k.queue.all fun a => (!a.sent || (a.data.isNone && decide (a.waited ≤ 8))) && decide (a.index < 128)

/-- Every register is within the range its rule gives, and no whole block is left uncounted (R1). -/
def State.rangesOk (s : State) : Bool :=
  s.scn.ok && s.tgn.ok && s.tun.ok && s.lnk.queueOk &&
  within 1 255 s.spl.drainSetting && within 1 60 s.spl.lifeSetting &&
  decide (s.opu.limit ≤ 7) && decide (s.sen.runaway ≤ 2048) &&
  decide (s.sen.gathered.length ≤ 15)

end Sys2Proof.Machine
end

