-- ==== Sys2Proof/WellFormed.lean ====
section
/-! DEFINITION. Well-formed commands: every operand of a request is one that a request's body can carry
(section 10.2, R190), and a body that cannot be read fails a check of R192. -/

namespace Sys2Proof

/-- An integer that 4 bytes of two's complement carry (R190). -/
def intFits (v : Int) : Bool := decide (-2147483648 ≤ v) && decide (v ≤ 2147483647)

/-- An optional integer that 4 bytes carry. -/
def optFits (v : Option Int) : Bool := v.all intFits

/-- Text that a value carries. -/
def textFits (n : List Byte) : Bool := decide (n.length < 65536)

/-- A list of 16-bit numbers that a value carries. -/
def pointsFit (vs : List Int) : Bool :=
  vs.all (fun v => decide (-32768 ≤ v) && decide (v ≤ 32767)) && decide (2 * vs.length < 65536)

/-- A parameter value that 3 bytes carry. -/
def paramFits (v : Int) : Bool := decide (-8388608 ≤ v) && decide (v ≤ 8388607)

/-- A stage entry that the fixed layout of section 10.2 carries. -/
def EntryReq.fits (e : EntryReq) : Bool :=
  decide (e.kind < 256) && decide (e.spill < 256) && e.sync.all (fun c => decide (c < 255)) &&
  e.params.all paramFits && decide (4 + 3 * e.params.length < 65536)

/-- A condition that the fields of RECALL carry. -/
def RecallCond.fits (c : RecallCond) : Bool :=
  intFits c.bit && intFits c.polarity && intFits c.presetB

/-- A request that its body can carry. -/
def Request.fits : Request → Bool
  | .recall r => intFits r.presetA && r.cond.all (·.fits) && optFits r.fade
  | .edit r => intFits r.stage && intFits r.param && intFits r.value && optFits r.expected
  | .bypassStage r => intFits r.stage && optFits r.expected
  | .store r => intFits r.slot && r.name.all textFits
  | .writePreset r =>
    intFits r.slot && textFits r.name && !r.entries.isEmpty && r.entries.all (·.fits) &&
    optFits r.tempo && optFits r.fade && intFits r.level
  | .readPreset r => intFits r.slot
  | .erasePreset r => intFits r.slot
  | .latch _ => true
  | .sceneRead => true
  | .setSceneOptions r => optFits r.safe && optFits r.fade
  | .writeCurve r => intFits r.slot && pointsFit r.points
  | .writeImpulse r => intFits r.slot && pointsFit r.taps
  | .meters _ => true
  | .setTails r => optFits r.drain && optFits r.life
  | .tempoSource r => intFits r.source && optFits r.edge && optFits r.n
  | .tempoSet r => intFits r.period
  | .tap => true
  | .tempoRead => true
  | .tunerMode r => intFits r.mode
  | .tunerSet r => optFits r.reference && optFits r.k && optFits r.floor
  | .tunerRead r => optFits r.note
  | .mute r => intFits r.value
  | .resume r => intFits r.mode
  | .faultRead => true
  | .failoverRead => true
  | .failoverClear => true
  | .setProtection r => optFits r.mode && optFits r.limit && optFits r.policy
  | .linkStart => true
  | .linkRest => true
  | .linkWake => true
  | .convRead r => intFits r.target && intFits r.index
  | .convWrite r => intFits r.target && intFits r.index && intFits r.data
  | .auxRead => true
  | .subscribe _ => true
  | .identify => true
  | .restart => true

/-- A body that fails a check of R192. -/
def unreadable (body : List Byte) : Bool :=
  match readRequest body with
  | .request _ _ => false
  | .bad _ _ _ => true

/-- A well-formed command. -/
def WellFormed : Instr → Bool
  | .recall _ _ r => (Request.recall r).fits
  | .edit _ _ r => (Request.edit r).fits
  | .bypassStage _ _ r => (Request.bypassStage r).fits
  | .store _ _ r => (Request.store r).fits
  | .writePreset _ _ r => (Request.writePreset r).fits
  | .readPreset _ _ r => (Request.readPreset r).fits
  | .erasePreset _ _ r => (Request.erasePreset r).fits
  | .latch _ _ _ => true
  | .sceneRead _ _ => true
  | .setSceneOptions _ _ r => (Request.setSceneOptions r).fits
  | .writeCurve _ _ r => (Request.writeCurve r).fits
  | .writeImpulse _ _ r => (Request.writeImpulse r).fits
  | .meters _ _ _ => true
  | .setTails _ _ r => (Request.setTails r).fits
  | .tempoSource _ _ r => (Request.tempoSource r).fits
  | .tempoSet _ _ r => (Request.tempoSet r).fits
  | .tap _ _ => true
  | .tempoRead _ _ => true
  | .tunerMode _ _ r => (Request.tunerMode r).fits
  | .tunerSet _ _ r => (Request.tunerSet r).fits
  | .tunerRead _ _ r => (Request.tunerRead r).fits
  | .mute _ _ r => (Request.mute r).fits
  | .resume _ _ r => (Request.resume r).fits
  | .faultRead _ _ => true
  | .failoverRead _ _ => true
  | .failoverClear _ _ => true
  | .setProtection _ _ r => (Request.setProtection r).fits
  | .linkStart _ _ => true
  | .linkRest _ _ => true
  | .linkWake _ _ => true
  | .convRead _ _ r => (Request.convRead r).fits
  | .convWrite _ _ r => (Request.convWrite r).fits
  | .auxRead _ _ => true
  | .subscribe _ _ _ => true
  | .identify _ _ => true
  | .restart _ _ => true
  | .unknownRequestKind _ body => unreadable body
  | .restartApply => true
  | .powerOnAssert => true
  | .powerOnRelease => true
  | .rxByte _ _ _ => true
  | .rxInterbyteTimeout _ => true
  | .replySendStart _ => true
  | .noticeSendStart _ => true
  | .txMessageEnd _ => true
  | .frameReceived _ _ => true
  | .frameSent => true
  | .blockBoundary => true
  | .passComplete => true
  | .tailDrainExpiry => true
  | .tailLifeExpiry => true
  | .grantAfterReclaim => true
  | .startingComplete => true
  | .engineAutoStart => true
  | .endOfPrepare => true
  | .commit => true
  | .gapInEnd => true
  | .pendingRecallTake => true
  | .beatCounterUnderflow => true
  | .beatLampOff => true
  | .tapTimeout => true
  | .pulseEdge _ => true
  | .pulseLost => true
  | .tunerTimeout => true
  | .runaway => true
  | .gainReachesMuted => true
  | .gainReachesOpen => true
  | .relayTakesTarget => true
  | .relayHoldEnd => true
  | .linkRestFinalStep => true
  | .frameLossExpiry => true
  | .coldStartExpiry => true
  | .converterWake => true
  | .wakeDeferralExpiry => true
  | .wakingExpiry => true
  | .convReadCompletion => true
  | .convReadTimeout => true
  | .levelWriteJoin => true

end Sys2Proof
end

