-- ==== Sys2Proof/Certificates/Slice0/Obligations.lean ====
section
/-! DEFINITION. The statements for the provers.  A request is taken (`Takes`) when it is the oldest of its
port and a reply entry is FREE; `State.replied` and `State.taken` are the state with that request gone
from its queue and its reply filled or still due, and nothing else changed. -/

open Sys2Proof Sys2Proof.Machine

/-! ### The step, the reset input and the ports -/

/-- A step with a command at the front of the queue is that command on the state with the queue's
rest. -/
def Obligations.StepRunsFrontCommand : Prop :=
  ∀ (c : Instr) (s : State), step { s with pending := c :: s.pending } = exec c s

/-- No command stops the part, and none touches the queue of commands (entry 1). -/
def Obligations.EveryCommandAnswersNextState : Prop :=
  ∀ (c : Instr) (s : State), ∃ t, exec c s = .next t ∧ t.pending = s.pending

/-- R200: while the power-on reset input is asserted, bytes on RX are ignored and nothing is sent; no
command but the two of the input itself has an effect (the extension to the other commands is the
model's, entry 1). -/
def Obligations.ResetInputHoldsThePart : Prop :=
  ∀ (c : Instr) (s : State), s.por = true → c ≠ .powerOnAssert → c ≠ .powerOnRelease →
    exec c s = .next s

/-- R200 and the reset columns of the blocks' own rules: the assertion takes RDY low on every port and
holds the link OFF; the release leaves every block at its value after power-on, which is the state after
reset (the values that the spec does not give are entry 7's). -/
def Obligations.PowerOnLeavesTheSpecValues : Prop :=
  (∀ s : State, ∃ t, exec .powerOnAssert s = .next t ∧ t.por = true ∧ t.lnk.state = .off ∧
    t.pif.port0.rdy = false ∧ t.pif.port1.rdy = false ∧ t.pif.port2.rdy = false ∧
    t.opu.relay = .bypass ∧ t.pending = s.pending) ∧
  (∀ s : State, s.por = true → ∃ t, exec .powerOnRelease s = .next t ∧ t.por = false ∧
    t = { State.reset with freeCtr := s.freeCtr, pending := s.pending } ∧
    (∀ p : Port, (t.port p).rx.phase = .hunt ∧ (t.port p).requests = [] ∧
      (t.port p).replies = List.replicate 8 .free ∧ (t.port p).notices = [] ∧
      (t.port p).subs = 0 ∧ (t.port p).badFrame = false ∧ (t.port p).overrun = false ∧
      (t.port p).lost = false ∧ (t.port p).rdy = true) ∧
    t.pif.restartCount = 0 ∧ t.pif.lastStart = .powerOn ∧ t.pif.restart = none ∧
    t.sen.engine = .stopped ∧ t.sen.bypassHold = false ∧ t.sen.blockCount = 0 ∧
    t.sen.front.state = .empty ∧ t.sen.back.state = .empty ∧ t.sen.summaryClip = false ∧
    t.sen.load = 0 ∧ t.sen.lastLoad = 0 ∧ t.sen.runaway = 0 ∧ t.sen.pass = none ∧
    t.sen.gathered = [] ∧
    t.spl.free = List.range 48 ∧ t.spl.tails = [] ∧ t.spl.grant = none ∧ t.spl.drainSetting = 48 ∧
    t.spl.lifeSetting = 20 ∧
    (∀ n, 1 ≤ n → t.lib.curve n = none ∧ t.lib.impulse n = none) ∧
    t.lib.curve 0 = some curveZero ∧ t.lib.impulse 0 = some impulseZero ∧
    t.scn.generation = 0 ∧ t.scn.dirty = false ∧ t.scn.origin = none ∧ t.scn.phase = .steady ∧
    t.scn.switch = none ∧ t.scn.pendingRecall = none ∧
    t.scn.latch = 0 ∧ t.scn.library = List.replicate 128 none ∧ t.scn.live = cleanScene ∧
    t.scn.safeIdx = 0 ∧ t.scn.defaultFade = 16 ∧
    t.tgn.source = .internal ∧ t.tgn.period = 24000 ∧ t.tgn.counter = 24000 ∧
    t.tgn.inForce = 24000 ∧ t.tgn.beatCount = 0 ∧ t.tgn.frameCount = 0 ∧ t.tgn.n = 24 ∧
    t.tgn.edge = .rising ∧ t.tgn.pulse = none ∧ t.tgn.pulseCount = 0 ∧ t.tgn.pulseStamp = none ∧
    t.tgn.tapStamp = none ∧ t.tgn.taps = [] ∧ t.tgn.age = 0 ∧ t.tgn.lamp = false ∧
    t.tun.mode = .off ∧ t.tun.reference = 4400 ∧ t.tun.k = 8 ∧ t.tun.floor = 2048 ∧
    t.tun.timebase = 0 ∧ t.tun.wraps = 0 ∧ t.tun.prevSample = none ∧ t.tun.armed = false ∧
    t.tun.prevCapture = none ∧ t.tun.series = [] ∧ t.tun.blockPeak = 0 ∧
    t.tun.sinceReading = 0 ∧ t.tun.table = noteTable 4400 ∧ t.tun.state = .noSignal ∧
    t.tun.reading = none ∧ t.tun.readingCount = 0 ∧
    t.opu.reasons = .initial ∧ t.opu.gain = 0 ∧ t.opu.gainState = .muted ∧ t.opu.fault = none ∧
    t.opu.lastFault = none ∧ t.opu.failover = false ∧ t.opu.monMode = .off ∧ t.opu.limit = 4 ∧
    t.opu.elapsed = 0 ∧ t.opu.resume = none ∧
    t.opu.seen0 = false ∧ t.opu.seen1 = false ∧ t.opu.seen2 = false ∧
    t.opu.relay = .bypass ∧ t.opu.move = none ∧ t.opu.policy = .bypass ∧
    t.lnk.state = .coldStart ∧ t.lnk.time = 0 ∧ t.lnk.queue = [] ∧ t.lnk.levelPending = none ∧
    t.lnk.restPending = none ∧ t.lnk.restHeld = false ∧ t.lnk.wakePending = false ∧ t.lnk.primary = false ∧
    t.lnk.secondary = false ∧ t.lnk.auxValid = false ∧ t.lnk.auxIn = 0)

/-- R190, section 10.2: the body that a request is written as reads back as that request under its tag,
with every field at every value a body can carry. A WRITE-PRESET carries at least one stage entry item: a
list of records without an item is an absent field (entry 13).  RECALL's toggle-after flag is written and
read as a yes-or-no field (entry 74). -/
def Obligations.RequestBodyRoundTrip : Prop :=
  ∀ (tag : Byte) (q : Request), q.fits = true → readRequest (writeRequest tag q) = .request tag q

/-- R189, R191: the bytes of a message with a body of 1 to 600 bytes, received one after another by a
port in HUNT without a framing error and with no other command between them, are a good frame: its body joins the end of the request queue, or, when 4 requests are
queued, the overrun mark is set and the queue stays. -/
def Obligations.GoodMessageIsQueuedOrOverruns : Prop :=
  ∀ (s : State) (p : Port) (body : List Byte),
    s.por = false → (s.port p).rx.phase = .hunt → 1 ≤ body.length → body.length ≤ 600 →
    runAll ((message 165 body).map fun b => .rxByte p b false) s =
      .next (s.setPort p
        (if (s.port p).requests.length < 4 then
          { s.port p with
            requests := (s.port p).requests ++ [body]
            rdy := decide ((s.port p).requests.length < 3)
            rx := { phase := .hunt, buf := [], since := 0 } }
         else
          { s.port p with
            overrun := true
            rx := { phase := .hunt, buf := [], since := 0 } }))

/-- R199: RESTART is answered DONE with the restart count to come, and from its take no request is taken
on any port, no line but the requester's begins a reply and no line a notice; the requester's line, when
idle, begins that DONE reply before any other reply that waits (entry 22). -/
def Obligations.RestartIsAnsweredAndHoldsThePorts : Prop :=
  (∀ (s : State) (p : Port) (tag : Byte) (e : Nat), Takes s p tag .restart e →
    exec (.restart p tag) s =
      .next (let t := s.replied p tag 36 e .done (.restartCount (s.pif.restartCount + 1))
             { t with pif := { t.pif with
                 restart := some { ticket := { port := p, entry := e }, sent := false } } })) ∧
  (∀ (s : State) (w : RestartWait), s.pif.restart = some w →
    (∀ (p : Port) (tag : Byte) (q : Request), exec (q.toInstr p tag) s = .next s) ∧
    (∀ (p : Port) (body : List Byte), exec (.unknownRequestKind p body) s = .next s) ∧
    (∀ p : Port, p ≠ w.ticket.port → exec (.replySendStart p) s = .next s) ∧
    (∀ p : Port, exec (.noticeSendStart p) s = .next s)) ∧
  (∀ (s : State) (p : Port) (e : Nat) (r : Reply), s.por = false →
    s.pif.restart = some { ticket := { port := p, entry := e }, sent := false } →
    (s.port p).tx = .idle → (s.port p).replies[e]? = some (.filled r) →
    exec (.replySendStart p) s = .next (s.setPort p { s.port p with
      replies := (s.port p).replies.set e (.sending r)
      order := (s.port p).order.erase e
      tx := .reply e (s.port p).badFrame (s.port p).overrun
      badFrame := false
      overrun := false }))

/-- R199 with R72, R84, R115, R160, R165 and R174: when the DONE reply has been sent and every line is
idle, the restart is applied; the library, the scene options, the shape library, the failover flag and
the last fault are kept, everything else takes its value after RESTART; what the spec does not name here,
the contents of the segments and the frame last sent, is kept too (entry 45). -/
def Obligations.RestartApplied : Prop :=
  (∀ (s : State) (w : RestartWait), s.por = false → s.pif.restart = some w → w.sent = true →
    s.pif.port0.tx = .idle → s.pif.port1.tx = .idle → s.pif.port2.tx = .idle →
    ∃ t, exec .restartApply s = .next t ∧
      t = { s with
        pif := { Pif.powerOn with
          restartCount := s.pif.restartCount + 1, lastStart := .restart }
        scn := { Scn.powerOn with
          library := s.scn.library, safeIdx := s.scn.safeIdx, defaultFade := s.scn.defaultFade }
        sen := Sen.fresh
        spl := { Spl.powerOn with mem := s.spl.mem }
        tgn := Tgn.fresh
        tun := Tun.fresh
        opu := { Opu.powerOn with
          failover := s.opu.failover
          lastFault := match s.opu.fault with
            | some r => some r
            | none => s.opu.lastFault }
        lnk := { Lnk.fresh with state := .coldStart, lastOut := s.lnk.lastOut } } ∧
      t.scn.dirty = false ∧ t.scn.origin = none ∧ t.scn.phase = .steady ∧
      t.spl.drainSetting = 48 ∧ t.spl.lifeSetting = 20 ∧
      t.opu.monMode = .off ∧ t.opu.limit = 4 ∧ t.opu.elapsed = 0 ∧ t.opu.policy = .bypass ∧
      t.opu.resume = none ∧
      t.lnk.primary = false ∧ t.lnk.secondary = false ∧ t.lnk.auxValid = false ∧
      t.lnk.auxIn = 0 ∧ t.lnk.restPending = none ∧ t.lnk.wakePending = false ∧
      t.lnk.levelPending = none ∧ t.lnk.time = 0 ∧
      (∀ p : Port, t.port p = PortState.fresh) ∧
      t.pif.restartCount = s.pif.restartCount + 1 ∧ t.pif.lastStart = .restart ∧
      t.pif.restart = none ∧
      t.scn.library = s.scn.library ∧ t.scn.safeIdx = s.scn.safeIdx ∧
      t.scn.defaultFade = s.scn.defaultFade ∧ t.scn.live = cleanScene ∧ t.scn.generation = 0 ∧
      t.scn.latch = 0 ∧ t.scn.switch = none ∧ t.scn.pendingRecall = none ∧ t.lib = s.lib ∧
      t.sen = Sen.fresh ∧ t.spl.free = List.range 48 ∧ t.spl.tails = [] ∧ t.spl.grant = none ∧
      t.tgn = Tgn.fresh ∧ t.tun = Tun.fresh ∧
      t.opu.reasons = .initial ∧ t.opu.gain = 0 ∧ t.opu.gainState = .muted ∧
      t.opu.fault = none ∧
      t.opu.lastFault = (match s.opu.fault with
        | some r => some r
        | none => s.opu.lastFault) ∧
      t.opu.failover = s.opu.failover ∧
      (t.opu.seen0 || t.opu.seen1 || t.opu.seen2) = false ∧ t.opu.relay = .bypass ∧
      t.opu.move = none ∧ t.lnk.state = .coldStart ∧ t.lnk.queue = [] ∧
      t.por = false ∧ t.pending = s.pending) ∧
  (∀ (s : State) (w : RestartWait), s.pif.restart = some w →
    (w.sent = false ∨ ∃ p : Port, (s.port p).tx ≠ .idle) → exec .restartApply s = .next s)

/-- R192: the take of a body that fails a check fills the reserved entry with BAD_REQUEST, the kind as
received and the item at fault; a body too short for a kind, and one whose kind the catalogue lacks,
fail the first two checks. -/
def Obligations.UnreadableRequestIsAnsweredBadRequest : Prop :=
  (∀ (s : State) (p : Port) (b : List Byte) (rest : List (List Byte)) (tag : Byte) (kind : Nat)
      (item : Option Nat) (e : Nat),
    s.por = false → s.pif.restart = none → (s.port p).requests = b :: rest →
    (s.port p).freeEntry = some e → readRequest b = .bad tag kind item →
    exec (.unknownRequestKind p b) s =
      .next (s.replied p tag kind e .badRequest (.badRequest kind item))) ∧
  (∀ tag : Byte, readRequest [tag] = .bad tag 0 none) ∧
  (∀ (tag k : Byte) (rest : List Byte), k.toNat = 0 ∨ 36 < k.toNat →
    readRequest (tag :: k :: rest) = .bad tag k.toNat none) ∧
  (∀ (tag k : Byte) (id : Byte), 1 ≤ k.toNat → k.toNat ≤ 36 →
    readRequest [tag, k, id] = .bad tag k.toNat (some id.toNat))

/-- R189: when more than 1 ms has passed within a frame, the frame is bad: the bad-frame mark is set and
the receiver returns to HUNT; with no sync byte among the bytes received since, nothing else of the
port changes.  In HUNT the time is not counted.  That the rest of the 1 ms passes for every clock of the
part, in whole microseconds, is the model's (entry 4). -/
def Obligations.InterbyteTimeoutDiscardsTheFrame : Prop :=
  (∀ (s : State) (p : Port) (ph : RxPhase), s.por = false → (s.port p).rx.phase ≠ .hunt →
    judge (s.port p).rx.buf = .unfinished ph →
    ∃ t, exec (.rxInterbyteTimeout p) s = .next t ∧ (t.port p).rx.phase = .hunt ∧
      (t.port p).badFrame = true ∧
      ((∀ b ∈ (s.port p).rx.buf, b.value ≠ 165#8) →
        t = (let u := s.elapse (1001 - (s.port p).rx.since)
             u.setPort p { s.port p with
               badFrame := true, rx := { phase := .hunt, buf := [], since := 0 } }))) ∧
  (∀ (s : State) (p : Port), (s.port p).rx.phase = .hunt →
    exec (.rxInterbyteTimeout p) s = .next s)

/-- R193, R194, R197: an idle line begins the oldest filled reply, writing and clearing the two marks; a
notice only when no reply is filled, writing and clearing the lost marker; a message ends before
another begins, and its end frees the reply's entry; the end that a restart waits for brings its application
where every line is idle (R199). -/
def Obligations.TransmitLineSendsOneMessageAtATime : Prop :=
  (∀ (s : State) (p : Port) (e : Nat) (rest : List Nat) (r : Reply),
    s.por = false → s.pif.restart = none → (s.port p).tx = .idle → (s.port p).order = e :: rest →
    (s.port p).replies[e]? = some (.filled r) →
    exec (.replySendStart p) s = .next (s.setPort p { s.port p with
      replies := (s.port p).replies.set e (.sending r)
      order := rest
      tx := .reply e (s.port p).badFrame (s.port p).overrun
      badFrame := false
      overrun := false })) ∧
  (∀ (s : State) (p : Port) (n : Notice) (rest : List Notice),
    s.por = false → s.pif.restart = none → (s.port p).tx = .idle → (s.port p).order = [] →
    (s.port p).notices = n :: rest →
    exec (.noticeSendStart p) s = .next (s.setPort p { s.port p with
      notices := rest, tx := .notice n (s.port p).lost, lost := false })) ∧
  (∀ (s : State) (p : Port), (s.port p).tx ≠ .idle →
    exec (.replySendStart p) s = .next s ∧ exec (.noticeSendStart p) s = .next s) ∧
  (∀ (s : State) (p : Port), (s.port p).order ≠ [] → exec (.noticeSendStart p) s = .next s) ∧
  (∀ (s : State) (p : Port) (e : Nat) (b o : Bool), s.por = false → s.pif.restart = none →
    (s.port p).tx = .reply e b o →
    exec (.txMessageEnd p) s = .next (s.setPort p { s.port p with
      replies := (s.port p).replies.set e .free, tx := .idle })) ∧
  (∀ (s : State) (p : Port) (n : Notice) (l : Bool), s.por = false → s.pif.restart = none →
    (s.port p).tx = .notice n l →
    exec (.txMessageEnd p) s = .next (s.setPort p { s.port p with tx := .idle })) ∧
  (∀ (s : State) (p : Port) (e : Nat) (b o : Bool), s.por = false →
    s.pif.restart = some { ticket := { port := p, entry := e }, sent := false } →
    (s.port p).tx = .reply e b o →
    ∃ u t, exec (.txMessageEnd p) s = .next u ∧ exec .restartApply t = .next u ∧
      t.pif.restart = some { ticket := { port := p, entry := e }, sent := true } ∧
      (t.port p).tx = .idle ∧
      (t.port p).replies = (s.port p).replies.set e .free)

/-- R195: SUBSCRIBE replaces the port's subscription set and removes the queued notices of every other
class, or is refused INVALID; the other ports are not changed. -/
def Obligations.SubscribeReplacesTheSet : Prop :=
  ∀ (s : State) (p : Port) (tag : Byte) (e : Nat) (r : SubscribeReq),
    Takes s p tag (.subscribe r) e →
    (512 ≤ r.classes.toNat →
      exec (.subscribe p tag r) s = .next (s.replied p tag 34 e .invalid .none)) ∧
    (r.classes.toNat < 512 →
      ∃ t, exec (.subscribe p tag r) s = .next t ∧
        t = (let set : Word16 := r.classes.setWidth 16
             let u := s.replied p tag 34 e .done (.subscribed set)
             u.setPort p { u.port p with
               subs := set
               notices := (s.port p).notices.filter fun n => set.getLsbD (n.cls.code - 1) }) ∧
        (∀ p' : Port, p' ≠ p → t.port p' = s.port p'))

/-- R196: where a notice goes that is offered to a queue: in the place of the queued one of its
latest-only class, at the end while fewer than 16 are queued, at the end of a full queue from which
the oldest latest-only notice leaves, or nowhere with the lost marker set.  A queue of at most 16 with
at most one notice of each latest-only class stays so. -/
def Obligations.NoticeIsPlacedInTheQueue : Prop :=
  ∀ (ps : PortState) (n : Notice),
    ((n.cls.latestOnly = true ∧ ∃ m ∈ ps.notices, m.cls = n.cls) →
      ∃ a m b, ps.notices = a ++ m :: b ∧ m.cls = n.cls ∧ (∀ x ∈ a, x.cls ≠ n.cls) ∧
        ps.offer n = { ps with notices := a ++ n :: b }) ∧
    (¬(n.cls.latestOnly = true ∧ ∃ m ∈ ps.notices, m.cls = n.cls) →
      (ps.notices.length < 16 → ps.offer n = { ps with notices := ps.notices ++ [n] }) ∧
      (16 ≤ ps.notices.length →
        ((∃ m ∈ ps.notices, m.cls.latestOnly = true) →
          ∃ a m b, ps.notices = a ++ m :: b ∧ m.cls.latestOnly = true ∧
            (∀ x ∈ a, x.cls.latestOnly = false) ∧
            ps.offer n = { ps with notices := a ++ b ++ [n] }) ∧
        ((∀ m ∈ ps.notices, m.cls.latestOnly = false) →
          ps.offer n = { ps with lost := true }))) ∧
    (ps.notices.length ≤ 16 → (ps.offer n).notices.length ≤ 16) ∧
    (((ps.notices.map Notice.cls).filter NoticeClass.latestOnly).Nodup →
      (((ps.offer n).notices.map Notice.cls).filter NoticeClass.latestOnly).Nodup)

/-! ### The engine, its passes and its stages -/

/-- R5, R6: a STOPPED engine without the bypass hold starts when the link is RUNNING: STARTING takes the
place of STOPPED in the reason set, the front context begins to build the live scene record with its
segments taken from the free list at once, the lowest numbers first (the model's choice, entry 8).  In
every other case the event changes nothing. -/
def Obligations.EngineStartsByItself : Prop :=
  (∀ s : State, s.por = false → s.lnk.state = .running → s.sen.engine = .stopped →
    s.sen.bypassHold = false → s.opu.reasons.stopped = true →
    exec .engineAutoStart s = .next
      (let chain := s.scn.live.chain
       let m := chainDemand chain
       { s with
         sen := { s.sen with
           engine := .starting
           front := {
             state := .building, generation := s.scn.generation, stages := []
             granted := s.spl.free.take m, toClear := s.spl.free.take m
             cost := chainCost chain, buildCount := chain.length + (m + 3) / 4 } }
         spl := { s.spl with free := s.spl.free.drop m }
         opu := { s.opu with
           reasons := { s.opu.reasons with starting := true, stopped := false } } })) ∧
  (∀ s : State, (s.lnk.state ≠ .running ∨ s.sen.engine ≠ .stopped ∨ s.sen.bypassHold = true) →
    exec .engineAutoStart s = .next s)

/-- R7, R83, R168, R169: when the build of STARTING is done the engine is RUN with a LIVE front context, the
output level is handed to the link, the pass on the block just ended begins, and the relay, when
BYPASS, starts to move to ENGAGED with RELAY_MOVE taking the place of STARTING: with the gain MUTED and the
link RUNNING (R167) it takes its target at that start and holds for four blocks, otherwise the move waits in
WAITING; when ENGAGED the relay does not move. -/
def Obligations.StartingCompletes : Prop :=
  ∀ (s : State) (block : List (Int × Int)), s.por = false → s.sen.engine = .starting →
    s.sen.front.state = .building → s.sen.front.buildCount = 0 → s.sen.awaiting = some block →
    s.scn.phase = .steady → s.scn.switch = none → s.spl.grant = none → s.opu.resume = none →
    s.opu.move = none → s.opu.reasons.starting = true →
    (s.opu.gainState = .muted ∨ s.opu.gainState = .rampDown) →
    ∃ t, exec .startingComplete s = .next t ∧ t.sen.engine = .run ∧ t.sen.front.state = .live ∧
      t.sen.awaiting = none ∧ t.sen.pass.isSome = true ∧
      t.lnk = (if s.lnk.queue.length < 4 then
          { s.lnk with
            queue := s.lnk.queue ++ [{
              owner := none, tag := none, data := some s.scn.live.level, target := .primary
              index := 64, sent := false, waited := 0, fresh := false }]
            levelPending := none }
        else { s.lnk with levelPending := some s.scn.live.level }) ∧
      (s.opu.relay = .bypass →
        let taken := s.opu.gainState = .muted ∧ s.lnk.state = .running
        t.opu = { s.opu with
          reasons := { s.opu.reasons with starting := false, relayMove := true }
          relay := if taken then .engaged else .bypass
          move := some {
            target := .engaged, hold := if taken then some 4 else none, next := none } }) ∧
      (s.opu.relay = .engaged →
        t.opu = { s.opu with
          reasons := { s.opu.reasons with starting := false }
          gainState :=
            if ({ s.opu.reasons with starting := false } : MuteSet).isEmpty then .rampUp
            else s.opu.gainState }) ∧
      t.scn = s.scn ∧ t.pif = s.pif ∧ t.lib = s.lib ∧ t.tgn = s.tgn ∧ t.tun = s.tun ∧
      t.pending = s.pending

/-- R1, R2, R3, R6, R15, R16, R18, R26, R27, R45 to R47, R99, R101, R102, R104, R107 to R109, R168: a block
boundary counts the block and hands over the outputs of the pass before, behind those still waiting
(entry 28).  In STARTING and in PREPARE it makes one step of the build: the next stage from its entry, or
four segments cleared; with a grant still waiting on cuts it takes one off the blocks left (entry 20), or finds
the cuts done and the grant due.  The boundary after a budget block begins FADE, and that after a closing block
makes the commit due.  In FADE and GAP_OUT the blocks left count down: the last block brings the
selection and, in GAP_OUT, SWITCH_GAP, and the end makes the commit due; GAP_IN counts down and takes
SWITCH_GAP out.  A pass on the sixteen frames just ended begins unless a step that precedes it is due: a
chain of disabled stages hands its input on, VOLUMEs scale and saturate it in order, a gliding VOLUME
frame by frame, and a LOOP exchanges it for the return.  That pass, and a due step's event, come as
entry 2 says; that the blocks left in PREPARE do not count a budget block to come is the model's choice (entry
52), and so is it that a stage built in the back context keeps its mark, values and lengths as built in the
passes that do not run it (entry 84).  Where a tail runs in the pass, its state after is left to the pass. -/
def Obligations.BoundaryBeginsAPassAndADisabledChainIsTransparent : Prop :=
  let quiet : State → Prop := fun s =>
    s.por = false ∧ s.sen.gathered.length = 16 ∧ s.sen.awaiting = none ∧ s.sen.pass = none ∧
    s.scn.pendingRecall = none ∧ s.spl.grant = none ∧ s.spl.tails = []
  let counted : State → State → Prop := fun s t =>
    t.sen.blockCount = s.sen.blockCount + 1 ∧ t.sen.gathered = [] ∧ t.sen.ready = [] ∧
    t.sen.outQueue = s.sen.outQueue ++ s.sen.ready ∧ t.sen.engine = s.sen.engine ∧
    t.opu.move = (s.opu.move.map fun m => { m with hold := m.hold.map (· - 1) }) ∧
    t.opu.gain = s.opu.gain ∧ t.opu.fault = s.opu.fault ∧ t.opu.relay = s.opu.relay ∧
    t.spl.free = s.spl.free ∧ t.spl.tails = [] ∧
    t.pif = s.pif ∧ t.lib = s.lib ∧ t.tgn = s.tgn ∧ t.lnk = s.lnk ∧ t.pending = s.pending
  let ready : State → Prop := fun s =>
    s.por = false ∧ s.sen.gathered.length = 16 ∧ s.sen.awaiting = none ∧ s.sen.pass = none ∧
    s.sen.engine = .run
  let moved : State → State → Prop := fun s t =>
    t.sen.blockCount = s.sen.blockCount + 1 ∧ t.sen.gathered = [] ∧ t.sen.engine = .run ∧
    t.sen.outQueue = s.sen.outQueue ++ s.sen.ready ∧
    t.opu.move = (s.opu.move.map fun m => { m with hold := m.hold.map (· - 1) }) ∧
    t.opu.gain = s.opu.gain ∧ t.opu.fault = s.opu.fault ∧ t.opu.relay = s.opu.relay ∧
    t.lib = s.lib ∧ t.tgn = s.tgn ∧ t.lnk = s.lnk ∧ t.pending = s.pending
  let builtFrom : State → Context → StageEntry → StageInst → Prop := fun s c e i =>
    i.kind = e.kind ∧ i.enabled = e.enabled ∧ i.spill = e.spill ∧ i.sync = e.sync ∧
    i.cur = e.params ∧ i.tgt = e.params ∧ i.beat = s.tgn.period ∧ i.segs = c.granted.take e.need
  let begun : State → State → Nat → Prop := fun s t load =>
    t.sen.awaiting = none ∧ t.sen.load = load ∧
    ∃ r, t.sen.pass = some r ∧ r.outs.length = s.sen.gathered.length
  let due : State → State → Prop := fun s t =>
    t.sen.awaiting = some s.sen.gathered ∧ t.sen.pass = none
  (∀ s : State, quiet s → s.sen.engine = .run → s.scn.phase = .steady → s.scn.switch = none →
    ∃ t r, exec .blockBoundary s = .next t ∧ counted s t ∧ t.scn = s.scn ∧
      begun s t s.sen.front.cost ∧ t.sen.pass = some r ∧
      ((∀ f ∈ s.sen.gathered, -8388608 ≤ f.1 ∧ f.1 ≤ 8388607) →
        ((∀ i ∈ s.sen.front.stages, i.enabled = false) →
          r.outs = s.sen.gathered.map fun f => (f.1, 0)) ∧
        ((∀ i ∈ s.sen.front.stages, i.run = .volume ∧ i.enabled = true ∧ i.tgt = i.cur) →
          r.outs = s.sen.gathered.map fun f =>
            (s.sen.front.stages.foldl
              (fun y i => sat ((y * i.cur.getD 0 0 + 2048) / 4096)) f.1, 0)) ∧
        (∀ (i : StageInst) (a b : Int), s.sen.front.stages = [i] → i.run = .volume →
          i.enabled = true → i.cur = [a] → i.tgt = [b] →
          ∀ (n : Nat) (x ret : Int), s.sen.gathered[n]? = some (x, ret) →
            r.outs[n]? = some
              (sat ((x * (a + ((b - a) * (n + 1) + 8) / 16) + 2048) / 4096), 0)) ∧
        (∀ (i : StageInst) (sg rg mix : Int), s.sen.front.stages = [i] → i.run = .loop →
          i.enabled = true → i.cur = [sg, rg, mix] → i.tgt = [sg, rg, mix] →
          (s.loopOpen = false → r.outs = s.sen.gathered.map fun f =>
            (sat ((sat ((f.2 * rg + 2048) / 4096) * mix + f.1 * (4096 - mix) + 2048) / 4096),
              sat ((f.1 * sg + 2048) / 4096))) ∧
          (s.loopOpen = true → r.outs = s.sen.gathered.map fun f => (f.1, 0))))) ∧
  (∀ s : State, quiet s → s.sen.engine = .starting → s.scn.phase = .steady →
    s.scn.switch = none → s.sen.front.state = .building → 1 ≤ s.sen.front.buildCount →
    Memory.wf s.spl.mem = true →
    ∃ t, exec .blockBoundary s = .next t ∧ counted s t ∧ t.scn = s.scn ∧
      t.sen.front.buildCount = s.sen.front.buildCount - 1 ∧ t.sen.front.state = .building ∧
      (s.sen.front.buildCount = 1 → due s t) ∧
      (s.sen.front.buildCount ≠ 1 → t.sen.awaiting = none ∧ t.sen.pass = none) ∧
      t.opu.reasons = s.opu.reasons ∧ t.opu.gainState = s.opu.gainState ∧
      (∀ e, s.scn.live.chain[s.sen.front.stages.length]? = some e →
        ∃ i, t.sen.front.stages = s.sen.front.stages ++ [i] ∧ builtFrom s s.sen.front e i ∧
          t.sen.front.granted = s.sen.front.granted.drop i.segs.length ∧
          t.sen.front.toClear = s.sen.front.toClear ∧ t.spl = s.spl) ∧
      (s.scn.live.chain.length ≤ s.sen.front.stages.length →
        t.sen.front.stages = s.sen.front.stages ∧
        t.sen.front.toClear = s.sen.front.toClear.drop 4 ∧
        ∀ a, memRead t.spl.mem a =
          if a / 8192 ∈ s.sen.front.toClear.take 4 then 0 else memRead s.spl.mem a)) ∧
  (∀ (s : State) (r : SwitchRec), quiet s → s.sen.engine = .run → s.scn.phase = .prepare →
    s.scn.switch = some r → r.commitDue = false → s.sen.back.state = .building →
    1 ≤ s.sen.back.buildCount →
    ∃ t w, exec .blockBoundary s = .next t ∧ counted s t ∧
      t.scn = { s.scn with switch := some w } ∧
      w = { r with
        degraded := w.degraded, blocksLeft := r.blocksLeft - 1
        selected := r.selected ||
          (decide (r.kind = .immediate ∨ r.kind = .cut) &&
            decide (s.sen.back.buildCount = 2)) } ∧
      t.sen.back.buildCount = s.sen.back.buildCount - 1 ∧ t.sen.back.state = .building ∧
      (s.sen.back.buildCount = 1 → due s t) ∧
      (s.sen.back.buildCount ≠ 1 → begun s t s.sen.front.cost) ∧
      t.opu.reasons = s.opu.reasons ∧ t.opu.gainState = s.opu.gainState ∧
      (∀ e, s.scn.live.chain[s.sen.back.stages.length]? = some e →
        ∃ i, t.sen.back.stages = s.sen.back.stages ++ [i] ∧ builtFrom s s.sen.back e i ∧
          t.sen.back.granted = s.sen.back.granted.drop i.segs.length ∧
          t.sen.back.toClear = s.sen.back.toClear) ∧
      (s.scn.live.chain.length ≤ s.sen.back.stages.length →
        t.sen.back.stages = s.sen.back.stages ∧
        t.sen.back.toClear = s.sen.back.toClear.drop 4)) ∧
  (∀ (s : State) (r : SwitchRec) (g : GrantWait), ready s → s.scn.phase = .prepare →
    s.scn.switch = some r → r.commitDue = false → s.sen.back.state = .building →
    s.spl.grant = some g → g.due = false →
    ∃ t, exec .blockBoundary s = .next t ∧ moved s t ∧ t.sen.back = s.sen.back ∧
      t.opu.reasons = s.opu.reasons ∧ t.opu.gainState = s.opu.gainState ∧
      ((∀ x ∈ s.spl.tails, x.awaited = false) →
        t.scn = s.scn ∧ t.spl = { s.spl with grant := some { g with due := true } } ∧ due s t) ∧
      ((∃ x ∈ s.spl.tails, x.awaited = true) →
        t.scn = { s.scn with switch := some { r with blocksLeft := r.blocksLeft - 1 } } ∧
        t.spl.grant = some g ∧ t.spl.free = s.spl.free ∧
        t.sen.awaiting = none ∧ t.sen.pass.isSome = true)) ∧
  (∀ (s : State) (r : SwitchRec), ready s → s.scn.phase = .prepare →
    s.scn.switch = some r → r.commitDue = false → s.sen.back.state = .live → s.spl.grant = none →
    (r.budget = false → ∃ t, exec .blockBoundary s = .next t ∧ moved s t ∧ due s t ∧
      t.scn = { s.scn with switch := some { r with commitDue := true } } ∧ t.spl = s.spl ∧
      t.sen.back = s.sen.back ∧ t.opu.reasons = s.opu.reasons) ∧
    (r.budget = true → 1 ≤ r.fade → ∃ t, exec .blockBoundary s = .next t ∧ moved s t ∧
      t.sen.awaiting = none ∧ t.sen.pass.isSome = true ∧
      t.scn = { s.scn with
        phase := .fade
        switch := some { r with
          blocksLeft := r.fade, budget := false, selected := r.selected || decide (r.fade = 1) } } ∧
      t.spl.free = s.spl.free ∧ t.opu.reasons = s.opu.reasons)) ∧
  (∀ (s : State) (r : SwitchRec), quiet s → s.sen.engine = .run →
    (s.scn.phase = .fade ∨ s.scn.phase = .gapOut) → s.scn.switch = some r →
    r.commitDue = false →
    let load := s.sen.front.cost + if s.scn.phase = .fade then s.sen.back.cost else 0
    (r.blocksLeft = 1 → ∃ t, exec .blockBoundary s = .next t ∧ counted s t ∧ due s t ∧
      t.scn = { s.scn with switch := some { r with blocksLeft := 0, commitDue := true } } ∧
      t.opu.reasons = s.opu.reasons ∧ t.opu.gainState = s.opu.gainState) ∧
    (r.blocksLeft = 2 → ∃ t, exec .blockBoundary s = .next t ∧ counted s t ∧ begun s t load ∧
      t.scn = { s.scn with switch := some { r with blocksLeft := 1, selected := true } } ∧
      t.opu.reasons = { s.opu.reasons with
        switchGap := s.opu.reasons.switchGap || decide (s.scn.phase = .gapOut) }) ∧
    (3 ≤ r.blocksLeft → ∃ t, exec .blockBoundary s = .next t ∧ counted s t ∧ begun s t load ∧
      t.scn = { s.scn with switch := some { r with blocksLeft := r.blocksLeft - 1 } } ∧
      t.opu.reasons = s.opu.reasons ∧ t.opu.gainState = s.opu.gainState)) ∧
  (∀ (s : State) (r : SwitchRec), quiet s → s.sen.engine = .run → s.scn.phase = .gapIn →
    s.scn.switch = some r → r.commitDue = false → 1 ≤ r.blocksLeft →
    ∃ t, exec .blockBoundary s = .next t ∧ counted s t ∧
      t.scn = { s.scn with switch := some { r with blocksLeft := r.blocksLeft - 1 } } ∧
      t.opu.reasons = { s.opu.reasons with switchGap := false } ∧
      (r.blocksLeft = 1 → due s t) ∧ (r.blocksLeft ≠ 1 → begun s t s.sen.front.cost))

/-- R20, R21, R61, R64 to R67: the completion of a pass makes its outputs ready, updates the record of every
stage and tail, the drain count and the life of every RUNNING tail from its silence, releases the tails
whose cut pass it was, and loses no segment; a clip or a saturation sets the summary clip, with one METER
notice when it was clear, and a synced DELAY newly degraded raises one too, each with the load of its
pass and the marked stages of the front context.  The expiries of tails that fall at the completion happen with
it, the drain counts before the lives. -/
def Obligations.PassCompletionUpdatesTails : Prop :=
  ∀ (s : State) (r : PassRec), s.por = false → s.sen.pass = some r →
    r.tails.length = s.spl.tails.length → r.front.length = s.sen.front.stages.length →
    let clipped := r.mixSat || (r.front ++ r.back ++ r.tails).any (·.clip)
    ∃ u t m, exec .passComplete s = .next u ∧
      runAll [.tailDrainExpiry, .tailLifeExpiry] t = .next u ∧ t.por = false ∧
      t.sen.pass = none ∧ t.sen.ready = r.outs ∧
      t.sen.lastLoad = s.sen.load ∧ t.sen.summaryClip = (s.sen.summaryClip || clipped) ∧
      t.sen.front.stages.map (·.status) =
        (s.sen.front.stages.map (·.status)).zipWith recordAfter r.front ∧
      (r.back.length = s.sen.back.stages.length →
        t.sen.back.stages.map (·.status) =
          (s.sen.back.stages.map (·.status)).zipWith recordAfter r.back) ∧
      t.spl.tails = ((s.spl.tails.zip r.tails).map fun x =>
          let u := { x.1 with inst := { x.1.inst with
            status := recordAfter x.1.inst.status x.2 } }
          if x.1.state = .running then
            { u with
              drain := if x.2.silent then x.1.drain - 1 else x.1.drainReload
              life := x.1.life - 1 }
          else u).filter (fun x => !(decide (x.state = .cutting) && x.cutRan)) ∧
      t.heldSegs.Perm s.heldSegs ∧ t.scn = s.scn ∧ t.opu = s.opu ∧
      t.lnk = s.lnk ∧ t.tgn = s.tgn ∧ t.tun = s.tun ∧ t.lib = s.lib ∧ t.pending = s.pending ∧
      m.summaryClip = t.sen.summaryClip ∧ m.load = s.sen.load ∧
      m.generation = s.sen.front.generation ∧ m.stages.Pairwise (· < ·) ∧
      (∀ n, n ∈ m.stages ↔ ∃ i, t.sen.front.stages[n]? = some i ∧
        (i.status.clip = true ∨ i.status.satIn = true ∨ i.status.degraded = true)) ∧
      t.pif = (
        let f := if clipped = true ∧ s.sen.summaryClip = false then s.pif.raise (.meter m)
          else s.pif
        if r.tempoDegraded then f.raise (.meter m) else f)

/-- R65, R66: a RUNNING tail whose drain count has reached 0 is released at once, and its segments return
to the free list; one whose life has reached 0 first becomes CUTTING. -/
def Obligations.TailsDrainAndLiveOut : Prop :=
  (∀ s : State, s.por = false →
    ∃ t, exec .tailDrainExpiry s = .next t ∧
      t.spl.tails = s.spl.tails.filter (fun x => decide ¬(x.state = .running ∧ x.drain = 0)) ∧
      t.spl.free.Perm (s.spl.free ++
        (s.spl.tails.filter (fun x => decide (x.state = .running ∧ x.drain = 0))).flatMap
          (·.inst.segs)) ∧
      t = { s with spl := { s.spl with tails := t.spl.tails, free := t.spl.free } }) ∧
  (∀ s : State, s.por = false →
    ∃ t, exec .tailLifeExpiry s = .next t ∧
      t = { s with spl := { s.spl with tails := t.spl.tails } } ∧
      t.spl.tails.length = s.spl.tails.length ∧
      ∀ (n : Nat) (x : Tail), s.spl.tails[n]? = some x →
        (x.state = .running → x.drain ≠ 0 → x.life = 0 →
          t.spl.tails[n]? = some { x with state := .cutting, cutRan := false }) ∧
        (¬(x.state = .running ∧ x.drain ≠ 0 ∧ x.life = 0) → t.spl.tails[n]? = some x))

/-- R9, R22, R71, R114, R154, R157, R170: at a runaway count of 2,048 with the protection state CLEAR the
part enters FAULT: the record is filled, the gain is 0 at once, the engine stops with every segment
free, any switch is abandoned, and the relay moves as the policy and the failover flag say; the scene
record and its generation stand.  The taken recall is answered ABORTED with its generation and the cause
while its reply is due, a pending recall ABORTED without a generation.  Where the gain was not yet 0 under
a rest pending, the final step is held for the frame after the entry (entry 82).  In FAULT the cause is added
once. -/
def Obligations.RunawayEntersFault : Prop :=
  (∀ s : State, s.por = false → 2048 ≤ s.sen.runaway → s.opu.fault = none →
    s.scn.switchOk = true →
    ∃ t, exec .runaway s = .next t ∧
      t.opu.fault = some {
        first := .runaway
        causes := { frameLoss := false, runaway := true, powerWarn := false, converterLost := false }
        blockCount := s.sen.blockCount, generation := s.scn.generation, phase := s.scn.phase } ∧
      t.opu.gain = 0 ∧ t.opu.gainState = .muted ∧ t.opu.move = none ∧ t.opu.resume = none ∧
      t.opu.relay = (if s.opu.policy = .bypass ∨ s.opu.failover = true then .bypass
        else s.opu.relay) ∧
      t.opu.reasons = { s.opu.reasons with
        fault := true, stopped := false, starting := false, relayMove := false
        switchGap := if s.scn.phase = .steady then s.opu.reasons.switchGap else false } ∧
      t.opu.lastFault = s.opu.lastFault ∧ t.opu.failover = s.opu.failover ∧
      t.sen.engine = .fault ∧ t.sen.front.stages = [] ∧ t.sen.front.state = .empty ∧
      t.sen.back.stages = [] ∧ t.sen.back.state = .empty ∧ t.sen.pass = none ∧
      t.sen.ready = [] ∧ t.sen.outQueue = [] ∧ t.sen.load = 0 ∧ t.sen.runaway = 0 ∧
      t.sen.summaryClip = s.sen.summaryClip ∧ t.sen.blockCount = s.sen.blockCount ∧
      t.spl.tails = [] ∧ t.spl.free = List.range 48 ∧ t.spl.grant = none ∧
      t.scn = { s.scn with phase := .steady, switch := none, pendingRecall := none } ∧
      t.lib = s.lib ∧ t.tgn = s.tgn ∧ t.tun = s.tun ∧ t.pending = s.pending ∧
      t.lnk = { s.lnk with
        restHeld := s.lnk.restHeld || (s.lnk.restPending.isSome && decide (0 < s.opu.gain)) } ∧
      (s.opu.resume = none → s.scn.phase = .steady → s.scn.pendingRecall = none →
        t.pif.quiet = s.pif.quiet) ∧
      (∀ (w : SwitchRec) (tag : Byte) (kind : Nat), s.opu.resume = none →
        s.scn.switch = some w → s.scn.phase ≠ .gapIn →
        (s.port w.ticket.port).replies[w.ticket.entry]? = some (.reserved tag kind) →
        (t.port w.ticket.port).replies[w.ticket.entry]? = some (.filled {
          tag := tag, kind := kind, status := .aborted
          fields := .recallAborted (some s.scn.generation) (.fault .runaway) })) ∧
      (∀ (q : PendingRecall) (tag : Byte) (kind : Nat), s.opu.resume = none →
        s.scn.pendingRecall = some q → (∀ w, s.scn.switch = some w → w.ticket ≠ q.ticket) →
        (s.port q.ticket.port).replies[q.ticket.entry]? = some (.reserved tag kind) →
        (t.port q.ticket.port).replies[q.ticket.entry]? = some (.filled {
          tag := tag, kind := kind, status := .aborted
          fields := .recallAborted none (.fault .runaway) }))) ∧
  (∀ (s : State) (rec_ : FaultRecord), s.por = false → 2048 ≤ s.sen.runaway →
    s.opu.fault = some rec_ →
    ∃ t, exec .runaway s = .next t ∧
      t.sen = { s.sen with runaway := 0 } ∧
      t.opu = { s.opu with
        fault := some { rec_ with causes := { rec_.causes with runaway := true } } } ∧
      t.scn = s.scn ∧ t.spl = s.spl ∧ t.lnk = s.lnk ∧ t.tgn = s.tgn ∧ t.tun = s.tun ∧
      t.pif.quiet = s.pif.quiet ∧ (rec_.causes.runaway = true → t.pif = s.pif)) ∧
  (∀ s : State, s.sen.runaway < 2048 → exec .runaway s = .next s)

/-- R26, R60: a parameter's glide moves from the value it has towards the target without leaving the span
between them and stands at the target in frame 16; and whatever a stage does in a pass, the pass ends
with every current value at its target.  R60: in one pass a delay's effective time comes nearer its
clamped target by 32 frames, or by what is left, and never passes it. -/
def Obligations.ParametersGlideToTheirTargets : Prop :=
  (∀ a b : Int, glideAt a b 16 = b ∧
    (∀ j : Nat, 1 ≤ j → j ≤ 16 → min a b ≤ glideAt a b j ∧ glideAt a b j ≤ max a b) ∧
    (∀ j k : Nat, j ≤ k → a ≤ b → glideAt a b j ≤ glideAt a b k)) ∧
  (∀ (l : Lib) (lo : Bool) (ret : List Int) (w : WetMode) (i : StageInst) (mem : List (Nat × Int))
      (xs : List Int),
    (runStage l lo ret w i mem xs).inst.cur = i.tgt ∧
    (runStage l lo ret w i mem xs).inst.tgt = i.tgt ∧
    (runStage l lo ret w i mem xs).inst.segs = i.segs) ∧
  (∀ d c : Nat, min d c ≤ glideTime d c ∧ glideTime d c ≤ max d c ∧
    ((glideTime d c : Int) - c).natAbs = ((d : Int) - c).natAbs - 32) ∧
  (∀ d c n : Nat, ((d : Int) - c).natAbs ≤ 32 * n → (fun x => glideTime x c)^[n] d = c)

/-- R17, R67, R102: over a fade of F blocks the incoming gain never falls and is 4,096 in its last frame,
where the outgoing one is 0; the cut gain falls by 256 a frame from 3,840 to 0. -/
def Obligations.FadeAndCutGains : Prop :=
  (∀ fade k j : Nat, 1 ≤ fade → 1 ≤ k → k ≤ fade → 1 ≤ j → j ≤ 16 →
    0 ≤ gIn fade k j ∧ gIn fade k j ≤ 4096 ∧
    (∀ k' j' : Nat, 1 ≤ k' → 1 ≤ j' → 16 * (k - 1) + j ≤ 16 * (k' - 1) + j' →
      gIn fade k j ≤ gIn fade k' j')) ∧
  (∀ fade : Nat, 1 ≤ fade → gIn fade fade 16 = 4096) ∧
  (∀ (f b : Int), chainMix .fade f b 4096 = b ∧ chainMix .gapOut f b 4096 = 0 ∧
    chainMix .gapIn f b 4096 = f ∧ chainMix .steady f b 4096 = f) ∧
  (cutGain 1 = 3840 ∧ cutGain 16 = 0 ∧ ∀ j : Nat, cutGain j - cutGain (j + 1) = 256)

/-- R31: a COMP's target gain is at most unity, is unity up to the threshold and at ratio 1, and the
applied gain moves towards it without passing it, and moves in every pass that finds it elsewhere. -/
def Obligations.CompGainFollowsItsTarget : Prop :=
  (∀ p t r : Nat, 1 ≤ t → 1 ≤ r →
    compTarget p t r ≤ 4096 ∧ (p ≤ t → compTarget p t r = 4096) ∧ compTarget p t 1 = 4096) ∧
  (∀ g t a rl : Nat, 1 ≤ a → 1 ≤ rl →
    (t < g → t ≤ compNext g t a rl ∧ compNext g t a rl < g) ∧
    (g < t → g < compNext g t a rl ∧ compNext g t a rl ≤ t) ∧
    (g = t → compNext g t a rl = t) ∧ (t < g → compNext g t 1 rl = t))

/-- R34: the shaper's value is the interpolation of the rule and lies between the two curve points it interpolates, inclusive, for every curve
and every sample, and is the lower point itself where the sample falls on it. -/
def Obligations.ShaperStaysBetweenItsPoints : Prop :=
  ∀ (curve : List Int) (u : Int), -8388608 ≤ u → u ≤ 8388607 →
    let i := ((u + 8388608) / 65536).toNat
    let fr := (u + 8388608) % 65536
    i ≤ 255 ∧
    shaper curve u = curve.getD i 0 +
      ((curve.getD (i + 1) 0 - curve.getD i 0) * fr + 32768) / 65536 ∧
    min (curve.getD i 0) (curve.getD (i + 1) 0) ≤ shaper curve u ∧
    shaper curve u ≤ max (curve.getD i 0) (curve.getD (i + 1) 0) ∧
    (fr = 0 → shaper curve u = curve.getD i 0) ∧
    ((∀ x ∈ curve, -32768 ≤ x ∧ x ≤ 32767) → -32768 ≤ shaper curve u ∧ shaper curve u ≤ 32767) ∧
    (u = 8388607 → i = 255 ∧ fr = 65535) ∧ (u = -8388608 → shaper curve u = curve.getD 0 0)

/-- R42: with no feedback a delay line gives back each input, saturated, exactly `time` frames after it
was written, whatever the memory held and wherever in the pool its segments lie. -/
def Obligations.DelayLineDelaysByItsTime : Prop :=
  ∀ (segs : List Nat) (time wp : Nat) (mem : List (Nat × Int)) (xs : List Int) (n : Nat) (x : Int),
    segs.Nodup → Memory.wf mem = true → 16 ≤ time → time + 16 ≤ 8192 * segs.length → wp < 8192 * segs.length →
    xs[n]? = some x → n + time < xs.length →
    (delayWets segs (8192 * segs.length) time 0 { mem := mem, wp := wp } xs)[n + time]? =
      some (sat x)

/-- R68: the selection removes the first candidates, no more than it must, until at most four remain and
the new front fits the budget with them; in the state, the tails still RUNNING and the HOLD stages not
cut in their context are those that remain. -/
def Obligations.SelectionKeepsFourWithinBudget : Prop :=
  (∀ (nf : Nat) (cs : List Nat), nf ≤ 1600 →
    (cs.drop (removed nf cs)).length ≤ 4 ∧ nf + (cs.drop (removed nf cs)).sum ≤ 1600 ∧
    ∀ m, m < removed nf cs → 4 < (cs.drop m).length ∨ 1600 < nf + (cs.drop m).sum) ∧
  (∀ (s : State) (nf : Nat), nf ≤ 1600 → (∀ i ∈ s.sen.front.stages, i.cut = false) →
    let t := s.selectFor nf
    let kept := runningCosts t.spl.tails ++
      (t.sen.front.stages.filter fun i => i.holds && !i.cut).map (·.kind.cost)
    kept.length ≤ 4 ∧ nf + kept.sum ≤ 1600 ∧
    kept = (runningCosts s.spl.tails ++
      (s.sen.front.stages.filter (·.holds)).map (·.kind.cost)).drop
        (removed nf (runningCosts s.spl.tails ++
          (s.sen.front.stages.filter (·.holds)).map (·.kind.cost))))

/-! ### Scene switching -/

/-- R93, R94, R54, R98: a recall in STEADY chooses its preset by its condition; an EMPTY slot refuses it;
otherwise it is taken at once: the latch bit is toggled when asked, the generation moves on (65,535 to
1), the record becomes the live scene, the kind and the fade are resolved, and with enough segments
free the grant is made, the lowest numbers first (entry 8), and PREPARE has N = S + ceil(M / 4) blocks left,
or 2 where a build of one boundary has its closing block; with too few free the oldest RUNNING tails, no more
than it must, are cut, the grant waits with nothing granted, and the blocks left are N, or N + 1 where a cut
is still to begin its pass (entry 20).  That a budget block still to come is not counted is the model's choice
(entry 52).  No reply is filled.  That EMPTY names preset
A where there is no condition is the model's (entry 77). -/
def Obligations.RecallIsTakenInSteady : Prop :=
  ∀ (s : State) (p : Port) (tag : Byte) (e : Nat) (r : RecallReq) (slot : Nat),
    Takes s p tag (.recall r) e → recallInRange r = true → s.sen.engine = .run →
    s.scn.phase = .steady → s.scn.switch = none → s.scn.pendingRecall = none →
    (slot = match r.cond with
      | none => r.presetA.toNat
      | some c =>
        if s.scn.latch.getLsbD c.bit.toNat = decide (c.polarity = 1) then r.presetA.toNat
        else c.presetB.toNat) →
    (s.scn.library.getD slot none = none →
      exec (.recall p tag r) s = .next (s.replied p tag 1 e .empty
        (.recallEmpty slot (r.cond.any fun c =>
          s.scn.latch.getLsbD c.bit.toNat != decide (c.polarity = 1))))) ∧
    (∀ rec_ : Preset, s.scn.library.getD slot none = some rec_ →
      let m := chainDemand rec_.chain
      let n := rec_.chain.length + (m + 3) / 4
      let avail := s.spl.free.length +
        (tailSegs (s.spl.tails.filter fun x => decide (x.state = .cutting))).length
      let g : Word16 := if s.scn.generation = 65535#16 then 1#16 else s.scn.generation + 1
      let asked : Nat := match r.fade, rec_.fade with
        | some f, _ => f.toNat
        | none, some f => f
        | none, none => s.scn.defaultFade
      let silent := s.opu.reasons.tunerSilent
      ∃ t, exec (.recall p tag r) s = .next t ∧ t.freeCtr = s.freeCtr ∧
        t.scn = { s.scn with
          generation := g
          live := rec_
          latch := match r.cond with
            | none => s.scn.latch
            | some c =>
              if c.toggle then s.scn.latch ^^^ (1#16 <<< c.bit.toNat) else s.scn.latch
          phase := .prepare
          switch := some {
            ticket := { port := p, entry := e }
            slot := slot
            fade := if silent then 0 else asked
            kind := if silent then .cut else if asked = 0 then .immediate else .faded
            blocksLeft :=
              if s.spl.free.length < m then
                (if t.spl.tails.any (fun x => x.awaited && !x.cutRan) then n + 1 else n)
              else if n = 1 ∧ (silent = true ∨ asked = 0) then 2 else n
            degraded := [], tempo := rec_.tempo
            budget := false, selected := false, commitDue := false } } ∧
        (m ≤ s.spl.free.length →
          t.sen = { s.sen with back := {
            state := .building, generation := g, stages := [], granted := s.spl.free.take m
            toClear := s.spl.free.take m, cost := chainCost rec_.chain, buildCount := n } } ∧
          t.spl = { s.spl with free := s.spl.free.drop m, grant := none }) ∧
        (s.spl.free.length < m →
          t.sen = { s.sen with back := {
            state := .building, generation := g, stages := [], granted := [], toClear := []
            cost := chainCost rec_.chain, buildCount := 0 } } ∧
          t.spl = { s.spl with
            tails := t.spl.tails, grant := some { demand := m, due := false } } ∧
          t.spl.tails.length = s.spl.tails.length ∧
          ∀ (k : Nat) (x : Tail), s.spl.tails[k]? = some x → t.spl.tails[k]? = some
            (if x.state = .running ∧ avail + (tailSegs ((s.spl.tails.take k).filter
                fun y => decide (y.state = .running))).length < m then
              { x with state := .cutting, cutRan := false, awaited := true }
            else { x with awaited := decide (x.state = .cutting) })) ∧
        t.lib = s.lib ∧ t.tgn = s.tgn ∧ t.tun = s.tun ∧ t.opu = s.opu ∧ t.lnk = s.lnk ∧
        t.pending = s.pending ∧
        t.pif.quiet = (s.taken p tag 1 e).pif.quiet)

/-- R93, R95, R96: a recall out of range is refused INVALID, one outside RUN STOPPED; in FADE, GAP_OUT,
GAP_IN and the closing block of PREPARE it is left pending, and one already pending is answered
SUPERSEDED; in PREPARE before a selection a recall without a condition of a slot that holds a record
supersedes the switch under way, whose requester is answered, while the front context plays on and no
segment is lost. -/
def Obligations.RecallByPhase : Prop :=
  ∀ (s : State) (p : Port) (tag : Byte) (e : Nat) (r : RecallReq), Takes s p tag (.recall r) e →
    (recallInRange r = false →
      exec (.recall p tag r) s = .next (s.replied p tag 1 e .invalid .none)) ∧
    (recallInRange r = true → s.sen.engine ≠ .run →
      exec (.recall p tag r) s = .next (s.replied p tag 1 e .stopped .none)) ∧
    (recallInRange r = true → s.sen.engine = .run →
      (s.scn.phase = .fade ∨ s.scn.phase = .gapOut ∨ s.scn.phase = .gapIn ∨
        (s.scn.phase = .prepare ∧ ∃ w, s.scn.switch = some w ∧ w.selected = true)) →
      ∃ t, exec (.recall p tag r) s = .next t ∧
        t = { s with
          pif := t.pif
          scn := { s.scn with
            pendingRecall := some { ticket := { port := p, entry := e }, req := r } } } ∧
        (s.scn.pendingRecall = none → t.pif = (s.taken p tag 1 e).pif) ∧
        (∀ (q : PendingRecall) (tag' : Byte) (kind' : Nat), s.scn.pendingRecall = some q →
          (s.port q.ticket.port).replies[q.ticket.entry]? = some (.reserved tag' kind') →
          t.pif = ((s.taken p tag 1 e).answer q.ticket .superseded (.superseded none p)).pif ∧
          (t.port q.ticket.port).replies[q.ticket.entry]? = some (.filled {
            tag := tag', kind := kind', status := .superseded
            fields := .superseded none p }))) ∧
    (∀ (w : SwitchRec) (rec_ : Preset) (tag' : Byte) (kind' : Nat), recallInRange r = true →
      s.sen.engine = .run → s.scn.phase = .prepare → s.scn.switch = some w →
      w.selected = false → r.cond = none →
      s.scn.library.getD r.presetA.toNat none = some rec_ →
      (s.port w.ticket.port).replies[w.ticket.entry]? = some (.reserved tag' kind') →
      ∃ t w', exec (.recall p tag r) s = .next t ∧ t.scn.live = rec_ ∧ t.scn.phase = .prepare ∧
        t.scn.switch = some w' ∧ w'.ticket = { port := p, entry := e } ∧
        w'.slot = r.presetA.toNat ∧ t.scn.dirty = s.scn.dirty ∧ t.scn.origin = s.scn.origin ∧
        t.scn.generation = (if s.scn.generation = 65535#16 then 1#16
          else s.scn.generation + 1) ∧
        (t.port w.ticket.port).replies[w.ticket.entry]? = some (.filled {
          tag := tag', kind := kind', status := .superseded
          fields := .superseded (some s.scn.generation) p }) ∧
        t.sen.front = s.sen.front ∧ t.heldSegs.Perm s.heldSegs)

/-- R54, R55, R98: the reclaim for a demand cuts the oldest RUNNING tails, one after another, while what is
free, what was being cut before and what it cuts stay below the demand: as many as cover it, where the
RUNNING tails can, no more than it must, and none when it is covered already; every other tail stands.
A grant that waits is made at the boundary where its cuts are done, from the free list, the lowest numbers
first (entry 8), and the first stage is built at that same boundary; the blocks left then are those
of the build and of a closing block, without a budget block still to come (the model's choice, entry 52).  Before that
boundary nothing happens. -/
def Obligations.GrantAfterReclaim : Prop :=
  (∀ (m avail : Nat) (ts : List Tail),
    let running := ts.filter fun x => decide (x.state = .running)
    let left := (reclaim m avail ts).filter fun x => decide (x.state = .running)
    (reclaim m avail ts).length = ts.length ∧
    (∀ (n : Nat) (x : Tail), ts[n]? = some x → (reclaim m avail ts)[n]? = some
      (if x.state = .running ∧ avail + (tailSegs ((ts.take n).filter
          fun y => decide (y.state = .running))).length < m then
        { x with state := .cutting, cutRan := false, awaited := true }
      else { x with awaited := decide (x.state = .cutting) })) ∧
    (∃ k, k ≤ running.length ∧ left.map (·.inst) = (running.drop k).map (·.inst) ∧
      (∀ j, j < k → avail + (tailSegs (running.take j)).length < m) ∧
      (m ≤ avail + (tailSegs running).length → m ≤ avail + (tailSegs (running.take k)).length) ∧
      (m ≤ avail → k = 0))) ∧
  (∀ (s : State) (r : SwitchRec) (e : StageEntry) (es : List StageEntry) (d : Nat),
    s.por = false → s.spl.grant = some { demand := d, due := true } → s.scn.switch = some r →
    s.scn.phase = .prepare → s.sen.back.state = .building → s.sen.back.stages = [] →
    s.sen.back.granted = [] → s.scn.live.chain = e :: es →
    chainDemand s.scn.live.chain ≤ s.spl.free.length →
    let n := s.scn.live.chain.length + (chainDemand s.scn.live.chain + 3) / 4
    ∃ t i r', exec .grantAfterReclaim s = .next t ∧ t.spl.grant = none ∧
      t.sen.back.stages = [i] ∧ i.kind = e.kind ∧ i.segs = s.spl.free.take e.need ∧
      i.segs.length = e.need ∧ t.sen.back.buildCount = n - 1 ∧ t.scn.switch = some r' ∧
      r'.blocksLeft = (if n = 1 ∧ (r.kind = .immediate ∨ r.kind = .cut) then 2 else n) - 1 ∧
      t.heldSegs.Perm s.heldSegs ∧ t.pif = s.pif ∧ t.opu = s.opu ∧
      t.lnk = s.lnk ∧ t.tgn = s.tgn ∧ t.pending = s.pending) ∧
  (∀ s : State, (∀ g, s.spl.grant = some g → g.due = false) →
    exec .grantAfterReclaim s = .next s)

/-- R99, R100, R101: at the end of PREPARE the back context is LIVE.  A FADED switch becomes GAPPED when
the two contexts alone exceed 1,600, begins FADE when everything fits, and otherwise cuts the oldest
RUNNING tails, just enough, in one further block; a switch without a fade goes to its commit, or to the
closing block in which its selection is made.  Then the pass of the boundary begins.  That a budget block, as a
closing block, shows one block left when it begins, and not sooner, is the model's choice (entry 52). -/
def Obligations.EndOfPrepareChecksTheBudget : Prop :=
  ∀ (s : State) (r : SwitchRec), s.por = false → s.scn.phase = .prepare →
    s.scn.switch = some r → s.sen.back.state = .building → s.sen.back.buildCount = 0 →
    s.spl.grant = none →
    let contexts := s.sen.front.cost + s.sen.back.cost
    let tails := tailsCost s.spl.tails
    let u := { s with sen := { s.sen with back := { s.sen.back with state := .live } } }
    (r.kind = .faded → 1600 < contexts →
      exec .endOfPrepare s = .next (State.beginDuePass
        (let v := { u with scn := { s.scn with
           phase := .gapOut
           switch := some { r with kind := .gapped, blocksLeft := r.fade, budget := false } } }
         if r.fade = 1 then v.lastBlock else v))) ∧
    (r.kind = .faded → contexts + tails ≤ 1600 →
      exec .endOfPrepare s = .next (State.beginDuePass
        (let v := { u with scn := { s.scn with
           phase := .fade, switch := some { r with blocksLeft := r.fade, budget := false } } }
         if r.fade = 1 then v.lastBlock else v))) ∧
    (r.kind = .faded → contexts ≤ 1600 → 1600 < contexts + tails →
      ∃ v : State, exec .endOfPrepare s = .next (State.beginDuePass v) ∧
        v.scn = { s.scn with switch := some { r with budget := true, blocksLeft := 1 } } ∧
        v.sen = u.sen ∧ v.spl = { s.spl with tails := v.spl.tails } ∧
        v.spl.tails.map (·.inst) = s.spl.tails.map (·.inst) ∧
        contexts + (runningCosts v.spl.tails).sum ≤ 1600 ∧
        ∃ k, runningCosts v.spl.tails = (runningCosts s.spl.tails).drop k ∧
          ∀ j, j < k → 1600 < contexts + ((runningCosts s.spl.tails).drop j).sum) ∧
    ((r.kind = .immediate ∨ r.kind = .cut) → r.selected = true →
      exec .endOfPrepare s = .next (State.beginDuePass
        { u with scn := { s.scn with switch := some { r with commitDue := true } } })) ∧
    ((r.kind = .immediate ∨ r.kind = .cut) → r.selected = false →
      exec .endOfPrepare s = .next (State.beginDuePass (State.lastBlock
        { u with scn := { s.scn with switch := some { r with blocksLeft := 1 } } })))

/-- R13, R63, R83, R97, R105, R130: at the commit the back context is the front; the HOLD stages that the
selection kept follow the tails in chain order with the settings in force, the segments of the rest
are free again; the dirty flag is clear and the origin is the chosen slot; a preset tempo is written
unless the source is PULSE; the output level goes to the link; the requester is answered DONE or
DEGRADED; a GAPPED switch goes on in GAP_IN, any other is over.  Then the pass of the boundary
begins. -/
def Obligations.CommitExchangesTheContexts : Prop :=
  ∀ (s : State) (r : SwitchRec) (tag : Byte) (kind : Nat), s.por = false →
    s.scn.switch = some r → r.commitDue = true →
    (s.port r.ticket.port).replies[r.ticket.entry]? = some (.reserved tag kind) →
    ∃ v : State, exec .commit s = .next v.beginDuePass ∧
      v.sen = { s.sen with front := s.sen.back, back := v.sen.back } ∧
      v.sen.back.state = .empty ∧ v.sen.back.stages = [] ∧
      v.spl = { s.spl with tails := v.spl.tails, free := v.spl.free } ∧
      v.spl.tails = s.spl.tails ++
        ((s.sen.front.stages.zipIdx.filter fun x =>
          x.1.kind.mayHold && decide (x.1.spill = .hold) && !x.1.cut).map fun x =>
            ({
                inst := { x.1 with enabled := true, cut := false }
                cost := x.1.kind.cost
                originGen := s.sen.front.generation
                originIdx := x.2
                state := .running
                drainReload := s.spl.drainSetting
                drain := s.spl.drainSetting
                life := 3000 * s.spl.lifeSetting
                cutRan := false
                awaited := false } : Tail)) ∧
      v.heldSegs.Perm s.heldSegs ∧
      v.scn = { s.scn with
        dirty := false
        origin := some r.slot
        phase := if r.kind = .gapped then .gapIn else .steady
        switch := if r.kind = .gapped then
            some { r with blocksLeft := r.fade, selected := false, commitDue := false }
          else none } ∧
      v.tgn = (match r.tempo with
        | none => s.tgn
        | some b =>
          if s.tgn.source = .pulse then s.tgn
          else if s.tgn.source = .tap then
            { s.tgn with period := b, tapStamp := none, taps := [] }
          else { s.tgn with period := b }) ∧
      v.lnk = (if s.lnk.queue.length < 4 then
          { s.lnk with
            queue := s.lnk.queue ++ [{
              owner := none, tag := none, data := some s.scn.live.level, target := .primary
              index := 64, sent := false, waited := 0, fresh := false }]
            levelPending := none }
        else { s.lnk with levelPending := some s.scn.live.level }) ∧
      (let ds := r.degraded ++
         (if s.loopOpen then
            (s.sen.back.stages.zipIdx.filter fun x =>
              decide (x.1.kind = .loop) && x.1.enabled).map
                fun x => ({ index := x.2, cause := .loopOpen } : Degraded)
          else [])
       v.pif.quiet = (s.answer r.ticket (if ds = [] then .done else .degraded)
         (.recallDone r.slot s.scn.live.name s.scn.generation r.kind r.fade ds)).pif.quiet) ∧
      v.opu = s.opu ∧ v.tun = s.tun ∧ v.lib = s.lib ∧ v.pending = s.pending

/-- R94, R106, R109: GAP_IN with no block left ends the switch; a recall left pending is then taken, its
condition read on the latch word as it stands: refused EMPTY when the slot it chooses holds no record,
otherwise its switch begins with a new generation, and with enough segments free the grant is made, the
lowest numbers first (entry 8), else it waits on a reclaim.  The blocks left are those of the build, with
the wait (entry 20) and the closing block of a build of one boundary, without a budget block still to come (the
model's choice, entry 52).  That EMPTY names preset
A where there is no condition is the model's (entry 77). -/
def Obligations.SwitchEndTakesThePendingRecall : Prop :=
  (∀ (s : State) (r : SwitchRec), s.por = false → s.scn.phase = .gapIn →
    s.scn.switch = some r → r.blocksLeft = 0 →
    ∃ v : State, exec .gapInEnd s = .next v.beginDuePass ∧
      v = { s with pif := v.pif, scn := { s.scn with phase := .steady, switch := none } } ∧
      v.pif.quiet = s.pif.quiet) ∧
  (∀ (s : State) (q : PendingRecall) (slot : Nat), s.por = false → s.scn.phase = .steady →
    s.scn.switch = none → s.scn.pendingRecall = some q →
    (slot = match q.req.cond with
      | none => q.req.presetA.toNat
      | some c =>
        if s.scn.latch.getLsbD c.bit.toNat = decide (c.polarity = 1) then q.req.presetA.toNat
        else c.presetB.toNat) →
    (s.scn.library.getD slot none = none →
      exec .pendingRecallTake s = .next (State.answer
        { s with scn := { s.scn with pendingRecall := none } } q.ticket .empty
        (.recallEmpty slot (q.req.cond.any fun c =>
          s.scn.latch.getLsbD c.bit.toNat != decide (c.polarity = 1))))) ∧
    (∀ rec_ : Preset, s.scn.library.getD slot none = some rec_ →
      let m := chainDemand rec_.chain
      let n := rec_.chain.length + (m + 3) / 4
      ∃ t w, exec .pendingRecallTake s = .next t ∧ t.scn.pendingRecall = none ∧
        t.scn.phase = .prepare ∧ t.scn.live = rec_ ∧
        t.scn.generation = (if s.scn.generation = 65535#16 then 1#16
          else s.scn.generation + 1) ∧
        t.scn.latch = (match q.req.cond with
          | none => s.scn.latch
          | some c =>
            if c.toggle then s.scn.latch ^^^ (1#16 <<< c.bit.toNat) else s.scn.latch) ∧
        t.scn.switch = some w ∧ w.ticket = q.ticket ∧ w.slot = slot ∧
        t.sen.front = s.sen.front ∧ t.opu = s.opu ∧ t.lnk = s.lnk ∧ t.tgn = s.tgn ∧
        t.pif.quiet = s.pif.quiet ∧
        w.blocksLeft = (
          if s.spl.free.length < m then
            (if t.spl.tails.any (fun x => x.awaited && !x.cutRan) then n + 1 else n)
          else if n = 1 ∧ (w.kind = .immediate ∨ w.kind = .cut) then 2 else n) ∧
        (m ≤ s.spl.free.length →
          t.sen.back.granted = s.spl.free.take m ∧ t.spl.free = s.spl.free.drop m ∧
          t.spl.tails = s.spl.tails ∧ t.spl.grant = none) ∧
        (s.spl.free.length < m → t.sen.back.granted = [] ∧ t.spl.free = s.spl.free ∧
          t.spl.grant = some { demand := m, due := false } ∧
          t.spl.tails = reclaim m (s.spl.free.length + (tailSegs (s.spl.tails.filter
            fun x => decide (x.state = .cutting))).length) s.spl.tails))) ∧
  (∀ s : State, (s.scn.phase ≠ .steady ∨ s.scn.pendingRecall = none) →
    exec .pendingRecallTake s = .next s)

/-- R25, R26, R51, R87, R110, R111: a taken EDIT writes its value, clamped to the range of R24, to the
live scene record and to the stage instance that its phase and the engine state name, as a target where
the parameter glides; it sets the dirty flag and is answered with the value stored.  A stale stamp, an
index beyond the chain, a parameter the kind lacks, a reach and a MOD type other than 0 and 1 are refused
and change nothing. -/
def Obligations.EditWritesRecordAndInstance : Prop :=
  ∀ (s : State) (p : Port) (tag : Byte) (e : Nat) (r : EditReq), Takes s p tag (.edit r) e →
    (∀ g : Int, r.expected = some g → g ≠ s.scn.generation.toNat →
      exec (.edit p tag r) s = .next (s.replied p tag 2 e .stale (.stale s.scn.generation))) ∧
    ((r.expected = none ∨ r.expected = some (s.scn.generation.toNat : Int)) →
      ((r.stage < 0 ∨ (s.scn.live.chain.length : Int) ≤ r.stage) →
        exec (.edit p tag r) s = .next (s.replied p tag 2 e .stageAbsent .none)) ∧
      (∀ ent : StageEntry, 0 ≤ r.stage → s.scn.live.chain[r.stage.toNat]? = some ent →
        ((r.param < 0 ∨ ent.kind.range r.param.toNat = none ∨
            (ent.kind = .delay ∧ r.param = 0)) →
          exec (.edit p tag r) s = .next (s.replied p tag 2 e .invalid .none)) ∧
        (ent.kind = .mod → r.param = 0 → r.value ≠ 0 → r.value ≠ 1 →
          exec (.edit p tag r) s = .next (s.replied p tag 2 e .invalid .none)) ∧
        (∀ lo hi : Int, 0 ≤ r.param → ent.kind.range r.param.toNat = some (lo, hi) →
          ¬(ent.kind = .delay ∧ r.param = 0) →
          (ent.kind = .mod ∧ r.param = 0 → r.value = 0 ∨ r.value = 1) →
          let n := r.stage.toNat
          let id := r.param.toNat
          let v := max lo (min hi r.value)
          let upd : StageInst → StageInst := fun i =>
            if i.kind.glides id then { i with tgt := i.tgt.set id v }
            else { i with cur := i.cur.set id v, tgt := i.tgt.set id v }
          ∃ t st, exec (.edit p tag r) s = .next t ∧
            t.scn = { s.scn with
              dirty := true
              live := { s.scn.live with
                chain := s.scn.live.chain.set n { ent with params := ent.params.set id v } } } ∧
            t.sen =
              (if s.sen.engine = .starting ∨
                  (s.sen.engine = .run ∧ (s.scn.phase = .steady ∨ s.scn.phase = .gapIn)) then
                { s.sen with front := { s.sen.front with
                    stages := s.sen.front.stages.modify n upd } }
              else if s.sen.engine = .run then
                { s.sen with back := { s.sen.back with stages := s.sen.back.stages.modify n upd } }
              else s.sen) ∧
            t.pif.quiet = (s.replied p tag 2 e st (.edited s.scn.generation n id v)).pif.quiet ∧
            (s.scn.dirty = true →
              t.pif = (s.replied p tag 2 e st (.edited s.scn.generation n id v)).pif) ∧
            ((ent.kind = .drive → id ≠ 2) → (ent.kind = .cab → id ≠ 0) →
              (ent.kind = .delay → id ≠ 1) → st = if v = r.value then .done else .clamped) ∧
            (ent.kind = .drive → id = 2 → s.lib.curve v.toNat = none → st = .degraded) ∧
            (ent.kind = .cab → id = 0 → s.lib.impulse v.toNat = none → st = .degraded) ∧
            t.spl = s.spl ∧ t.lib = s.lib ∧ t.tgn = s.tgn ∧ t.tun = s.tun ∧ t.opu = s.opu ∧
            t.lnk = s.lnk ∧ t.pending = s.pending)))

/-- R87, R112: a taken BYPASS-STAGE writes the enabled flag to the live scene record and to the instance
of R111, sets the dirty flag, even when the flag was the same, and is answered DONE; a stale stamp is
refused STALE with the current generation and an index beyond the chain STAGE_ABSENT, changing nothing. -/
def Obligations.BypassStageWritesTheFlag : Prop :=
  ∀ (s : State) (p : Port) (tag : Byte) (e : Nat) (r : BypassReq),
    Takes s p tag (.bypassStage r) e →
    (∀ g : Int, r.expected = some g → g ≠ s.scn.generation.toNat →
      exec (.bypassStage p tag r) s =
        .next (s.replied p tag 3 e .stale (.stale s.scn.generation))) ∧
    ((r.expected = none ∨ r.expected = some (s.scn.generation.toNat : Int)) →
      ((r.stage < 0 ∨ (s.scn.live.chain.length : Int) ≤ r.stage) →
        exec (.bypassStage p tag r) s = .next (s.replied p tag 3 e .stageAbsent .none)) ∧
      (∀ ent : StageEntry, 0 ≤ r.stage → s.scn.live.chain[r.stage.toNat]? = some ent →
        let n := r.stage.toNat
        let upd : StageInst → StageInst := fun i => { i with enabled := r.enabled }
        ∃ t, exec (.bypassStage p tag r) s = .next t ∧
          t.scn = { s.scn with
            dirty := true
            live := { s.scn.live with
              chain := s.scn.live.chain.set n { ent with enabled := r.enabled } } } ∧
          t.sen =
            (if s.sen.engine = .starting ∨
                (s.sen.engine = .run ∧ (s.scn.phase = .steady ∨ s.scn.phase = .gapIn)) then
              { s.sen with front := { s.sen.front with
                  stages := s.sen.front.stages.modify n upd } }
            else if s.sen.engine = .run then
              { s.sen with back := { s.sen.back with
                  stages := s.sen.back.stages.modify n upd } }
            else s.sen) ∧
          t.pif.quiet = (s.replied p tag 3 e .done
            (.bypassed s.scn.generation n r.enabled)).pif.quiet ∧
          t.spl = s.spl ∧ t.lib = s.lib ∧ t.tgn = s.tgn ∧ t.tun = s.tun ∧ t.opu = s.opu ∧
          t.lnk = s.lnk ∧ t.pending = s.pending))

/-- R91, R92, R185: a LATCH sets, clears and then toggles the sixteen bits; it is answered with the word
after the change, marks the aux output word valid, and raises a LATCH notice only when the word
changed. -/
def Obligations.LatchAppliesItsMasks : Prop :=
  ∀ (s : State) (p : Port) (tag : Byte) (e : Nat) (r : LatchReq), Takes s p tag (.latch r) e →
    ∃ t, exec (.latch p tag r) s = .next t ∧
      t.scn = { s.scn with latch := t.scn.latch } ∧
      (∀ i, i < 16 → t.scn.latch.getLsbD i =
        (((s.scn.latch.getLsbD i || r.set.getLsbD i) && !r.clear.getLsbD i) ^^
          r.toggle.getLsbD i)) ∧
      t.lnk = { s.lnk with auxValid := true } ∧
      t.pif.quiet = (s.replied p tag 8 e .done (.latched t.scn.latch)).pif.quiet ∧
      (t.scn.latch = s.scn.latch → s.lnk.auxValid = true →
        t.pif = (s.replied p tag 8 e .done (.latched t.scn.latch)).pif) ∧
      (t.scn.latch ≠ s.scn.latch → s.lnk.auxValid = true →
        t.pif = (s.replied p tag 8 e .done (.latched t.scn.latch)).pif.raise
          (.latch t.scn.latch p)) ∧
      t.sen = s.sen ∧ t.spl = s.spl ∧ t.lib = s.lib ∧ t.tgn = s.tgn ∧ t.tun = s.tun ∧
      t.opu = s.opu ∧ t.pending = s.pending

/-! ### The preset library and the shape library -/

/-- R75, R76, R77: a taken WRITE-PRESET that fails a check of R75 is refused INVALID with its reason: slot,
name and stage count first, then entry by entry the kind, the parameter count, the spill, the sync
division and the MOD type, with the index of the first entry that fails, and last a second LOOP, with its
index; one over the cost or the segment limit OVER_BUDGET or OVER_MEMORY, and nothing else changes; otherwise the
slot holds the record as clamped, which satisfies R73, and no other slot changes.  The clamp of the
output level and its mark are the model's (entry 11), as is the reading of a spill code (entry 12). -/
def Obligations.WritePresetStoresAValidRecord : Prop :=
  ∀ (s : State) (p : Port) (tag : Byte) (e : Nat) (r : WritePresetReq),
    Takes s p tag (.writePreset r) e →
    let q := storedPreset r
    let cost := chainCost q.chain
    let demand := chainDemand q.chain
    (∀ (reason : PresetReason) (n : Option Nat), presetFault r = some (reason, n) →
      exec (.writePreset p tag r) s =
        .next (s.replied p tag 5 e .invalid (.presetInvalid reason n))) ∧
    ((r.slot < 0 ∨ 127 < r.slot) → presetFault r = some (.slot, none)) ∧
    (0 ≤ r.slot → r.slot ≤ 127 → nameOk r.name = false → presetFault r = some (.name, none)) ∧
    (0 ≤ r.slot → r.slot ≤ 127 → nameOk r.name = true →
      (r.entries = [] ∨ 10 < r.entries.length) → presetFault r = some (.stageCount, none)) ∧
    (0 ≤ r.slot → r.slot ≤ 127 → nameOk r.name = true → 1 ≤ r.entries.length →
      r.entries.length ≤ 10 →
      let fails : EntryReq → Option PresetReason := fun x =>
        match kindOfCode x.kind with
        | none => some .kind
        | some k =>
          if x.params.length ≠ k.paramCount then some .paramCount
          else if ¬(x.spill = 0 ∨ (x.spill = 1 ∧ (k = .delay ∨ k = .reverb))) then some .spill
          else if (x.sync.any fun c => !decide ((k = .delay ∨ k = .mod) ∧ c ≤ 9)) = true then
            some .sync
          else if k = .mod ∧ x.params.getD 0 0 ≠ 0 ∧ x.params.getD 0 0 ≠ 1 then some .type
          else none
      let isLoop : Nat → Prop := fun n =>
        ∃ x, r.entries[n]? = some x ∧ kindOfCode x.kind = some .loop
      (∀ (n : Nat) (x : EntryReq) (reason : PresetReason), r.entries[n]? = some x →
        fails x = some reason →
        (∀ (j : Nat) (y : EntryReq), j < n → r.entries[j]? = some y → fails y = none) →
        presetFault r = some (reason, some n)) ∧
      ((∀ x ∈ r.entries, fails x = none) →
        (∀ a n : Nat, a < n → isLoop a → isLoop n → (∀ b, b < n → isLoop b → b = a) →
          presetFault r = some (.loopCount, some n)) ∧
        ((∀ a b : Nat, isLoop a → isLoop b → a = b) → presetFault r = none))) ∧
    (presetFault r = none →
      (1200 < cost → exec (.writePreset p tag r) s =
        .next (s.replied p tag 5 e .overBudget (.overBudget cost))) ∧
      (cost ≤ 1200 → 24 < demand → exec (.writePreset p tag r) s =
        .next (s.replied p tag 5 e .overMemory (.overMemory demand))) ∧
      (cost ≤ 1200 → demand ≤ 24 →
        q.ok = true ∧ q.name = r.name ∧ q.chain.length = r.entries.length ∧
        (∀ (n : Nat) (x : EntryReq), r.entries[n]? = some x →
          ∃ y, q.chain[n]? = some y ∧ kindOfCode x.kind = some y.kind ∧
            y.enabled = x.enabled ∧ y.sync = x.sync ∧ (y.spill = .hold ↔ x.spill = 1) ∧
            ∀ (id : Nat) (v lo hi : Int), x.params[id]? = some v →
              y.kind.range id = some (lo, hi) → y.params[id]? = some (max lo (min hi v))) ∧
        exec (.writePreset p tag r) s = .next
          { s.replied p tag 5 e (if clampMarks r = [] then .done else .clamped)
              (.presetWritten r.slot.toNat cost demand (clampMarks r)) with
            scn := { s.scn with library := s.scn.library.set r.slot.toNat (some q) } }))

/-- R72, R79, R80, R81: a slot number outside 0 to 127 is refused INVALID; READ-PRESET reports the slot's
record and changes nothing; ERASE-PRESET makes the slot EMPTY; STORE, in STEADY only, copies the live
scene record into the slot, makes it the origin, clears the dirty flag and raises one SCENE notice.  That
STORE follows R81 where R78 says otherwise, and names SLOT where the name fails too, is the model's
(entries 67 and 70). -/
def Obligations.PresetReadEraseStore : Prop :=
  ∀ (s : State) (p : Port) (tag : Byte) (e : Nat),
    (∀ r : ReadPresetReq, Takes s p tag (.readPreset r) e →
      ((r.slot < 0 ∨ 127 < r.slot) →
        exec (.readPreset p tag r) s = .next (s.replied p tag 6 e .invalid .none)) ∧
      (0 ≤ r.slot → r.slot ≤ 127 →
        (s.scn.library.getD r.slot.toNat none = none →
          exec (.readPreset p tag r) s = .next (s.replied p tag 6 e .empty .none)) ∧
        (∀ q : Preset, s.scn.library.getD r.slot.toNat none = some q →
          exec (.readPreset p tag r) s = .next (s.replied p tag 6 e .done
            (.presetRead q (chainCost q.chain) (chainDemand q.chain)))))) ∧
    (∀ r : ErasePresetReq, Takes s p tag (.erasePreset r) e →
      ((r.slot < 0 ∨ 127 < r.slot) →
        exec (.erasePreset p tag r) s = .next (s.replied p tag 7 e .invalid .none)) ∧
      (0 ≤ r.slot → r.slot ≤ 127 →
        exec (.erasePreset p tag r) s = .next
          { s.replied p tag 7 e .done
              (.erased (s.scn.library.getD r.slot.toNat none).isSome) with
            scn := { s.scn with library := s.scn.library.set r.slot.toNat none } })) ∧
    (∀ r : StoreReq, Takes s p tag (.store r) e →
      ((r.slot < 0 ∨ 127 < r.slot) → exec (.store p tag r) s =
        .next (s.replied p tag 4 e .invalid (.presetInvalid .slot none))) ∧
      (0 ≤ r.slot → r.slot ≤ 127 →
        (∀ n : List Byte, r.name = some n → nameOk n = false → exec (.store p tag r) s =
          .next (s.replied p tag 4 e .invalid (.presetInvalid .name none))) ∧
        ((∀ n : List Byte, r.name = some n → nameOk n = true) →
          (s.scn.phase ≠ .steady → exec (.store p tag r) s =
            .next (s.replied p tag 4 e .busy .none)) ∧
          (s.scn.phase = .steady →
            let q : Preset := { s.scn.live with name := r.name.getD s.scn.live.name }
            let n := r.slot.toNat
            let u := s.replied p tag 4 e .done
              (.stored n q.name (chainCost q.chain) (chainDemand q.chain))
            exec (.store p tag r) s = .next
              { u with
                pif := u.pif.raise (.scene {
                  event := .store, generation := s.scn.generation, phase := .steady
                  origin := some n, dirty := false, name := q.name, port := some p
                  slot := none, kind := none, phaseThen := none })
                scn := { s.scn with
                  live := q, origin := some n, dirty := false
                  library := s.scn.library.set n (some q) } }))))

/-- R49, R50: WRITE-CURVE and WRITE-IMPULSE load the slot they name whole with a list of the right
length, and are refused INVALID for another slot, BAD_REQUEST for another length. -/
def Obligations.ShapeLibraryWrites : Prop :=
  ∀ (s : State) (p : Port) (tag : Byte) (e : Nat),
    (∀ r : WriteCurveReq, Takes s p tag (.writeCurve r) e →
      ((r.slot < 1 ∨ 7 < r.slot) →
        exec (.writeCurve p tag r) s = .next (s.replied p tag 11 e .invalid .none)) ∧
      (1 ≤ r.slot → r.slot ≤ 7 →
        (r.points.length ≠ 257 → ∃ f, exec (.writeCurve p tag r) s =
          .next (s.replied p tag 11 e .badRequest f)) ∧
        (r.points.length = 257 → ∃ t, exec (.writeCurve p tag r) s = .next t ∧
          t = { s.replied p tag 11 e .done .none with
            lib := { s.lib with curves := s.lib.curves.set (r.slot.toNat - 1) (some r.points) } } ∧
          (s.lib.curves.length = 7 → t.lib.curve r.slot.toNat = some r.points ∧
            ∀ n, n ≠ r.slot.toNat → t.lib.curve n = s.lib.curve n)))) ∧
    (∀ r : WriteImpulseReq, Takes s p tag (.writeImpulse r) e →
      ((r.slot < 1 ∨ 3 < r.slot) →
        exec (.writeImpulse p tag r) s = .next (s.replied p tag 12 e .invalid .none)) ∧
      (1 ≤ r.slot → r.slot ≤ 3 →
        (r.taps.length ≠ 256 → ∃ f, exec (.writeImpulse p tag r) s =
          .next (s.replied p tag 12 e .badRequest f)) ∧
        (r.taps.length = 256 → ∃ t, exec (.writeImpulse p tag r) s = .next t ∧
          t = { s.replied p tag 12 e .done .none with
            lib := { s.lib with impulses := s.lib.impulses.set (r.slot.toNat - 1) (some r.taps) } } ∧
          (s.lib.impulses.length = 3 → t.lib.impulse r.slot.toNat = some r.taps ∧
            ∀ n, n ≠ r.slot.toNat → t.lib.impulse n = s.lib.impulse n))))

/-! ### Settings and readings -/

/-- R70, R84, R148, R164: the four requests that set settings give each field present the value carried,
clamped to its range, keep each field absent, and answer CLAMPED when a value was clamped; a choice
that is none of those named refuses the whole INVALID.  The cut option makes every RUNNING tail
CUTTING; a changed monitor mode or limit returns the elapsed time to zero; a changed K empties the
series and a changed reference rebuilds the note table.  Nothing else changes. -/
def Obligations.SettingsRequestsClamp : Prop :=
  ∀ (s : State) (p : Port) (tag : Byte) (e : Nat),
    (∀ r : SceneOptionsReq, Takes s p tag (.setSceneOptions r) e →
      let safe := match r.safe with
        | some v => (max 0 (min 127 v)).toNat
        | none => s.scn.safeIdx
      let fade := match r.fade with
        | some v => (max 0 (min 255 v)).toNat
        | none => s.scn.defaultFade
      exec (.setSceneOptions p tag r) s = .next
        { s.replied p tag 10 e
            (if (∃ v, r.safe = some v ∧ (v < 0 ∨ 127 < v)) ∨
                (∃ v, r.fade = some v ∧ (v < 0 ∨ 255 < v)) then .clamped else .done)
            (.sceneOptions safe fade) with
          scn := { s.scn with safeIdx := safe, defaultFade := fade } }) ∧
    (∀ r : SetTailsReq, Takes s p tag (.setTails r) e →
      let drain := match r.drain with
        | some v => (max 1 (min 255 v)).toNat
        | none => s.spl.drainSetting
      let life := match r.life with
        | some v => (max 1 (min 60 v)).toNat
        | none => s.spl.lifeSetting
      let tails := s.spl.tails.map fun x =>
        if r.cut = some true ∧ x.state = .running then
          { x with state := .cutting, cutRan := false } else x
      exec (.setTails p tag r) s = .next
        { s.replied p tag 14 e
            (if (∃ v, r.drain = some v ∧ (v < 1 ∨ 255 < v)) ∨
                (∃ v, r.life = some v ∧ (v < 1 ∨ 60 < v)) then .clamped else .done)
            (.tails drain life (tails.map fun x =>
              ({
                  kind := x.inst.kind, state := x.state, cost := x.cost
                  segments := x.inst.segs.length, drain := x.drain, life := x.life
                  originGen := x.originGen, originIdx := x.originIdx } : TailReport))) with
          spl := { s.spl with drainSetting := drain, lifeSetting := life, tails := tails } }) ∧
    (∀ r : ProtectionReq, Takes s p tag (.setProtection r) e →
      (((∃ v, r.mode = some v ∧ (v < 0 ∨ 2 < v)) ∨ (∃ v, r.policy = some v ∧ (v < 0 ∨ 1 < v))) →
        exec (.setProtection p tag r) s = .next (s.replied p tag 27 e .invalid .none)) ∧
      ((∀ v, r.mode = some v → 0 ≤ v ∧ v ≤ 2) → (∀ v, r.policy = some v → 0 ≤ v ∧ v ≤ 1) →
        let mode := match r.mode with
          | none => s.opu.monMode
          | some 0 => .off
          | some 1 => .report
          | some _ => .failover
        let policy := match r.policy with
          | none => s.opu.policy
          | some 0 => .bypass
          | some _ => .hold
        let limit := match r.limit with
          | some v => (max 0 (min 7 v)).toNat
          | none => s.opu.limit
        exec (.setProtection p tag r) s = .next
          { s.replied p tag 27 e
              (if ∃ v, r.limit = some v ∧ (v < 0 ∨ 7 < v) then .clamped else .done)
              (.protection mode limit policy) with
            opu := { s.opu with
              monMode := mode, limit := limit, policy := policy
              elapsed := if mode = s.opu.monMode ∧ limit = s.opu.limit then s.opu.elapsed else 0 } })) ∧
    (∀ r : TunerSetReq, Takes s p tag (.tunerSet r) e →
      ((∃ v, r.k = some v ∧ v ≠ 4 ∧ v ≠ 8 ∧ v ≠ 16) →
        exec (.tunerSet p tag r) s = .next (s.replied p tag 20 e .invalid .none)) ∧
      ((∀ v, r.k = some v → v = 4 ∨ v = 8 ∨ v = 16) →
        let ref := match r.reference with
          | some v => (max 4000 (min 4800 v)).toNat
          | none => s.tun.reference
        let k := match r.k with
          | some v => v.toNat
          | none => s.tun.k
        let fl := match r.floor with
          | some v => (max 64 (min 1048576 v)).toNat
          | none => s.tun.floor
        exec (.tunerSet p tag r) s = .next
          { s.replied p tag 20 e
              (if (∃ v, r.reference = some v ∧ (v < 4000 ∨ 4800 < v)) ∨
                  (∃ v, r.floor = some v ∧ (v < 64 ∨ 1048576 < v)) then .clamped else .done)
              (.tunerSettings ref k fl) with
            tun := { s.tun with
              reference := ref, k := k, floor := fl
              table := if ref = s.tun.reference then s.tun.table else noteTable ref
              series := if k = s.tun.k then s.tun.series else [] } }))

/-- R23, R89, R133, R149, R160, R186, R198: the read requests are answered DONE at once with the items
their rules list, as they stand at the take, and change nothing else; METERS with clear also clears
the peak, CLIP and SAT_IN of every stage and tail, and the summary clip. -/
def Obligations.ReadRequestsReportAndChangeNothing : Prop :=
  ∀ (s : State) (p : Port) (tag : Byte) (e : Nat),
    (Takes s p tag .sceneRead e → exec (.sceneRead p tag) s = .next (s.replied p tag 9 e .done
      (.scene {
        live := s.scn.live, cost := chainCost s.scn.live.chain
        demand := chainDemand s.scn.live.chain, generation := s.scn.generation
        dirty := s.scn.dirty, origin := s.scn.origin, phase := s.scn.phase
        switch := s.scn.switch.map fun w =>
          { slot := w.slot, fade := w.fade, kind := w.kind, blocksLeft := w.blocksLeft }
        pending := s.scn.pendingRecall.map fun q => q.ticket.port
        latch := s.scn.latch, frontGeneration := s.sen.front.generation }))) ∧
    (Takes s p tag .tempoRead e → exec (.tempoRead p tag) s = .next (s.replied p tag 18 e .done
      (.tempo {
        source := s.tgn.source, pulse := s.tgn.pulse, edge := s.tgn.edge, n := s.tgn.n
        pulseCount := s.tgn.pulseCount, period := s.tgn.period, inForce := s.tgn.inForce
        counter := s.tgn.counter, age := s.tgn.age, beatCount := s.tgn.beatCount
        lamp := s.tgn.lamp, tapStamp := s.tgn.tapStamp, taps := s.tgn.taps
        frameCount := s.tgn.frameCount }))) ∧
    (∀ r : TunerReadReq, Takes s p tag (.tunerRead r) e →
      ((∃ v, r.note = some v ∧ (v < 0 ∨ 71 < v)) →
        exec (.tunerRead p tag r) s = .next (s.replied p tag 21 e .invalid .none)) ∧
      ((∀ v, r.note = some v → 0 ≤ v ∧ v ≤ 71) →
        exec (.tunerRead p tag r) s = .next (s.replied p tag 21 e .done (.tuner {
          mode := s.tun.mode, state := s.tun.state, reference := s.tun.reference, k := s.tun.k
          floor := s.tun.floor, reading := s.tun.reading, readingCount := s.tun.readingCount
          seriesLen := s.tun.series.length, sinceReading := s.tun.sinceReading
          flat := s.tun.flatLamp, inTune := s.tun.inTuneLamp, sharp := s.tun.sharpLamp
          entry := r.note.map fun v => s.tun.table.getD v.toNat 0 })))) ∧
    (Takes s p tag .faultRead e → exec (.faultRead p tag) s = .next (s.replied p tag 24 e .done
      (.fault {
        fault := s.opu.fault, lastFault := s.opu.lastFault, reasons := s.opu.reasons
        gain := s.opu.gain, gainState := s.opu.gainState, relay := s.opu.relay
        move := s.opu.move, policy := s.opu.policy, monMode := s.opu.monMode
        limit := s.opu.limit, elapsed := s.opu.elapsed, failover := s.opu.failover }))) ∧
    (Takes s p tag .auxRead e → exec (.auxRead p tag) s = .next (s.replied p tag 33 e .done
      (.aux {
        auxIn := s.lnk.auxIn, primary := s.lnk.primary, secondary := s.lnk.secondary
        link := s.lnk.state, auxOut := s.auxOut, auxValid := s.lnk.auxValid }))) ∧
    (Takes s p tag .identify e → ∃ n, exec (.identify p tag) s = .next
        (s.replied p tag 35 e .done (.identity {
          port := p, restartCount := s.pif.restartCount, lastStart := s.pif.lastStart
          queued := (s.port p).requests.length - 1, free := n })) ∧
      n + 1 = ((s.port p).replies.filter fun x => decide (x = .free)).length) ∧
    (∀ r : MetersReq, Takes s p tag (.meters r) e →
      ∃ t m, exec (.meters p tag r) s = .next t ∧
        t.pif = (s.replied p tag 13 e .done (.meters m)).pif ∧
        m.engine = s.sen.engine ∧ m.bypassHold = s.sen.bypassHold ∧
        m.blockCount = s.sen.blockCount ∧ m.load = s.sen.lastLoad ∧
        m.summaryClip = s.sen.summaryClip ∧ m.frontGeneration = s.sen.front.generation ∧
        (s.sen.front.state ≠ .live → m.records = []) ∧
        (s.sen.front.state = .live →
          m.records = s.sen.front.stages.zipIdx.map fun x =>
            ({ index := x.2, kind := x.1.kind, status := x.1.status } : MeterEntry)) ∧
        (r.clear = false → t = { s with pif := t.pif }) ∧
        (r.clear = true →
          let cl : StageInst → StageInst := fun i =>
            { i with status := { i.status with peak := 0, clip := false, satIn := false } }
          t = { s with
            pif := t.pif
            sen := { s.sen with
              front := { s.sen.front with stages := s.sen.front.stages.map cl }
              back := { s.sen.back with stages := s.sen.back.stages.map cl }
              summaryClip := false }
            spl := { s.spl with
              tails := s.spl.tails.map fun x => { x with inst := cl x.inst } } }))

/-! ### Tempo -/

/-- R121: TEMPO-SET is refused under PULSE; otherwise the period register takes the value, clamped, the
tap series is emptied under TAP, and with the restart flag a beat event with cause RESTART follows at
once, while without it the beat under way runs on.  That the BEAT notice comes before the TEMPO notice is
the model's (entry 23), and so is the period in force that the TEMPO notice of a restart shows, the one the
beat has loaded (entry 69). -/
def Obligations.TempoSetWritesThePeriod : Prop :=
  ∀ (s : State) (p : Port) (tag : Byte) (e : Nat) (r : TempoSetReq),
    Takes s p tag (.tempoSet r) e →
    (s.tgn.source = .pulse →
      exec (.tempoSet p tag r) s = .next (s.replied p tag 16 e .wrongState .none)) ∧
    (s.tgn.source ≠ .pulse →
      let v := (max 12000 (min 144000 r.period)).toNat
      let st : Status := if r.period < 12000 ∨ 144000 < r.period then .clamped else .done
      let g : Tgn := { s.tgn with
        period := v
        tapStamp := if s.tgn.source = .tap then none else s.tgn.tapStamp
        taps := if s.tgn.source = .tap then [] else s.tgn.taps }
      ∃ t, exec (.tempoSet p tag r) s = .next t ∧
        t.tgn = (if r.restart then
            { g with
              counter := v, inForce := v, beatCount := g.beatCount + 1, age := 0, lamp := true }
          else g) ∧
        t.pif.quiet = (s.replied p tag 16 e st
          (.tempoSet v (if r.restart then v else s.tgn.inForce) s.tgn.source)).pif.quiet ∧
        (r.restart = false → t = { s with pif := t.pif, tgn := t.tgn }) ∧
        (r.restart = false → v = s.tgn.period →
          t.pif = (s.replied p tag 16 e st (.tempoSet v s.tgn.inForce s.tgn.source)).pif) ∧
        (r.restart = false → v ≠ s.tgn.period →
          t.pif = (s.replied p tag 16 e st (.tempoSet v s.tgn.inForce s.tgn.source)).pif.raise
            (.tempo {
              write := some .tempoSet, sourceTaken := false, pulseChanged := false
              port := some p, clamped := false, source := s.tgn.source, pulse := s.tgn.pulse
              edge := s.tgn.edge, n := s.tgn.n, period := v, inForce := s.tgn.inForce })) ∧
        (r.restart = true → t = s.afterBeat t.pif t.tgn v ∧
          t.pif = (
            let f := (s.replied p tag 16 e st (.tempoSet v v s.tgn.source)).pif.raise (.beat {
              count := s.tgn.beatCount + 1, inForce := v, cause := .restart
              source := s.tgn.source, pulse := s.tgn.pulse })
            if v = s.tgn.period then f
            else f.raise (.tempo {
              write := some .tempoSet, sourceTaken := false, pulseChanged := false
              port := some p, clamped := false, source := s.tgn.source, pulse := s.tgn.pulse
              edge := s.tgn.edge, n := s.tgn.n, period := v, inForce := v }))))

/-- R122: TEMPO-SOURCE refuses a source or an edge other than the three; otherwise the source is taken,
the tap series, the pulse count and the pulse stamp are emptied, PULSE begins in WAITING, N is clamped,
and the period register and the lamp stand; a beat that FOLLOWING held back occurs at once, in every link
state (entry 53).  What the TEMPO notice names beside the source taken is the model's (entry 35). -/
def Obligations.TempoSourceSelects : Prop :=
  ∀ (s : State) (p : Port) (tag : Byte) (e : Nat) (r : TempoSourceReq),
    Takes s p tag (.tempoSource r) e →
    ((r.source < 0 ∨ 2 < r.source ∨ ∃ v, r.edge = some v ∧ (v < 0 ∨ 2 < v)) →
      exec (.tempoSource p tag r) s = .next (s.replied p tag 15 e .invalid .none)) ∧
    (0 ≤ r.source → r.source ≤ 2 → (∀ v, r.edge = some v → 0 ≤ v ∧ v ≤ 2) →
      let src : TempoSource :=
        if r.source = 0 then .internal else if r.source = 1 then .tap else .pulse
      let edge : PulseEdge := match r.edge with
        | none => s.tgn.edge
        | some 0 => .rising
        | some 1 => .falling
        | some _ => .both
      let n := match r.n with
        | some v => (max 1 (min 96 v)).toNat
        | none => s.tgn.n
      let pulse := if r.source = 2 then some PulseState.waiting else none
      let g : Tgn := { s.tgn with
        source := src, pulse := pulse, edge := edge, n := n, pulseCount := 0
        pulseStamp := none, tapStamp := none, taps := [] }
      ∃ t, exec (.tempoSource p tag r) s = .next t ∧
        t.tgn = (if s.tgn.pulse = some .following ∧ s.tgn.counter = 0 then
            { g with
              counter := s.tgn.period, inForce := s.tgn.period
              beatCount := s.tgn.beatCount + 1, age := 0, lamp := true }
          else g) ∧
        t.pif.quiet = (s.replied p tag 15 e
          (if ∃ v, r.n = some v ∧ (v < 1 ∨ 96 < v) then .clamped else .done)
          (.tempoSource src pulse edge n)).pif.quiet ∧
        (s.tgn.pulse = some .following ∧ s.tgn.counter = 0 →
          t = s.afterBeat t.pif t.tgn s.tgn.period) ∧
        (¬(s.tgn.pulse = some .following ∧ s.tgn.counter = 0) →
          t = { s with pif := t.pif, tgn := t.tgn } ∧
          t.pif = (s.replied p tag 15 e
            (if ∃ v, r.n = some v ∧ (v < 1 ∨ 96 < v) then .clamped else .done)
            (.tempoSource src pulse edge n)).pif.raise (.tempo {
              write := none, sourceTaken := true, pulseChanged := false, port := none
              clamped := false, source := src, pulse := pulse, edge := edge, n := n
              period := s.tgn.period, inForce := s.tgn.inForce })))

/-- R123, R124: a tap under source TAP with the link RUNNING; its interval from the stamp before it
decides between a valid tap, which writes the rounded mean of the last four intervals and makes a
beat, and a new series.  That another source is answered WRONG_STATE also with the link not RUNNING is the
model's (entry 70). -/
def Obligations.TapsAreAveraged : Prop :=
  ∀ (s : State) (p : Port) (tag : Byte) (e : Nat), Takes s p tag .tap e →
    (s.tgn.source ≠ .tap →
      exec (.tap p tag) s = .next (s.replied p tag 17 e .wrongState .none)) ∧
    (s.tgn.source = .tap → s.lnk.state ≠ .running →
      exec (.tap p tag) s = .next (s.replied p tag 17 e .notReady .none)) ∧
    (s.tgn.source = .tap → s.lnk.state = .running →
      let now := s.tgn.frameCount
      (s.tgn.tapStamp = none →
        exec (.tap p tag) s = .next
          { s.replied p tag 17 e .done (.tapped .first none 0 s.tgn.period) with
            tgn := { s.tgn with tapStamp := some now, taps := [] } }) ∧
      (∀ last : Word32, s.tgn.tapStamp = some last →
        let i := (now - last).toNat
        ((i < 12000 ∨ 144000 < i) →
          exec (.tap p tag) s = .next
            { s.replied p tag 17 e .done (.tapped .restarted (some i) 0 s.tgn.period) with
              tgn := { s.tgn with tapStamp := some now, taps := [] } }) ∧
        (12000 ≤ i → i ≤ 144000 → s.tgn.taps.length ≤ 4 →
          let xs := (if s.tgn.taps.length = 4 then s.tgn.taps.drop 1 else s.tgn.taps) ++ [i]
          let v := (2 * xs.sum + xs.length) / (2 * xs.length)
          ∃ t, exec (.tap p tag) s = .next t ∧
            t.tgn = { s.tgn with
              tapStamp := some now, taps := xs, period := v, counter := v, inForce := v
              beatCount := s.tgn.beatCount + 1, age := 0, lamp := true } ∧
            t.pif.quiet = (s.replied p tag 17 e .done
              (.tapped .valid (some i) xs.length v)).pif.quiet ∧
            ((∀ x ∈ s.tgn.taps, 12000 ≤ x ∧ x ≤ 144000) → 12000 ≤ v ∧ v ≤ 144000) ∧
            t = s.afterBeat t.pif t.tgn v)))

/-- R117, R118, R119, R124, R128: a beat event reloads the counter and the period in force from the
register, counts the beat, lights the lamp, hands the period to the synced stages and raises one BEAT
notice.  With the link RUNNING the counter at 0 makes a beat with cause COUNTER unless FOLLOWING waits for
its pulse; the lamp goes off when the counter has come down to the off compare; a tap series older than
144,000 frames is emptied.  With the link not RUNNING none of these happens, and no pulse is lost. -/
def Obligations.BeatsReloadTheCounter : Prop :=
  (∀ (s : State) (c : BeatCause),
    s.beatEvent c = s.afterBeat
      (s.pif.raise (.beat {
        count := s.tgn.beatCount + 1, inForce := s.tgn.period, cause := c
        source := s.tgn.source, pulse := s.tgn.pulse }))
      { s.tgn with
        counter := s.tgn.period, inForce := s.tgn.period, beatCount := s.tgn.beatCount + 1
        age := 0, lamp := true }
      s.tgn.period) ∧
  (∀ s : State, s.por = false → s.lnk.state = .running →
    (s.tgn.counter = 0 → s.tgn.pulse ≠ some .following →
      exec .beatCounterUnderflow s = .next (s.beatEvent .counter)) ∧
    ((s.tgn.counter ≠ 0 ∨ s.tgn.pulse = some .following) →
      exec .beatCounterUnderflow s = .next s) ∧
    (s.tgn.lamp = true → s.tgn.counter ≤ s.tgn.inForce - s.tgn.inForce / 4 →
      exec .beatLampOff s = .next { s with tgn := { s.tgn with lamp := false } }) ∧
    ((s.tgn.lamp = false ∨ s.tgn.inForce - s.tgn.inForce / 4 < s.tgn.counter) →
      exec .beatLampOff s = .next s) ∧
    (∀ last : Word32, s.tgn.source = .tap → s.tgn.tapStamp = some last →
      (144000 < (s.tgn.frameCount - last).toNat →
        exec .tapTimeout s = .next { s with tgn := { s.tgn with tapStamp := none, taps := [] } }) ∧
      ((s.tgn.frameCount - last).toNat ≤ 144000 → exec .tapTimeout s = .next s)) ∧
    ((s.tgn.source ≠ .tap ∨ s.tgn.tapStamp = none) → exec .tapTimeout s = .next s)) ∧
  (∀ s : State, s.lnk.state ≠ .running →
    exec .beatCounterUnderflow s = .next s ∧ exec .beatLampOff s = .next s ∧
    exec .tapTimeout s = .next s ∧ exec .pulseLost s = .next s)

/-- R125, R126, R127: edges count only in RUNNING, under PULSE and in the direction chosen; the first of
WAITING makes a beat and FOLLOWING, every N-th of FOLLOWING a beat whose length is the interval
measured, clamped; the first of HOLDING leads back to WAITING; a pulse missing for twice the period,
with the link RUNNING, leads to HOLDING. -/
def Obligations.PulseEdgesMakeBeats : Prop :=
  (∀ (s : State) (d : EdgeDir), s.por = false →
    ((s.lnk.state ≠ .running ∨ s.tgn.pulse = none ∨ (s.tgn.edge = .rising ∧ d = .falling) ∨
        (s.tgn.edge = .falling ∧ d = .rising)) → exec (.pulseEdge d) s = .next s) ∧
    (s.lnk.state = .running → s.tgn.edge = .both ∨ (s.tgn.edge = .rising ∧ d = .rising) ∨
        (s.tgn.edge = .falling ∧ d = .falling) →
      (s.tgn.pulse = some .waiting →
        ∃ t, exec (.pulseEdge d) s = .next t ∧
          t.tgn = { s.tgn with
            pulse := some .following, pulseStamp := some s.tgn.frameCount, pulseCount := 0
            counter := s.tgn.period, inForce := s.tgn.period
            beatCount := s.tgn.beatCount + 1, age := 0, lamp := true } ∧
          t.pif.quiet = s.pif.quiet ∧ t = s.afterBeat t.pif t.tgn s.tgn.period) ∧
      (s.tgn.pulse = some .following → s.tgn.pulseCount + 1 < s.tgn.n →
        exec (.pulseEdge d) s = .next
          { s with tgn := { s.tgn with pulseCount := s.tgn.pulseCount + 1 } }) ∧
      (∀ last : Word32, s.tgn.pulse = some .following → s.tgn.n ≤ s.tgn.pulseCount + 1 →
        s.tgn.pulseStamp = some last →
        let v := max 12000 (min 144000 (s.tgn.frameCount - last).toNat)
        ∃ t, exec (.pulseEdge d) s = .next t ∧
          t.tgn = { s.tgn with
            pulseStamp := some s.tgn.frameCount, pulseCount := 0, period := v, counter := v
            inForce := v, beatCount := s.tgn.beatCount + 1, age := 0, lamp := true } ∧
          t.pif.quiet = s.pif.quiet ∧ t = s.afterBeat t.pif t.tgn v) ∧
      (s.tgn.pulse = some .holding →
        ∃ t, exec (.pulseEdge d) s = .next t ∧
          t.tgn = { s.tgn with pulse := some .waiting, pulseCount := 0 } ∧
          t = { s with pif := t.pif, tgn := t.tgn } ∧ t.pif.quiet = s.pif.quiet))) ∧
  (∀ s : State, s.por = false →
    (s.lnk.state = .running → s.tgn.pulse = some .following → 2 * s.tgn.period ≤ s.tgn.age →
      ∃ t, exec .pulseLost s = .next t ∧
        t.tgn = { s.tgn with
          pulse := some .holding, pulseCount := 0, counter := s.tgn.period
          inForce := s.tgn.period, beatCount := s.tgn.beatCount + 1, age := 0, lamp := true } ∧
        t.pif.quiet = s.pif.quiet ∧ t = s.afterBeat t.pif t.tgn s.tgn.period) ∧
    ((s.lnk.state ≠ .running ∨ s.tgn.pulse ≠ some .following ∨ s.tgn.age < 2 * s.tgn.period) →
      exec .pulseLost s = .next s))

/-! ### The tuner -/

/-- R143: a mean period outside the table is OUT_OF_RANGE; inside it a strictly falling table gives a
note from 0 to 71 and cents from −49 to 50, an entry itself its own note with 0 cents, and every step
of the rule's arithmetic.  R142: the note table of every reference from 4,000 to 4,800 is such a table, its
entries computed with one rounding. -/
def Obligations.JudgePeriodRange : Prop :=
  (∀ (table : List Nat) (p : Nat), table.length = 72 → table.Pairwise (· > ·) →
    ((table.getD 0 0 < p ∨ p < table.getD 71 0) → judgePeriod table p = none) ∧
    (p ≤ table.getD 0 0 → table.getD 71 0 ≤ p →
      ∃ note cents, judgePeriod table p = some (note, cents) ∧ note ≤ 71 ∧ -49 ≤ cents ∧
        cents ≤ 50) ∧
    (∀ n, n ≤ 71 → judgePeriod table (table.getD n 0) = some (n, 0)) ∧
    (∀ n, n ≤ 70 → p ≤ table.getD n 0 → table.getD (n + 1) 0 < p →
      let d := table.getD n 0 - table.getD (n + 1) 0
      let c := (200 * (table.getD n 0 - p) + d) / (2 * d)
      c ≤ 100 ∧ judgePeriod table p = some (if c ≤ 50 then (n, (c : Int)) else (n + 1, (c : Int) - 100))) ∧
    (∀ (note : Nat) (cents : Int), noteReading (note, cents) =
      { note := note, name := (note + 11) % 12, octave := (note + 11) / 12, cents := cents })) ∧
  (∀ ref : Nat, 4000 ≤ ref → ref ≤ 4800 →
    (noteTable ref).length = 72 ∧ (noteTable ref).Pairwise (· > ·) ∧
    ∀ n : Nat, n ≤ 71 →
      let o : Int := ((n : Int) - 46) / 12
      let r : Nat := [65536, 69433, 73562, 77936, 82570, 87480, 92682, 98193, 104032, 110218,
        116772, 123715].getD (((n : Int) - 46) % 12).toNat 0
      let num : Nat := 30720000 * 65536 * 2 ^ (-o).toNat
      let den : Nat := ref * r * 2 ^ o.toNat
      (noteTable ref)[n]? = some ((2 * num + den) / (2 * den)))

/-- R144, R145, R152: TUNER-MODE takes one of three modes; leaving OFF and entering OFF clear what R145's
table names, TUNER_SILENT stands exactly in SILENT, and the same mode changes nothing; 300 blocks
without a reading show NO_SIGNAL with one notice, without emptying the series. -/
def Obligations.TunerModeAndTimeout : Prop :=
  (∀ (s : State) (p : Port) (tag : Byte) (e : Nat) (r : TunerModeReq),
    Takes s p tag (.tunerMode r) e →
    ((r.mode < 0 ∨ 2 < r.mode) →
      exec (.tunerMode p tag r) s = .next (s.replied p tag 19 e .invalid .none)) ∧
    (0 ≤ r.mode → r.mode ≤ 2 →
      let m : TunerMode := if r.mode = 0 then .off else if r.mode = 1 then .monitor else .silent
      let fresh : Tun := { s.tun with
        mode := m, armed := false, prevCapture := none, series := [], blockPeak := 0 }
      let u : Tun :=
        if s.tun.mode = m then s.tun
        else if s.tun.mode = .off then { fresh with sinceReading := 0 }
        else if m = .off then { fresh with reading := none, state := .noSignal }
        else { s.tun with mode := m }
      ∃ t, exec (.tunerMode p tag r) s = .next t ∧ t.tun = u ∧
        t.pif.quiet = (s.replied p tag 19 e .done (.tunerMode m u.state)).pif.quiet ∧
        (s.tun.mode = m →
          t = s.replied p tag 19 e .done (.tunerMode m s.tun.state)) ∧
        (s.tun.mode ≠ m →
          t.opu.reasons = { s.opu.reasons with tunerSilent := decide (m = .silent) } ∧
          t.pif = (s.replied p tag 19 e .done (.tunerMode m u.state)).pif.raise (.tuner {
            mode := m, state := u.state, count := s.tun.readingCount, reading := u.reading
            event := .mode })) ∧
        t.opu.gain = s.opu.gain ∧ t.sen = s.sen ∧ t.scn = s.scn ∧ t.spl = s.spl ∧
        t.tgn = s.tgn ∧ t.lnk = s.lnk ∧ t.pending = s.pending)) ∧
  (∀ s : State, s.por = false →
    (s.tun.mode ≠ .off → s.tun.sinceReading = 300 → s.tun.state ≠ .noSignal →
      exec .tunerTimeout s = .next { s with
        tun := { s.tun with state := .noSignal }
        pif := s.pif.raise (.tuner {
          mode := s.tun.mode, state := .noSignal, count := s.tun.readingCount
          reading := s.tun.reading, event := .timeout }) }) ∧
    ((s.tun.mode = .off ∨ s.tun.sinceReading ≠ 300 ∨ s.tun.state = .noSignal) →
      exec .tunerTimeout s = .next s))

/-- R135 to R141, R143, R144, R150: in each frame the tuner makes the crossing check, arms on a sample below
minus half the floor, advances the timebase, keeps the block peak and takes the sample as the previous one; in
OFF only the timebase and the previous sample run on.  An armed capture fires where the guitar sample crosses
zero upward, at the tick that interpolation gives, and becomes the reference for the next; the period since the
one before is kept when it is valid and within one sixteenth of the newest, begins a new series when it is not
stable, empties the series when it is invalid, and the K-th makes a reading of the rounded mean.  At a block
boundary a block peak below the floor empties the series and drops the reference, the blocks since the last
reading count up to 300, and the peak starts again.  The first frame after the link has entered RUNNING again
only sets the previous sample (entry 47). -/
def Obligations.CapturesFormPeriodsAndReadings : Prop :=
  (∀ (t : Tun) (x : Int), t.returned = true →
    t.frame x = { t with prevSample := some x, returned := false }) ∧
  (∀ (t : Tun) (x : Int), t.returned = false →
    let fires := t.mode ≠ .off ∧ t.armed = true ∧ 0 ≤ x ∧ ∃ u, t.prevSample = some u ∧ u < 0
    let half : Int := (t.floor / 2 : Nat)
    let a := t.frame x
    a.prevSample = some x ∧ a.returned = false ∧ a.mode = t.mode ∧ a.reference = t.reference ∧
    a.k = t.k ∧ a.floor = t.floor ∧ a.table = t.table ∧
    a.timebase = (if 65472 < t.timebase + 64 then 0 else t.timebase + 64) ∧
    (t.mode = .off →
      a = { t with prevSample := some x, timebase := a.timebase, wraps := a.wraps }) ∧
    (t.mode ≠ .off → a.blockPeak = max t.blockPeak x.natAbs) ∧
    (t.mode ≠ .off → x < -half → a.armed = true) ∧
    (-half ≤ x → ¬fires → a.armed = t.armed) ∧
    (¬fires →
      a.wraps = (if 65472 < t.timebase + 64 then min 3 (t.wraps + 1) else t.wraps) ∧
      a.prevCapture = t.prevCapture ∧ a.series = t.series ∧ a.reading = t.reading ∧
      a.readingCount = t.readingCount ∧ a.sinceReading = t.sinceReading ∧ a.state = t.state)) ∧
  (∀ s : State, s.por = false →
    (16 ≤ s.sen.gathered.length →
      ∃ t, exec .blockBoundary s = .next t ∧
        t.tun = (if s.tun.mode = .off then s.tun
          else { s.tun with
            series := if s.tun.blockPeak < s.tun.floor then [] else s.tun.series
            prevCapture := if s.tun.blockPeak < s.tun.floor then none else s.tun.prevCapture
            sinceReading := min 300 (s.tun.sinceReading + 1)
            blockPeak := 0 })) ∧
    (s.sen.gathered.length < 16 → exec .blockBoundary s = .next s)) ∧
  ∀ (t : Tun) (u x : Int), t.returned = false → t.mode ≠ .off → t.armed = true →
    t.prevSample = some u → u < 0 → 0 ≤ x → t.timebase ≤ 65472 → t.timebase % 64 = 0 →
    let fr := ((128 * (-u) + (x - u)) / (2 * (x - u))).toNat
    let raw := t.timebase + fr
    let c := raw % 65536
    let a := t.frame x
    fr ≤ 64 ∧ a.armed = false ∧ a.prevCapture = some c ∧ a.prevSample = some x ∧
    a.timebase = (t.timebase + 64) % 65536 ∧
    a.wraps = (if raw < 65536 ∧ t.timebase = 65472 then 1 else 0) ∧
    (t.prevCapture = none →
      a.series = t.series ∧ a.reading = t.reading ∧ a.readingCount = t.readingCount) ∧
    (∀ q : Nat, t.prevCapture = some q →
      let p : Int := 65536 * (t.wraps : Int) + raw - q
      ((p < 1536 ∨ 131072 < p) → a.series = [] ∧ a.reading = t.reading ∧ a.state = t.state) ∧
      (1536 ≤ p → p ≤ 131072 → 1 < t.k →
        (t.series = [] → a.series = [p.toNat] ∧ a.reading = t.reading) ∧
        (∀ (xs : List Nat) (y : Nat), t.series = xs ++ [y] →
          (y < (p - y).natAbs * 16 → a.series = [p.toNat] ∧ a.reading = t.reading) ∧
          ((p - y).natAbs * 16 ≤ y → t.series.length + 1 ≠ t.k →
            a.series = t.series ++ [p.toNat] ∧ a.reading = t.reading) ∧
          ((p - y).natAbs * 16 ≤ y → t.series.length + 1 = t.k →
            let mean := (2 * (t.series.sum + p.toNat) + t.k) / (2 * t.k)
            a.series = [] ∧ a.readingCount = t.readingCount + 1 ∧ a.sinceReading = 0 ∧
            a.reading = some {
              mean := mean, reference := t.reference
              note := (judgePeriod t.table mean).map fun nc =>
                { note := nc.1, name := (nc.1 + 11) % 12, octave := (nc.1 + 11) / 12
                  cents := nc.2 } } ∧
            a.state = (if (judgePeriod t.table mean).isSome then .locked else .outOfRange)))))

/-! ### Output protection -/

/-- R152, R153, R155, R167, R168: MUTE puts MASTER_MUTE in the reason set or takes it out, and the gain
state turns as R153's table gives, the gain itself standing; the ramps end at 0 and at 4,096; a relay
move takes its target only while MUTED (and ENGAGED only with the link RUNNING), at the ramp's end when it
waits for it, holds, and at the hold's end leaves the set or goes on to the target kept behind it, which it
takes at that start when the gain is MUTED.  That on is sent as 0 and off as 1 is the model's (entry 14). -/
def Obligations.MuteGainAndRelay : Prop :=
  (∀ (s : State) (p : Port) (tag : Byte) (e : Nat) (r : MuteReq), Takes s p tag (.mute r) e →
    ((r.value < 0 ∨ 1 < r.value) →
      exec (.mute p tag r) s = .next (s.replied p tag 22 e .invalid .none)) ∧
    ((r.value = 0 ∨ r.value = 1) →
      let m : MuteSet := { s.opu.reasons with masterMute := decide (r.value = 0) }
      let g : GainState :=
        if s.opu.reasons.isEmpty = true ∧ m.isEmpty = false ∧
            (s.opu.gainState = .opened ∨ s.opu.gainState = .rampUp) then .rampDown
        else if s.opu.reasons.isEmpty = false ∧ m.isEmpty = true ∧
            (s.opu.gainState = .muted ∨ s.opu.gainState = .rampDown) then .rampUp
        else s.opu.gainState
      exec (.mute p tag r) s = .next
        { s.replied p tag 22 e .done (.muted m s.opu.gain g) with
          opu := { s.opu with reasons := m, gainState := g } })) ∧
  (∀ s : State, s.por = false →
    (s.opu.gainState = .rampDown → s.opu.gain = 0 → s.opu.move = none →
      exec .gainReachesMuted s = .next { s with opu := { s.opu with gainState := .muted } }) ∧
    (∀ m : RelayMove, s.opu.gainState = .rampDown → s.opu.gain = 0 → s.opu.move = some m →
      let takes := m.hold = none ∧ (m.target = .bypass ∨ s.lnk.state = .running)
      exec .gainReachesMuted s = .next { s with opu := { s.opu with
        gainState := .muted
        relay := if takes then m.target else s.opu.relay
        move := some (if takes then { m with hold := some 4 } else m) } }) ∧
    ((s.opu.gainState ≠ .rampDown ∨ s.opu.gain ≠ 0) → exec .gainReachesMuted s = .next s) ∧
    (s.opu.gainState = .rampUp → s.opu.gain = 4096 →
      exec .gainReachesOpen s = .next { s with opu := { s.opu with gainState := .opened } }) ∧
    ((s.opu.gainState ≠ .rampUp ∨ s.opu.gain ≠ 4096) → exec .gainReachesOpen s = .next s)) ∧
  (∀ (s : State) (m : RelayMove), s.por = false → s.opu.move = some m →
    (m.hold = none → s.opu.gainState = .muted → (m.target = .bypass ∨ s.lnk.state = .running) →
      exec .relayTakesTarget s = .next
        { s with opu := { s.opu with relay := m.target, move := some { m with hold := some 4 } } }) ∧
    ((s.opu.gainState ≠ .muted ∨ m.hold ≠ none ∨
        (m.target = .engaged ∧ s.lnk.state ≠ .running)) →
      exec .relayTakesTarget s = .next s) ∧
    (m.hold = some 0 → (m.next = none ∨ m.next = some s.opu.relay) →
      ∃ t, exec .relayHoldEnd s = .next t ∧ t.opu.move = none ∧
        t.opu.reasons = { s.opu.reasons with relayMove := false } ∧
        t.opu.relay = s.opu.relay ∧ t.opu.gain = s.opu.gain ∧
        t = { s with opu := { s.opu with
          move := none, reasons := t.opu.reasons, gainState := t.opu.gainState } }) ∧
    (∀ d : Relay, m.hold = some 0 → m.next = some d → d ≠ s.opu.relay →
      let takes := s.opu.gainState = .muted ∧ (d = .bypass ∨ s.lnk.state = .running)
      exec .relayHoldEnd s = .next { s with opu := { s.opu with
        relay := if takes then d else s.opu.relay
        move := some {
          target := d, hold := if takes then some 4 else none, next := none } } }) ∧
    (m.hold ≠ some 0 → exec .relayHoldEnd s = .next s)) ∧
  (∀ s : State, s.opu.move = none →
    exec .relayTakesTarget s = .next s ∧ exec .relayHoldEnd s = .next s)

/-- R10, R154, R161, R162, R168: RESUME is refused INVALID, WRONG_STATE or NOT_READY in that order; accepted, it
makes the fault record the last fault and takes FAULT out as the engine's own reason enters: SCENE and
SAFE enter STARTING and build the live scene record or the safe one, the reply waiting for the start's
end; BYPASS stops the engine with the bypass hold set, moves an ENGAGED relay to BYPASS, which takes that
target at once when the gain is MUTED (R168), and is answered DONE.  The segments granted are the
lowest numbers (entry 8). -/
def Obligations.ResumeByMode : Prop :=
  (∀ (s : State) (p : Port) (tag : Byte) (e : Nat) (r : ResumeReq),
    Takes s p tag (.resume r) e →
    ((r.mode < 0 ∨ 2 < r.mode) →
      exec (.resume p tag r) s = .next (s.replied p tag 23 e .invalid .none)) ∧
    (0 ≤ r.mode → r.mode ≤ 2 → s.opu.fault = none →
      exec (.resume p tag r) s = .next (s.replied p tag 23 e .wrongState .none)) ∧
    (∀ rec_ : FaultRecord, 0 ≤ r.mode → r.mode ≤ 2 → s.opu.fault = some rec_ →
      ((s.lnk.state ≠ .running ∨ s.lnk.primary = false ∨ s.powerWarning = true) →
        exec (.resume p tag r) s = .next (s.replied p tag 23 e .notReady
          (.notReady (decide (s.lnk.state ≠ .running)) (!s.lnk.primary) s.powerWarning))) ∧
      (s.lnk.state = .running → s.lnk.primary = true → s.powerWarning = false →
        s.opu.reasons.fault = true → s.opu.move = none → s.spl.tails = [] →
        let slot := s.scn.library.getD s.scn.safeIdx none
        let live := if r.mode = 1 then slot.getD cleanScene else s.scn.live
        let m := chainDemand live.chain
        ∃ t, exec (.resume p tag r) s = .next t ∧ t.opu.fault = none ∧
          t.opu.lastFault = some rec_ ∧ t.opu.gain = s.opu.gain ∧
          t.opu.gainState = s.opu.gainState ∧
          t.opu.failover = s.opu.failover ∧ t.scn.live = live ∧
          t.scn.generation = s.scn.generation ∧ t.scn.library = s.scn.library ∧
          t.spl.tails = [] ∧ t.lnk = s.lnk ∧ t.tun = s.tun ∧ t.lib = s.lib ∧
          (r.mode ≤ 1 →
            t.opu.reasons = { s.opu.reasons with fault := false, starting := true } ∧
            t.opu.move = none ∧ t.opu.relay = s.opu.relay ∧ t.sen.engine = .starting ∧ t.sen.bypassHold = s.sen.bypassHold ∧
            t.sen.front = {
              state := .building, generation := s.scn.generation, stages := []
              granted := s.spl.free.take m, toClear := s.spl.free.take m
              cost := chainCost live.chain, buildCount := live.chain.length + (m + 3) / 4 } ∧
            t.spl.free = s.spl.free.drop m ∧
            t.opu.resume = some {
              ticket := { port := p, entry := e }
              mode := if r.mode = 0 then .scene else .safe
              safeSlot := if r.mode = 0 then none else some slot.isSome
              degraded := [] } ∧
            t.pif.quiet = (s.taken p tag 23 e).pif.quiet) ∧
          (r.mode = 1 → t.scn.dirty = false ∧
            t.scn.origin = (if slot.isSome then some s.scn.safeIdx else none)) ∧
          (r.mode ≠ 1 → t.scn = s.scn ∧ t.tgn = s.tgn) ∧
          (r.mode = 2 →
            t.sen = { s.sen with engine := .stopped, bypassHold := true } ∧
            t.spl.free = s.spl.free ∧
            t.opu.reasons = { s.opu.reasons with
              fault := false, stopped := true
              relayMove := s.opu.reasons.relayMove || decide (s.opu.relay = .engaged) } ∧
            t.opu.relay = (if s.opu.gainState = .muted then .bypass else s.opu.relay) ∧
            t.opu.move = (if s.opu.relay = .engaged then
              some {
                target := .bypass
                hold := if s.opu.gainState = .muted then some 4 else none
                next := none }
              else none) ∧
            ∃ f, t.pif.quiet = (s.replied p tag 23 e .done f).pif.quiet)))) ∧
  (∀ (s : State) (w : ResumeWait) (tag : Byte) (kind : Nat), s.por = false →
    s.sen.engine = .starting → s.sen.front.state = .building → s.sen.front.buildCount = 0 →
    s.opu.resume = some w → s.loopOpen = false →
    (s.port w.ticket.port).replies[w.ticket.entry]? = some (.reserved tag kind) →
    ∃ t, exec .startingComplete s = .next t ∧ t.opu.resume = none ∧ t.sen.engine = .run ∧
      (t.port w.ticket.port).replies[w.ticket.entry]? = some (.filled {
        tag := tag, kind := kind
        status := if w.degraded = [] then .done else .degraded
        fields := .resumed w.mode s.scn.generation w.safeSlot w.degraded }))

/-- R157, R158, R163, R165, R166: FAILOVER-READ reports the flag and, when it is set, marks the port as
having seen it; FAILOVER-CLEAR works only from such a port; an expiry of the frame-loss monitor takes
the link to LOST with cause FRAME_LOSS and, in FAILOVER, forces the relay to BYPASS, sets the flag and
clears every seen mark.  With the monitor OFF or the link not RUNNING there is no expiry. -/
def Obligations.FailoverAndFrameLoss : Prop :=
  (∀ (s : State) (p : Port) (tag : Byte) (e : Nat),
    (Takes s p tag .failoverRead e →
      exec (.failoverRead p tag) s = .next
        { s.replied p tag 25 e .done (.failoverFlag s.opu.failover) with
          opu := { s.opu with
            seen0 := s.opu.seen0 || (s.opu.failover && decide (p = .p0))
            seen1 := s.opu.seen1 || (s.opu.failover && decide (p = .p1))
            seen2 := s.opu.seen2 || (s.opu.failover && decide (p = .p2)) } }) ∧
    (Takes s p tag .failoverClear e →
      (s.opu.seen p = false →
        exec (.failoverClear p tag) s = .next (s.replied p tag 26 e .notSeen .none)) ∧
      (s.opu.seen p = true →
        exec (.failoverClear p tag) s = .next
          { s.replied p tag 26 e .done .none with
            opu := { s.opu with
              failover := false, seen0 := false, seen1 := false, seen2 := false } }))) ∧
  (∀ s : State, (s.opu.monMode = .off ∨ s.lnk.state ≠ .running) →
    exec .frameLossExpiry s = .next s) ∧
  (∀ s : State, s.por = false → s.opu.monMode ≠ .off → s.lnk.state = .running →
    ∃ t, exec .frameLossExpiry s = .next t ∧ t.lnk.state = .lost ∧ t.lnk.time = 0 ∧
      t.lnk.primary = false ∧ t.lnk.secondary = false ∧ t.lnk.queue = [] ∧
      t.lnk.levelPending = none ∧ t.lnk.restPending = none ∧ t.opu.elapsed = 0 ∧
      t.sen.gathered = [] ∧ t.tgn = s.tgn ∧ t.lib = s.lib ∧
      t.opu.failover = (s.opu.failover || decide (s.opu.monMode = .failover)) ∧
      (s.opu.monMode = .failover → t.opu.relay = .bypass ∧ t.opu.move = none ∧
        t.opu.seen0 = false ∧ t.opu.seen1 = false ∧ t.opu.seen2 = false) ∧
      (s.opu.monMode = .report → t.opu.seen0 = s.opu.seen0 ∧ t.opu.seen1 = s.opu.seen1 ∧
        t.opu.seen2 = s.opu.seen2) ∧
      (s.opu.fault = none → t.sen.engine = .fault ∧ t.opu.gain = 0 ∧ t.opu.gainState = .muted ∧
        t.opu.move = none ∧
        t.opu.fault = some {
          first := .frameLoss
          causes := {
            frameLoss := true, runaway := false, powerWarn := false, converterLost := false }
          blockCount := s.sen.blockCount, generation := s.scn.generation
          phase := s.scn.phase } ∧
        t.opu.relay = (if s.opu.policy = .bypass ∨ s.opu.failover = true ∨
            s.opu.monMode = .failover then .bypass else s.opu.relay)) ∧
      (∀ rec_ : FaultRecord, s.opu.fault = some rec_ →
        t.opu.fault = some { rec_ with causes := { rec_.causes with frameLoss := true } } ∧
        t.sen = { s.sen with gathered := [] } ∧
        (s.opu.monMode = .report → t.opu.relay = s.opu.relay)))

/-! ### The converter link -/

/-- R19, R22, R153, R172, R178, R183, R185: what a frame sent in RUNNING carries and leaves when nothing is due
before it: the gain advanced by one step, the oldest pass output under that gain in slots 3 and 4 and
its loop send in slot 5 (all zero while muted or without RUN), the oldest access of the command queue in
slots 1 and 2 when no read is SENT, the aux output word in slot 6 when it is valid: the low byte of the latch
word, the beat lamp, the clip lamp, the three tuner lamps and the fault lamp, with the clip lamp as that frame's
own sample leaves it (the model's choice, entry 61).  A rest's final step that was held for the frame after a
fault's entry is held no longer (R178, entry 82).  A frame sent in
SYNCING carries zero audio and no command; one sent in LOST carries zero audio, the aux valid mark as its slot 6
mark, with slot 6 zero while that is clear, and zero in slot 7 and every bit that section 9.1 does not use, the
rest being free values (entry 9); in OFF, COLD_START, RESTING and WAKING none is sent.  What the frame
makes due, a runaway or the end of a ramp among it, happens in the frame after that.  The order of due events is
the model's (entry 2), as are slot 5 in the frame that reaches
gain 0 (entry 21) and the pairing of frames sent and received (entry 37). -/
def Obligations.FrameSentComposes : Prop :=
  (∀ s : State, s.por = false → s.settle = s → s.lnk.state = .running →
    let g : Opu := match s.opu.gainState with
      | .rampDown => { s.opu with gain := s.opu.gain - 128 }
      | .rampUp => { s.opu with gain := min 4096 (s.opu.gain + 128) }
      | _ => s.opu
    let out := s.sen.outQueue.headD (0, 0)
    let muted := g.gainState = .muted ∨ g.gain = 0 ∨ s.sen.engine ≠ .run
    let exact := (out.1 * g.gain + 2048) / 4096
    let sample : Int := if muted then 0 else sat exact
    let send : Int := if muted then 0 else out.2
    let cmd : Option Access := if s.lnk.queue.any (·.sent) then none else s.lnk.queue.head?
    ∃ u t, exec .frameSent s = .next u ∧ runAll dueCommands t = .next u ∧
      (t.settle = t → u = t) ∧ t.opu = g ∧
      t.lnk.lastOut.slot3 = BitVec.ofInt 24 sample ∧
      t.lnk.lastOut.slot4 = BitVec.ofInt 24 sample ∧
      t.lnk.lastOut.slot5 = BitVec.ofInt 24 send ∧
      t.lnk.lastOut.slot6 = (if t.lnk.auxValid then t.auxOut.setWidth 24 else 0) ∧
      t.lnk.lastOut.slot7 = 0 ∧
      (∀ i, i < 24 → t.lnk.lastOut.tag.getLsbD i =
        (decide (i = 23 ∨ i = 2 ∨ i = 3 ∨ i = 4) || (decide (i = 5) && s.lnk.auxValid) ||
          (decide (i = 0 ∨ i = 1) && cmd.isSome) ||
          (decide (i = 8) && cmd.any fun a => decide (a.target = .secondary)))) ∧
      (cmd = none → t.lnk.lastOut.slot1 = 0 ∧ t.lnk.lastOut.slot2 = 0 ∧
        t.lnk.queue = s.lnk.queue) ∧
      (∀ a : Access, cmd = some a → a.index < 128 →
        (a.data = none → t.lnk.lastOut.slot1 = BitVec.ofNat 24 (128 + a.index) ∧
          t.lnk.lastOut.slot2 = 0 ∧
          t.lnk.queue = { a with sent := true, waited := 0, fresh := true } ::
            s.lnk.queue.drop 1) ∧
        (∀ v, a.data = some v → v < 65536 →
          t.lnk.lastOut.slot1 = BitVec.ofNat 24 a.index ∧
          t.lnk.lastOut.slot2 = BitVec.ofNat 24 v ∧ t.lnk.queue = s.lnk.queue.drop 1)) ∧
      t.lnk = { s.lnk with
        queue := t.lnk.queue, lastOut := t.lnk.lastOut, restHeld := false } ∧
      t.sen = { s.sen with
        outQueue := s.sen.outQueue.drop 1
        summaryClip := s.sen.summaryClip || (!decide muted && decide (sat exact ≠ exact))
        runaway := if s.sen.engine = .run then
            (if 8388000 ≤ sample.natAbs then s.sen.runaway + 1 else 0) else s.sen.runaway } ∧
      t.pif.quiet = s.pif.quiet ∧ t.scn = s.scn ∧ t.spl = s.spl ∧ t.lib = s.lib ∧
      t.tgn = s.tgn ∧ t.tun = s.tun ∧ t.pending = s.pending) ∧
  (∀ s : State, s.por = false → s.settle = s → s.lnk.state = .syncing →
    ∃ u t, exec .frameSent s = .next u ∧ runAll dueCommands t = .next u ∧
      (t.settle = t → u = t) ∧
      t = { s with opu := t.opu, lnk := { s.lnk with lastOut := t.lnk.lastOut } } ∧
      t.lnk.lastOut.slot6 = (if s.lnk.auxValid then s.auxOut.setWidth 24 else 0) ∧
      t.lnk.lastOut.slot1 = 0 ∧ t.lnk.lastOut.slot2 = 0 ∧ t.lnk.lastOut.slot3 = 0 ∧
      t.lnk.lastOut.slot4 = 0 ∧ t.lnk.lastOut.slot5 = 0 ∧ t.lnk.lastOut.slot7 = 0 ∧
      (∀ i, i < 24 → t.lnk.lastOut.tag.getLsbD i =
        (decide (i = 23) || (decide (i = 5) && s.lnk.auxValid)))) ∧
  (∀ s : State, s.por = false → s.settle = s → s.lnk.state = .lost →
    ∃ u t, exec .frameSent s = .next u ∧ runAll dueCommands t = .next u ∧
      (t.settle = t → u = t) ∧
      t = { s with
        opu := t.opu, lnk := { s.lnk with lastOut := t.lnk.lastOut }, freeCtr := t.freeCtr } ∧
      t.lnk.lastOut.slot3 = 0 ∧ t.lnk.lastOut.slot4 = 0 ∧ t.lnk.lastOut.slot5 = 0 ∧
      t.lnk.lastOut.slot7 = 0 ∧ (s.lnk.auxValid = false → t.lnk.lastOut.slot6 = 0) ∧
      t.lnk.lastOut.tag.getLsbD 5 = s.lnk.auxValid ∧
      (∀ i, (i = 7 ∨ (9 ≤ i ∧ i ≤ 22)) → t.lnk.lastOut.tag.getLsbD i = false) ∧
      (∀ i, 8 ≤ i → t.lnk.lastOut.slot1.getLsbD i = false) ∧
      (∀ i, 16 ≤ i → t.lnk.lastOut.slot2.getLsbD i = false) ∧
      (∀ i, 14 ≤ i → t.lnk.lastOut.slot6.getLsbD i = false)) ∧
  (∀ s : State, s.por = false → s.settle = s →
    (s.lnk.state = .off ∨ s.lnk.state = .coldStart ∨ s.lnk.state = .resting ∨
      s.lnk.state = .waking) → exec .frameSent s = .next s) ∧
  (∀ (s : State) (i : Nat), i < 16 →
    let cents : Option Int :=
      if s.tun.state = .locked then s.tun.reading.bind fun r => r.note.map (·.cents) else none
    s.auxOut.getLsbD i = (
      (decide (i < 8) && s.scn.latch.getLsbD i) ||
      (decide (i = 8) && s.tgn.lamp) ||
      (decide (i = 9) && s.sen.summaryClip) ||
      (decide (i = 10) && cents.any fun c => decide (c < -3)) ||
      (decide (i = 11) && cents.any fun c => decide (-3 ≤ c ∧ c ≤ 3)) ||
      (decide (i = 12) && cents.any fun c => decide (3 < c)) ||
      (decide (i = 13) && s.opu.fault.isSome)))

/-- R1, R117, R118, R124, R127, R128, R158, R172, R173, R175, R178, R183, R186: a frame received in RUNNING with the primary ready and no rise of
the power warning, when nothing is due before it, hands its samples to the engine and the tuner, is
counted by the tempo generator, whose beat, lamp, tap timeout and lost pulse happen in that frame, and by
a SENT read, then brings every event that it makes due: the end of a read, the start of the engine, and, when it
is the sixteenth of its block, the block boundary with the tuner's timeout and the boundary's steps (the order
of these events is the model's, entries 2 and 59), and returns the monitor's time to zero; a drop of the secondary ends its accesses, each READ
answered ABORTED, also one whose echo the same frame brings (the model's choice, entry 57); in SYNCING and LOST the tag moves the ready bits and the link, to RUNNING when the primary
is ready; a primary not ready in RUNNING, in a frame that is counted all the same (entry 41), and a rise of
the power warning, are fault causes, which enter FAULT, holding a rest's final step for the frame after the
entry (entry 82), or are added; elsewhere a frame has no effect.  That
due events come first is the model's (entry 2), as is the pairing of frames (entry 37). -/
def Obligations.FrameReceivedByLinkState : Prop :=
  ∀ (s : State) (f0 f1 : InFrame), s.por = false → s.settle = s →
    let valid := f0.tag.getLsbD 5
    let word : Word16 := if valid then f0.slot6.setWidth 16 else s.lnk.auxIn
    let warns := word.getLsbD 2 && !s.lnk.auxIn.getLsbD 2
    let x : Int := if f0.tag.getLsbD 2 then f0.slot3.toInt else 0
    let ret : Int := if f1.tag.getLsbD 4 then f1.slot5.toInt else 0
    let echo : InFrame → Option Echo := fun f =>
      if f.tag.getLsbD 0 then
        some { index := f.slot1.toNat % 128, data := f.slot2.setWidth 16 } else none
    let beats : State → State → Prop := fun u w =>
      runAll [.beatCounterUnderflow, .beatLampOff, .tapTimeout, .pulseLost] u = .next w
    let ends : State → State → Prop := fun w t =>
      exec (.frameReceived f0 f1) s = .next t ∧ runAll dueCommands w = .next t ∧
      (w.settle = w → t = w)
    let counted : Tgn := { s.tgn with
      frameCount := s.tgn.frameCount + 1, counter := s.tgn.counter - 1
      age := min 288000 (s.tgn.age + 1) }
    let warned : State → Prop := fun v =>
      v.lnk.state = .running ∧ v.lnk.auxIn = word ∧ v.sen.engine = .fault ∧ v.opu.gain = 0 ∧
      v.opu.gainState = .muted ∧ v.lnk.restPending = s.lnk.restPending ∧
      v.lnk.restHeld =
        (s.lnk.restHeld || (s.lnk.restPending.isSome && decide (0 < s.opu.gain))) ∧
      v.opu.fault = some {
        first := .powerWarn
        causes := {
          frameLoss := false, runaway := false, powerWarn := true, converterLost := false }
        blockCount := s.sen.blockCount, generation := s.scn.generation
        phase := s.scn.phase }
    let added : FaultRecord → State → Prop := fun rec_ v =>
      v.lnk.state = .running ∧ v.lnk.auxIn = word ∧ v.sen.engine = s.sen.engine ∧
      v.opu = { s.opu with
        elapsed := 0
        fault := some { rec_ with causes := { rec_.causes with powerWarn := true } } }
    ((s.lnk.state = .off ∨ s.lnk.state = .coldStart ∨ s.lnk.state = .resting ∨
        s.lnk.state = .waking) → exec (.frameReceived f0 f1) s = .next s) ∧
    (s.lnk.state = .running → f0.tag.getLsbD 23 = true → warns = false →
      let kept : Access → Bool := fun a =>
        !(s.lnk.secondary && !f1.tag.getLsbD 23 && decide (a.target = .secondary))
      ∃ u w t, beats u w ∧ ends w t ∧
        u.por = false ∧
        u.sen = { s.sen with gathered := s.sen.gathered ++ [(x, ret)] } ∧
        u.tgn = counted ∧
        u.tun = s.tun.frame x ∧ u.opu = { s.opu with elapsed := 0 } ∧
        u.lnk = { s.lnk with
          secondary := f1.tag.getLsbD 23, auxIn := word, echo0 := echo f0, echo1 := echo f1
          queue := (s.lnk.queue.filter kept).map fun a =>
            if a.sent then
              (if a.fresh then { a with fresh := false } else { a with waited := a.waited + 1 })
            else a } ∧
        u.scn = s.scn ∧ u.spl = s.spl ∧ u.lib = s.lib ∧ u.pending = s.pending ∧
        ((s.lnk.secondary = true → f1.tag.getLsbD 23 = true) → u.pif.quiet = s.pif.quiet) ∧
        (∀ (a : Access) (tk : Ticket) (tag : Byte) (kind : Nat), a ∈ s.lnk.queue →
          kept a = false → a.data = none → a.owner = some tk →
          (s.port tk.port).replies[tk.entry]? = some (.reserved tag kind) →
          (u.port tk.port).replies[tk.entry]? = some (.filled {
            tag := tag, kind := kind, status := .aborted, fields := .readEnded .converter }))) ∧
    (s.lnk.state = .running → f0.tag.getLsbD 23 = true → warns = true → s.opu.fault = none →
      ∃ u w t, beats u w ∧ ends w t ∧ u.sen.gathered = s.sen.gathered ++ [(x, ret)] ∧
        u.tgn = counted ∧ warned u ∧ warned w) ∧
    (∀ rec_ : FaultRecord, s.lnk.state = .running → f0.tag.getLsbD 23 = true → warns = true →
      s.opu.fault = some rec_ →
      ∃ u w t, beats u w ∧ ends w t ∧ u.sen.gathered = s.sen.gathered ++ [(x, ret)] ∧
        u.tgn = counted ∧ added rec_ u ∧ added rec_ w) ∧
    ((s.lnk.state = .syncing ∨ s.lnk.state = .lost) → warns = false →
      ∃ w t, ends w t ∧
        w.lnk = { s.lnk with
          state := if f0.tag.getLsbD 23 then .running else .syncing
          time := if f0.tag.getLsbD 23 = true ∨ s.lnk.state = .lost then 0 else s.lnk.time
          primary := f0.tag.getLsbD 23, secondary := f1.tag.getLsbD 23, auxIn := word
          echo0 := echo f0, echo1 := echo f1 } ∧
        (f0.tag.getLsbD 23 = true →
          w.opu.reasons = { s.opu.reasons with standby := false }) ∧
        (f0.tag.getLsbD 23 = false → w.opu.reasons = s.opu.reasons) ∧
        w.opu.gain = s.opu.gain ∧ w.opu.relay = s.opu.relay ∧ w.opu.fault = s.opu.fault ∧
        w.sen = s.sen ∧ w.tgn = s.tgn ∧ w.tun = s.tun ∧ w.scn = s.scn ∧ w.spl = s.spl ∧
        w.pif.quiet = s.pif.quiet) ∧
    (s.lnk.state = .running → f0.tag.getLsbD 23 = false → valid = false →
      s.sen.gathered.length < 15 →
      ∃ u v w t, u.por = false ∧ u.lnk.state = .running ∧ u.tgn = counted ∧ beats u v ∧ ends w t ∧
        w.tgn = v.tgn ∧ w.tun.timebase = (s.tun.frame x).timebase ∧
        w.tun.readingCount = (s.tun.frame x).readingCount ∧
        w.lnk.state = .syncing ∧ w.lnk.time = 0 ∧ w.lnk.primary = false ∧
        w.lnk.secondary = f1.tag.getLsbD 23 ∧ w.lnk.queue = [] ∧ w.lnk.levelPending = none ∧
        w.lnk.restPending = none ∧ w.sen.gathered = [] ∧ w.sen.blockCount = s.sen.blockCount ∧
        w.tun.prevSample = none ∧ w.tun.returned = true ∧ w.opu.elapsed = 0 ∧
        (s.opu.fault = none → w.sen.engine = .fault ∧ w.opu.gain = 0 ∧
          w.opu.gainState = .muted ∧
          w.opu.fault = some {
            first := .converterLost
            causes := {
              frameLoss := false, runaway := false, powerWarn := false, converterLost := true }
            blockCount := s.sen.blockCount, generation := s.scn.generation
            phase := s.scn.phase }) ∧
        (∀ rec_ : FaultRecord, s.opu.fault = some rec_ → w.sen.engine = s.sen.engine ∧
          w.opu.fault = some { rec_ with causes := { rec_.causes with converterLost := true } }))

/-- R115, R174, R177, R181: LINK-START gives a cold start from any link state and clears the bypass hold,
STANDBY, a wake pending and a rest pending; its 1 ms, the 100 µs of a deferred wake and the 2 µs of
WAKING lead on; a wake asked for in RESTING is made at once from 100 µs on, else held; elsewhere
LINK-WAKE is refused, but where it cancels a rest.  A LINK-START in RUNNING abandons a switch, and the
taken recall is answered ABORTED with its generation.  That a DONE of LINK-WAKE always carries the
deferred mark, yes or no, is the model's too (entry 73). -/
def Obligations.LinkStartsAndWakes : Prop :=
  (∀ (s : State) (p : Port) (tag : Byte) (e : Nat), Takes s p tag .linkStart e →
    ∃ t, exec (.linkStart p tag) s = .next t ∧ t.lnk.state = .coldStart ∧ t.lnk.time = 0 ∧
      t.lnk.primary = false ∧ t.lnk.secondary = false ∧ t.lnk.auxValid = false ∧
      t.lnk.wakePending = false ∧ t.lnk.restPending = none ∧ t.lnk.auxIn = s.lnk.auxIn ∧
      t.sen.bypassHold = false ∧ t.opu.reasons.standby = false ∧
      t.opu.reasons.masterMute = s.opu.reasons.masterMute ∧ t.opu.fault = s.opu.fault ∧
      t.opu.gain = s.opu.gain ∧ t.tgn = s.tgn ∧ t.lib = s.lib ∧ t.pending = s.pending ∧
      (s.lnk.state = .running →
        t.lnk.queue = [] ∧ t.sen.gathered = [] ∧ t.opu.relay = .bypass ∧ t.opu.move = none ∧
        t.sen.engine = (if s.sen.engine = .fault then .fault else .stopped)) ∧
      (∀ (w : SwitchRec) (tag' : Byte) (kind' : Nat), s.lnk.state = .running →
        s.sen.engine = .run → s.lnk.restPending = none → s.lnk.queue = [] →
        s.opu.resume = none → s.scn.switch = some w →
        (s.scn.phase = .prepare ∨ s.scn.phase = .fade ∨ s.scn.phase = .gapOut) →
        (s.port w.ticket.port).replies[w.ticket.entry]? = some (.reserved tag' kind') →
        (t.port w.ticket.port).replies[w.ticket.entry]? = some (.filled {
          tag := tag', kind := kind', status := .aborted
          fields := .recallAborted (some s.scn.generation) .link }) ∧
        t.scn.switch = none ∧ t.scn.phase = .steady ∧
        t.scn.generation = s.scn.generation ∧ t.scn.live = s.scn.live) ∧
      (s.lnk.state ≠ .running → t.sen = { s.sen with bypassHold := false } ∧
        t.scn = s.scn ∧ t.spl = s.spl ∧ t.opu.relay = s.opu.relay) ∧
      (s.lnk.state ≠ .running → s.lnk.restPending = none →
        t.pif.quiet = (s.replied p tag 28 e .done (.linkBefore s.lnk.state)).pif.quiet) ∧
      (∀ (tk : Ticket) (tag' : Byte) (kind' : Nat), s.lnk.restPending = some tk →
        (s.port tk.port).replies[tk.entry]? = some (.reserved tag' kind') →
        (t.port tk.port).replies[tk.entry]? = some (.filled {
          tag := tag', kind := kind', status := .aborted, fields := .restEnded .start }))) ∧
  (∀ s : State, s.por = false →
    (s.lnk.state = .coldStart → ∃ t, exec .coldStartExpiry s = .next t ∧
      t.lnk = { s.lnk with state := .syncing, time := 0 } ∧ t.sen = s.sen ∧ t.scn = s.scn ∧
      t.opu.reasons = s.opu.reasons ∧ t.opu.gain = s.opu.gain) ∧
    (s.lnk.state ≠ .coldStart → exec .coldStartExpiry s = .next s) ∧
    (s.lnk.state = .waking → ∃ t, exec .wakingExpiry s = .next t ∧
      t.lnk = { s.lnk with state := .syncing, time := 0 } ∧ t.sen = s.sen ∧ t.scn = s.scn ∧
      t.opu.reasons = s.opu.reasons ∧ t.opu.gain = s.opu.gain) ∧
    (s.lnk.state ≠ .waking → exec .wakingExpiry s = .next s) ∧
    (s.lnk.state = .resting → 100 ≤ s.lnk.time → ∃ t, exec .converterWake s = .next t ∧
      t.lnk = { s.lnk with
        state := .waking, time := 0, wakePending := false, primary := false, secondary := false
        auxValid := false } ∧
      t.sen = s.sen ∧ t.scn = s.scn ∧ t.opu = { s.opu with elapsed := 0 } ∧
      t.pif.quiet = s.pif.quiet) ∧
    (s.lnk.state = .resting → s.lnk.time < 100 →
      exec .converterWake s = .next { s with lnk := { s.lnk with wakePending := true } }) ∧
    (s.lnk.state ≠ .resting → exec .converterWake s = .next s) ∧
    (s.lnk.state = .resting → s.lnk.wakePending = true →
      ∃ t, exec .wakeDeferralExpiry s = .next t ∧
        t.lnk = { s.lnk with
          state := .waking, time := 0, wakePending := false, primary := false
          secondary := false, auxValid := false } ∧
        t.sen = s.sen ∧ t.scn = s.scn ∧ t.opu.reasons = s.opu.reasons) ∧
    ((s.lnk.state ≠ .resting ∨ s.lnk.wakePending = false) →
      exec .wakeDeferralExpiry s = .next s)) ∧
  (∀ (s : State) (p : Port) (tag : Byte) (e : Nat), Takes s p tag .linkWake e →
    (s.lnk.state = .resting → 100 ≤ s.lnk.time → ∃ t, exec (.linkWake p tag) s = .next t ∧
      t.lnk = { s.lnk with
        state := .waking, time := 0, wakePending := false, primary := false, secondary := false
        auxValid := false } ∧
      t.pif.quiet = (s.replied p tag 30 e .done (.wake false)).pif.quiet) ∧
    (s.lnk.state = .resting → s.lnk.time < 100 →
      exec (.linkWake p tag) s = .next
        { s.replied p tag 30 e .done (.wake true) with
          lnk := { s.lnk with wakePending := true } }) ∧
    (∀ (tk : Ticket) (tag' : Byte) (kind' : Nat), s.lnk.state = .running →
      s.lnk.restPending = some tk →
      (s.port tk.port).replies[tk.entry]? = some (.reserved tag' kind') →
      ∃ t, exec (.linkWake p tag) s = .next t ∧
        t.lnk = { s.lnk with restPending := none, restHeld := false } ∧
        t.opu.reasons = { s.opu.reasons with standby := false } ∧
        (t.port tk.port).replies[tk.entry]? = some (.filled {
          tag := tag', kind := kind', status := .aborted, fields := .restEnded .wake }) ∧
        (t.port p).replies[e]? = some (.filled {
          tag := tag, kind := 30, status := .done, fields := .wake false }) ∧
        t.sen = s.sen ∧ t.scn = s.scn) ∧
    ((s.lnk.state = .off ∨ s.lnk.state = .coldStart ∨ s.lnk.state = .syncing ∨
        s.lnk.state = .lost ∨ s.lnk.state = .waking ∨
        (s.lnk.state = .running ∧ s.lnk.restPending = none)) →
      exec (.linkWake p tag) s = .next (s.replied p tag 30 e .wrongState .none)))

/-- R150, R167, R176, R178: LINK-REST adds STANDBY and waits, without a reply, or is refused WRONG_STATE;
with the gain MUTED at the take the final step falls at the take; when the gain is MUTED the final step
takes the link to RESTING, stops the engine, forces the relay to
BYPASS, ends the command queue and keeps STANDBY; before that nothing happens, and after a fault that muted
the gain at once the step waits until the frame after its entry has been sent (entry 82). -/
def Obligations.LinkRestWaitsForMuted : Prop :=
  (∀ (s : State) (p : Port) (tag : Byte) (e : Nat), Takes s p tag .linkRest e →
    ((s.lnk.state ≠ .running ∨ s.lnk.restPending ≠ none) →
      exec (.linkRest p tag) s = .next (s.replied p tag 29 e .wrongState .none)) ∧
    (s.lnk.state = .running → s.lnk.restPending = none → s.opu.gainState = .muted →
      exec (.linkRest p tag) s = exec .linkRestFinalStep
        { s.taken p tag 29 e with
          opu := { s.opu with reasons := { s.opu.reasons with standby := true } }
          lnk := { s.lnk with
            restPending := some { port := p, entry := e }, restHeld := false } }) ∧
    (s.lnk.state = .running → s.lnk.restPending = none → s.opu.gainState ≠ .muted →
      ∃ t, exec (.linkRest p tag) s = .next t ∧
        t.opu.reasons = { s.opu.reasons with standby := true } ∧
        t.opu.gainState = (if s.opu.reasons.isEmpty = true ∧
            (s.opu.gainState = .opened ∨ s.opu.gainState = .rampUp) then .rampDown
          else s.opu.gainState) ∧
        t = { s.taken p tag 29 e with
          opu := { s.opu with reasons := t.opu.reasons, gainState := t.opu.gainState }
          lnk := { s.lnk with
            restPending := some { port := p, entry := e }, restHeld := false } })) ∧
  (∀ (s : State) (tk : Ticket), s.por = false → s.lnk.restPending = some tk →
    s.lnk.state = .running →
    ((s.opu.gainState ≠ .muted ∨ s.lnk.restHeld = true) → exec .linkRestFinalStep s = .next s) ∧
    (s.opu.gainState = .muted → s.lnk.restHeld = false →
      ∃ t, exec .linkRestFinalStep s = .next t ∧ t.lnk.state = .resting ∧ t.lnk.time = 0 ∧
        t.lnk.restPending = none ∧ t.lnk.primary = false ∧ t.lnk.secondary = false ∧
        t.lnk.queue = [] ∧ t.lnk.levelPending = none ∧ t.lnk.auxValid = s.lnk.auxValid ∧
        t.opu.relay = .bypass ∧ t.opu.move = none ∧
        t.opu.reasons.standby = s.opu.reasons.standby ∧ t.opu.fault = s.opu.fault ∧
        t.sen.gathered = [] ∧
        t.sen.engine = (if s.sen.engine = .fault then .fault else .stopped) ∧
        t.tun.armed = false ∧ t.tun.prevSample = none ∧ t.tun.returned = true ∧
        t.tun.prevCapture = none ∧
        t.tun.series = [] ∧ t.tgn = s.tgn ∧ t.lib = s.lib ∧
        (∀ (tag' : Byte) (kind' : Nat), s.lnk.queue = [] → s.opu.resume = none →
          s.scn.phase = .steady → s.scn.pendingRecall = none →
          (s.port tk.port).replies[tk.entry]? = some (.reserved tag' kind') →
          (t.port tk.port).replies[tk.entry]? = some (.filled {
            tag := tag', kind := kind', status := .done, fields := .none })))) ∧
  (∀ s : State, (s.lnk.restPending = none ∨ s.lnk.state ≠ .running) →
    exec .linkRestFinalStep s = .next s)

/-- R182, R183, R184: CONV-READ and CONV-WRITE are refused INVALID, NOT_READY or BUSY in that order, else
join the end of the queue, the write answered POSTED with the number ahead; a SENT read ends with the
first echo of its index on its line in a frame after its sending, or at the eighth frame without one;
the level write pending joins when there is room. -/
def Obligations.ConverterQueue : Prop :=
  (∀ (s : State) (p : Port) (tag : Byte) (e : Nat),
    (∀ r : ConvReadReq, Takes s p tag (.convRead r) e →
      ((r.target < 0 ∨ 1 < r.target ∨ r.index < 0 ∨ 127 < r.index) →
        exec (.convRead p tag r) s = .next (s.replied p tag 31 e .invalid .none)) ∧
      (0 ≤ r.target → r.target ≤ 1 → 0 ≤ r.index → r.index ≤ 127 →
        let d : Target := if r.target = 0 then .primary else .secondary
        ((s.lnk.state ≠ .running ∨ s.lnk.ready d = false) →
          exec (.convRead p tag r) s = .next (s.replied p tag 31 e .notReady .none)) ∧
        (s.lnk.state = .running → s.lnk.ready d = true →
          (4 ≤ s.lnk.queue.length →
            exec (.convRead p tag r) s = .next (s.replied p tag 31 e .busy .none)) ∧
          (s.lnk.queue.length < 4 →
            exec (.convRead p tag r) s = .next
              { s.taken p tag 31 e with
                lnk := { s.lnk with queue := s.lnk.queue ++ [{
                  owner := some { port := p, entry := e }, tag := some tag, data := none
                  target := d, index := r.index.toNat, sent := false, waited := 0
                  fresh := false }] } })))) ∧
    (∀ r : ConvWriteReq, Takes s p tag (.convWrite r) e →
      ((r.target < 0 ∨ 1 < r.target ∨ r.index < 0 ∨ 127 < r.index ∨ r.data < 0 ∨
          65535 < r.data) →
        exec (.convWrite p tag r) s = .next (s.replied p tag 32 e .invalid .none)) ∧
      (0 ≤ r.target → r.target ≤ 1 → 0 ≤ r.index → r.index ≤ 127 → 0 ≤ r.data →
        r.data ≤ 65535 →
        let d : Target := if r.target = 0 then .primary else .secondary
        ((s.lnk.state ≠ .running ∨ s.lnk.ready d = false) →
          exec (.convWrite p tag r) s = .next (s.replied p tag 32 e .notReady .none)) ∧
        (s.lnk.state = .running → s.lnk.ready d = true →
          (4 ≤ s.lnk.queue.length →
            exec (.convWrite p tag r) s = .next (s.replied p tag 32 e .busy .none)) ∧
          (s.lnk.queue.length < 4 →
            exec (.convWrite p tag r) s = .next
              { s.replied p tag 32 e .posted (.posted s.lnk.queue.length) with
                lnk := { s.lnk with queue := s.lnk.queue ++ [{
                  owner := some { port := p, entry := e }, tag := some tag
                  data := some r.data.toNat, target := d, index := r.index.toNat, sent := false, waited := 0
                  fresh := false }] } }))))) ∧
  (∀ (s : State) (a : Access) (rest : List Access) (tk : Ticket), s.por = false →
    s.lnk.queue = a :: rest → a.owner = some tk → a.sent = true →
    let echo := match a.target with
      | .primary => s.lnk.echo0
      | .secondary => s.lnk.echo1
    let u := { s with lnk := { s.lnk with queue := rest } }
    (∀ ec : Echo, echo = some ec → ec.index = a.index → 1 ≤ a.waited →
      exec .convReadCompletion s = .next
        (u.answer tk .done (.converter ec.data a.index a.target a.waited)) ∧
      exec .convReadTimeout s = .next s) ∧
    ((∀ ec : Echo, echo = some ec → ec.index ≠ a.index) →
      exec .convReadCompletion s = .next s ∧
      (8 ≤ a.waited → exec .convReadTimeout s = .next (u.answer tk .timeout .none)) ∧
      (a.waited < 8 → exec .convReadTimeout s = .next s))) ∧
  (∀ (s : State) (v : Nat), s.por = false → s.lnk.levelPending = some v →
    (s.lnk.queue.length < 4 →
      exec .levelWriteJoin s = .next { s with lnk := { s.lnk with
        levelPending := none
        queue := s.lnk.queue ++ [{
          owner := none, tag := none, data := some v, target := .primary, index := 64
          sent := false, waited := 0, fresh := false }] } }) ∧
    (4 ≤ s.lnk.queue.length → exec .levelWriteJoin s = .next s))

/-! ### Invariants that every step keeps -/

/-- The state after reset meets the four invariants, and its delay memory the canonical form. -/
def Obligations.ResetMeetsTheInvariants : Prop :=
  State.reset.portsOk = true ∧ State.reset.poolOk = true ∧ State.reset.protectionOk = true ∧
    State.reset.rangesOk = true ∧ Memory.wf State.reset.spl.mem = true

/-- R188, R191, R193 to R196, R200: every step keeps every port within its bounds: at most 4 requests with
RDY as R191 gives, eight reply entries with each filled one waiting once, one message on the line, at
most 16 notices, of subscribed classes, with at most one of each latest-only class. -/
def Obligations.StepKeepsThePorts : Prop :=
  ∀ s t : State, s.portsOk = true → step s = .next t → t.portsOk = true

/-- R52, R54, R57, R71: every step keeps each of the 48 segments in exactly one place, and the delay
memory in its canonical form. -/
def Obligations.StepKeepsThePool : Prop :=
  ∀ s t : State, s.poolOk = true → step s = .next t → t.poolOk = true

/-- R113, R152, R153, R157, R168, R178: every step keeps the output gain, the gain state, the reason set,
the relay move, the fault record and the switch in agreement, and a held final step with its rest. -/
def Obligations.StepKeepsProtection : Prop :=
  ∀ s t : State, s.protectionOk = true → step s = .next t → t.protectionOk = true

/-- R1, R24, R73, R84, R116, R127, R134, R139, R150, R182: every step keeps every record of the library, the
live scene and every counted register within its range, no previous sample across a gap, and no block of
sixteen frames that has not made its boundary. -/
def Obligations.StepKeepsTheRanges : Prop :=
  ∀ s t : State, s.rangesOk = true → step s = .next t → t.rangesOk = true
end

