-- ==== Sys2Proof/Laws/Bytes.lean ====
section
/-! SUPPORT. Numbers as bytes, low byte first (R190), and the check byte of a message (section 10.2). -/

namespace Sys2Proof

@[simp] theorem leBytes_length : ∀ w v : Nat, (leBytes w v).length = w
  | 0, _ => rfl
  | w + 1, v => by simp [leBytes, leBytes_length w]

/-- Reading back a number written in w bytes. -/
theorem leNat_leBytes : ∀ w v : Nat, leNat (leBytes w v) = v % 256 ^ w
  | 0, v => by simp [leBytes, leNat, Nat.mod_one]
  | w + 1, v => by
    simp only [leBytes, leNat, leNat_leBytes w, BitVec.toNat_ofNat]
    rw [show (2 : Nat) ^ 8 = 256 from rfl, Nat.pow_succ, Nat.mul_comm (256 ^ w) 256, Nat.mod_mul]

/-- Reading back an integer of four bytes. -/
theorem leInt_intBytes {v : Int} (h : intFits v = true) : leInt (intBytes 4 v) = v := by
  simp only [intFits, Bool.and_eq_true, decide_eq_true_eq] at h
  simp only [leInt, intBytes, leNat_leBytes, leBytes_length]
  norm_num
  split <;> omega

/-- Splitting a list into pieces of w bytes and joining them loses nothing. -/
theorem pieces_flatten {w : Nat} (hw : 0 < w) :
    ∀ (fuel : Nat) (bs : List Byte), bs.length ≤ fuel → (pieces w fuel bs).flatten = bs
  | 0, bs, h => by
    have : bs = [] := List.eq_nil_of_length_eq_zero (by omega)
    simp [this, pieces]
  | fuel + 1, [], _ => by simp [pieces]
  | fuel + 1, b :: bs, h => by
    have hlen : ((b :: bs).drop w).length ≤ fuel := by
      simp only [List.length_drop, List.length_cons] at h ⊢
      omega
    rw [pieces, List.flatten_cons, pieces_flatten hw fuel _ hlen, List.take_append_drop]
    exact fun h => nomatch h

namespace Machine

theorem sumBytes_append : ∀ xs ys : List Byte, sumBytes (xs ++ ys) = sumBytes xs + sumBytes ys
  | [], ys => by simp [sumBytes]
  | x :: xs, ys => by simp [sumBytes, sumBytes_append xs ys, Nat.add_assoc]

/-- The bytes of a message after its sync byte sum to 0 modulo 256. -/
theorem message_sum (sync : Byte) (body : List Byte) :
    sumBytes ((message sync body).drop 1) % 256 = 0 := by
  simp only [message, List.cons_append, List.drop_succ_cons, List.drop_zero, sumBytes_append, sumBytes,
    BitVec.toNat_ofNat]
  omega

end Machine

end Sys2Proof
end

