-- ==== Sys2Proof/Laws/State.lean ====
section
/-! SUPPORT. The fields of the state that each named update leaves alone: one lemma per field and update,
each true by rfl. -/

namespace Sys2Proof.Machine

/-! `State.setPort` changes `pif`. -/

@[simp] theorem State.setPort_scn (s : State) (p : Port) (x : PortState) :
    (s.setPort p x).scn = s.scn := rfl

@[simp] theorem State.setPort_sen (s : State) (p : Port) (x : PortState) :
    (s.setPort p x).sen = s.sen := rfl

@[simp] theorem State.setPort_spl (s : State) (p : Port) (x : PortState) :
    (s.setPort p x).spl = s.spl := rfl

@[simp] theorem State.setPort_lib (s : State) (p : Port) (x : PortState) :
    (s.setPort p x).lib = s.lib := rfl

@[simp] theorem State.setPort_tgn (s : State) (p : Port) (x : PortState) :
    (s.setPort p x).tgn = s.tgn := rfl

@[simp] theorem State.setPort_tun (s : State) (p : Port) (x : PortState) :
    (s.setPort p x).tun = s.tun := rfl

@[simp] theorem State.setPort_opu (s : State) (p : Port) (x : PortState) :
    (s.setPort p x).opu = s.opu := rfl

@[simp] theorem State.setPort_lnk (s : State) (p : Port) (x : PortState) :
    (s.setPort p x).lnk = s.lnk := rfl

@[simp] theorem State.setPort_por (s : State) (p : Port) (x : PortState) :
    (s.setPort p x).por = s.por := rfl

@[simp] theorem State.setPort_freeCtr (s : State) (p : Port) (x : PortState) :
    (s.setPort p x).freeCtr = s.freeCtr := rfl

@[simp] theorem State.setPort_pending (s : State) (p : Port) (x : PortState) :
    (s.setPort p x).pending = s.pending := rfl

/-! `State.answer` changes `pif`. -/

@[simp] theorem State.answer_scn (s : State) (t : Ticket) (st : Status) (f : Fields) :
    (s.answer t st f).scn = s.scn := rfl

@[simp] theorem State.answer_sen (s : State) (t : Ticket) (st : Status) (f : Fields) :
    (s.answer t st f).sen = s.sen := rfl

@[simp] theorem State.answer_spl (s : State) (t : Ticket) (st : Status) (f : Fields) :
    (s.answer t st f).spl = s.spl := rfl

@[simp] theorem State.answer_lib (s : State) (t : Ticket) (st : Status) (f : Fields) :
    (s.answer t st f).lib = s.lib := rfl

@[simp] theorem State.answer_tgn (s : State) (t : Ticket) (st : Status) (f : Fields) :
    (s.answer t st f).tgn = s.tgn := rfl

@[simp] theorem State.answer_tun (s : State) (t : Ticket) (st : Status) (f : Fields) :
    (s.answer t st f).tun = s.tun := rfl

@[simp] theorem State.answer_opu (s : State) (t : Ticket) (st : Status) (f : Fields) :
    (s.answer t st f).opu = s.opu := rfl

@[simp] theorem State.answer_lnk (s : State) (t : Ticket) (st : Status) (f : Fields) :
    (s.answer t st f).lnk = s.lnk := rfl

@[simp] theorem State.answer_por (s : State) (t : Ticket) (st : Status) (f : Fields) :
    (s.answer t st f).por = s.por := rfl

@[simp] theorem State.answer_freeCtr (s : State) (t : Ticket) (st : Status) (f : Fields) :
    (s.answer t st f).freeCtr = s.freeCtr := rfl

@[simp] theorem State.answer_pending (s : State) (t : Ticket) (st : Status) (f : Fields) :
    (s.answer t st f).pending = s.pending := rfl

/-! `State.raise` changes `pif`. -/

@[simp] theorem State.raise_scn (s : State) (n : Notice) :
    (s.raise n).scn = s.scn := rfl

@[simp] theorem State.raise_sen (s : State) (n : Notice) :
    (s.raise n).sen = s.sen := rfl

@[simp] theorem State.raise_spl (s : State) (n : Notice) :
    (s.raise n).spl = s.spl := rfl

@[simp] theorem State.raise_lib (s : State) (n : Notice) :
    (s.raise n).lib = s.lib := rfl

@[simp] theorem State.raise_tgn (s : State) (n : Notice) :
    (s.raise n).tgn = s.tgn := rfl

@[simp] theorem State.raise_tun (s : State) (n : Notice) :
    (s.raise n).tun = s.tun := rfl

@[simp] theorem State.raise_opu (s : State) (n : Notice) :
    (s.raise n).opu = s.opu := rfl

@[simp] theorem State.raise_lnk (s : State) (n : Notice) :
    (s.raise n).lnk = s.lnk := rfl

@[simp] theorem State.raise_por (s : State) (n : Notice) :
    (s.raise n).por = s.por := rfl

@[simp] theorem State.raise_freeCtr (s : State) (n : Notice) :
    (s.raise n).freeCtr = s.freeCtr := rfl

@[simp] theorem State.raise_pending (s : State) (n : Notice) :
    (s.raise n).pending = s.pending := rfl

/-! `State.addReason` changes `opu`. -/

@[simp] theorem State.addReason_pif (s : State) (r : Reason) :
    (s.addReason r).pif = s.pif := rfl

@[simp] theorem State.addReason_scn (s : State) (r : Reason) :
    (s.addReason r).scn = s.scn := rfl

@[simp] theorem State.addReason_sen (s : State) (r : Reason) :
    (s.addReason r).sen = s.sen := rfl

@[simp] theorem State.addReason_spl (s : State) (r : Reason) :
    (s.addReason r).spl = s.spl := rfl

@[simp] theorem State.addReason_lib (s : State) (r : Reason) :
    (s.addReason r).lib = s.lib := rfl

@[simp] theorem State.addReason_tgn (s : State) (r : Reason) :
    (s.addReason r).tgn = s.tgn := rfl

@[simp] theorem State.addReason_tun (s : State) (r : Reason) :
    (s.addReason r).tun = s.tun := rfl

@[simp] theorem State.addReason_lnk (s : State) (r : Reason) :
    (s.addReason r).lnk = s.lnk := rfl

@[simp] theorem State.addReason_por (s : State) (r : Reason) :
    (s.addReason r).por = s.por := rfl

@[simp] theorem State.addReason_freeCtr (s : State) (r : Reason) :
    (s.addReason r).freeCtr = s.freeCtr := rfl

@[simp] theorem State.addReason_pending (s : State) (r : Reason) :
    (s.addReason r).pending = s.pending := rfl

/-! `State.removeReason` changes `opu`. -/

@[simp] theorem State.removeReason_pif (s : State) (r : Reason) :
    (s.removeReason r).pif = s.pif := rfl

@[simp] theorem State.removeReason_scn (s : State) (r : Reason) :
    (s.removeReason r).scn = s.scn := rfl

@[simp] theorem State.removeReason_sen (s : State) (r : Reason) :
    (s.removeReason r).sen = s.sen := rfl

@[simp] theorem State.removeReason_spl (s : State) (r : Reason) :
    (s.removeReason r).spl = s.spl := rfl

@[simp] theorem State.removeReason_lib (s : State) (r : Reason) :
    (s.removeReason r).lib = s.lib := rfl

@[simp] theorem State.removeReason_tgn (s : State) (r : Reason) :
    (s.removeReason r).tgn = s.tgn := rfl

@[simp] theorem State.removeReason_tun (s : State) (r : Reason) :
    (s.removeReason r).tun = s.tun := rfl

@[simp] theorem State.removeReason_lnk (s : State) (r : Reason) :
    (s.removeReason r).lnk = s.lnk := rfl

@[simp] theorem State.removeReason_por (s : State) (r : Reason) :
    (s.removeReason r).por = s.por := rfl

@[simp] theorem State.removeReason_freeCtr (s : State) (r : Reason) :
    (s.removeReason r).freeCtr = s.freeCtr := rfl

@[simp] theorem State.removeReason_pending (s : State) (r : Reason) :
    (s.removeReason r).pending = s.pending := rfl

/-! `State.setSlot` changes `scn`. -/

@[simp] theorem State.setSlot_pif (s : State) (n : Nat) (rec : Option Preset) :
    (s.setSlot n rec).pif = s.pif := rfl

@[simp] theorem State.setSlot_sen (s : State) (n : Nat) (rec : Option Preset) :
    (s.setSlot n rec).sen = s.sen := rfl

@[simp] theorem State.setSlot_spl (s : State) (n : Nat) (rec : Option Preset) :
    (s.setSlot n rec).spl = s.spl := rfl

@[simp] theorem State.setSlot_lib (s : State) (n : Nat) (rec : Option Preset) :
    (s.setSlot n rec).lib = s.lib := rfl

@[simp] theorem State.setSlot_tgn (s : State) (n : Nat) (rec : Option Preset) :
    (s.setSlot n rec).tgn = s.tgn := rfl

@[simp] theorem State.setSlot_tun (s : State) (n : Nat) (rec : Option Preset) :
    (s.setSlot n rec).tun = s.tun := rfl

@[simp] theorem State.setSlot_opu (s : State) (n : Nat) (rec : Option Preset) :
    (s.setSlot n rec).opu = s.opu := rfl

@[simp] theorem State.setSlot_lnk (s : State) (n : Nat) (rec : Option Preset) :
    (s.setSlot n rec).lnk = s.lnk := rfl

@[simp] theorem State.setSlot_por (s : State) (n : Nat) (rec : Option Preset) :
    (s.setSlot n rec).por = s.por := rfl

@[simp] theorem State.setSlot_freeCtr (s : State) (n : Nat) (rec : Option Preset) :
    (s.setSlot n rec).freeCtr = s.freeCtr := rfl

@[simp] theorem State.setSlot_pending (s : State) (n : Nat) (rec : Option Preset) :
    (s.setSlot n rec).pending = s.pending := rfl

/-! `State.handLevel` changes `lnk`. -/

@[simp] theorem State.handLevel_pif (s : State) :
    (s.handLevel).pif = s.pif := rfl

@[simp] theorem State.handLevel_scn (s : State) :
    (s.handLevel).scn = s.scn := rfl

@[simp] theorem State.handLevel_sen (s : State) :
    (s.handLevel).sen = s.sen := rfl

@[simp] theorem State.handLevel_spl (s : State) :
    (s.handLevel).spl = s.spl := rfl

@[simp] theorem State.handLevel_lib (s : State) :
    (s.handLevel).lib = s.lib := rfl

@[simp] theorem State.handLevel_tgn (s : State) :
    (s.handLevel).tgn = s.tgn := rfl

@[simp] theorem State.handLevel_tun (s : State) :
    (s.handLevel).tun = s.tun := rfl

@[simp] theorem State.handLevel_opu (s : State) :
    (s.handLevel).opu = s.opu := rfl

@[simp] theorem State.handLevel_por (s : State) :
    (s.handLevel).por = s.por := rfl

@[simp] theorem State.handLevel_freeCtr (s : State) :
    (s.handLevel).freeCtr = s.freeCtr := rfl

@[simp] theorem State.handLevel_pending (s : State) :
    (s.handLevel).pending = s.pending := rfl

/-! `State.joinQueue` changes `lnk`. -/

@[simp] theorem State.joinQueue_pif (s : State) (a : Access) :
    (s.joinQueue a).pif = s.pif := rfl

@[simp] theorem State.joinQueue_scn (s : State) (a : Access) :
    (s.joinQueue a).scn = s.scn := rfl

@[simp] theorem State.joinQueue_sen (s : State) (a : Access) :
    (s.joinQueue a).sen = s.sen := rfl

@[simp] theorem State.joinQueue_spl (s : State) (a : Access) :
    (s.joinQueue a).spl = s.spl := rfl

@[simp] theorem State.joinQueue_lib (s : State) (a : Access) :
    (s.joinQueue a).lib = s.lib := rfl

@[simp] theorem State.joinQueue_tgn (s : State) (a : Access) :
    (s.joinQueue a).tgn = s.tgn := rfl

@[simp] theorem State.joinQueue_tun (s : State) (a : Access) :
    (s.joinQueue a).tun = s.tun := rfl

@[simp] theorem State.joinQueue_opu (s : State) (a : Access) :
    (s.joinQueue a).opu = s.opu := rfl

@[simp] theorem State.joinQueue_por (s : State) (a : Access) :
    (s.joinQueue a).por = s.por := rfl

@[simp] theorem State.joinQueue_freeCtr (s : State) (a : Access) :
    (s.joinQueue a).freeCtr = s.freeCtr := rfl

@[simp] theorem State.joinQueue_pending (s : State) (a : Access) :
    (s.joinQueue a).pending = s.pending := rfl

/-! `State.dropBlock` changes `sen`. -/

@[simp] theorem State.dropBlock_pif (s : State) :
    (s.dropBlock).pif = s.pif := rfl

@[simp] theorem State.dropBlock_scn (s : State) :
    (s.dropBlock).scn = s.scn := rfl

@[simp] theorem State.dropBlock_spl (s : State) :
    (s.dropBlock).spl = s.spl := rfl

@[simp] theorem State.dropBlock_lib (s : State) :
    (s.dropBlock).lib = s.lib := rfl

@[simp] theorem State.dropBlock_tgn (s : State) :
    (s.dropBlock).tgn = s.tgn := rfl

@[simp] theorem State.dropBlock_tun (s : State) :
    (s.dropBlock).tun = s.tun := rfl

@[simp] theorem State.dropBlock_opu (s : State) :
    (s.dropBlock).opu = s.opu := rfl

@[simp] theorem State.dropBlock_lnk (s : State) :
    (s.dropBlock).lnk = s.lnk := rfl

@[simp] theorem State.dropBlock_por (s : State) :
    (s.dropBlock).por = s.por := rfl

@[simp] theorem State.dropBlock_freeCtr (s : State) :
    (s.dropBlock).freeCtr = s.freeCtr := rfl

@[simp] theorem State.dropBlock_pending (s : State) :
    (s.dropBlock).pending = s.pending := rfl

/-! `State.makeCommitDue` changes `scn`. -/

@[simp] theorem State.makeCommitDue_pif (s : State) :
    (s.makeCommitDue).pif = s.pif := rfl

@[simp] theorem State.makeCommitDue_sen (s : State) :
    (s.makeCommitDue).sen = s.sen := rfl

@[simp] theorem State.makeCommitDue_spl (s : State) :
    (s.makeCommitDue).spl = s.spl := rfl

@[simp] theorem State.makeCommitDue_lib (s : State) :
    (s.makeCommitDue).lib = s.lib := rfl

@[simp] theorem State.makeCommitDue_tgn (s : State) :
    (s.makeCommitDue).tgn = s.tgn := rfl

@[simp] theorem State.makeCommitDue_tun (s : State) :
    (s.makeCommitDue).tun = s.tun := rfl

@[simp] theorem State.makeCommitDue_opu (s : State) :
    (s.makeCommitDue).opu = s.opu := rfl

@[simp] theorem State.makeCommitDue_lnk (s : State) :
    (s.makeCommitDue).lnk = s.lnk := rfl

@[simp] theorem State.makeCommitDue_por (s : State) :
    (s.makeCommitDue).por = s.por := rfl

@[simp] theorem State.makeCommitDue_freeCtr (s : State) :
    (s.makeCommitDue).freeCtr = s.freeCtr := rfl

@[simp] theorem State.makeCommitDue_pending (s : State) :
    (s.makeCommitDue).pending = s.pending := rfl

/-! `State.selectFor` changes `sen`, `spl`. -/

@[simp] theorem State.selectFor_pif (s : State) (n : Nat) :
    (s.selectFor n).pif = s.pif := rfl

@[simp] theorem State.selectFor_scn (s : State) (n : Nat) :
    (s.selectFor n).scn = s.scn := rfl

@[simp] theorem State.selectFor_lib (s : State) (n : Nat) :
    (s.selectFor n).lib = s.lib := rfl

@[simp] theorem State.selectFor_tgn (s : State) (n : Nat) :
    (s.selectFor n).tgn = s.tgn := rfl

@[simp] theorem State.selectFor_tun (s : State) (n : Nat) :
    (s.selectFor n).tun = s.tun := rfl

@[simp] theorem State.selectFor_opu (s : State) (n : Nat) :
    (s.selectFor n).opu = s.opu := rfl

@[simp] theorem State.selectFor_lnk (s : State) (n : Nat) :
    (s.selectFor n).lnk = s.lnk := rfl

@[simp] theorem State.selectFor_por (s : State) (n : Nat) :
    (s.selectFor n).por = s.por := rfl

@[simp] theorem State.selectFor_freeCtr (s : State) (n : Nat) :
    (s.selectFor n).freeCtr = s.freeCtr := rfl

@[simp] theorem State.selectFor_pending (s : State) (n : Nat) :
    (s.selectFor n).pending = s.pending := rfl

/-! `State.emptyBack` changes `sen`, `spl`. -/

@[simp] theorem State.emptyBack_pif (s : State) :
    (s.emptyBack).pif = s.pif := rfl

@[simp] theorem State.emptyBack_scn (s : State) :
    (s.emptyBack).scn = s.scn := rfl

@[simp] theorem State.emptyBack_lib (s : State) :
    (s.emptyBack).lib = s.lib := rfl

@[simp] theorem State.emptyBack_tgn (s : State) :
    (s.emptyBack).tgn = s.tgn := rfl

@[simp] theorem State.emptyBack_tun (s : State) :
    (s.emptyBack).tun = s.tun := rfl

@[simp] theorem State.emptyBack_opu (s : State) :
    (s.emptyBack).opu = s.opu := rfl

@[simp] theorem State.emptyBack_lnk (s : State) :
    (s.emptyBack).lnk = s.lnk := rfl

@[simp] theorem State.emptyBack_por (s : State) :
    (s.emptyBack).por = s.por := rfl

@[simp] theorem State.emptyBack_freeCtr (s : State) :
    (s.emptyBack).freeCtr = s.freeCtr := rfl

@[simp] theorem State.emptyBack_pending (s : State) :
    (s.emptyBack).pending = s.pending := rfl

/-! `State.emptyAll` changes `sen`, `spl`. -/

@[simp] theorem State.emptyAll_pif (s : State) :
    (s.emptyAll).pif = s.pif := rfl

@[simp] theorem State.emptyAll_scn (s : State) :
    (s.emptyAll).scn = s.scn := rfl

@[simp] theorem State.emptyAll_lib (s : State) :
    (s.emptyAll).lib = s.lib := rfl

@[simp] theorem State.emptyAll_tgn (s : State) :
    (s.emptyAll).tgn = s.tgn := rfl

@[simp] theorem State.emptyAll_tun (s : State) :
    (s.emptyAll).tun = s.tun := rfl

@[simp] theorem State.emptyAll_opu (s : State) :
    (s.emptyAll).opu = s.opu := rfl

@[simp] theorem State.emptyAll_lnk (s : State) :
    (s.emptyAll).lnk = s.lnk := rfl

@[simp] theorem State.emptyAll_por (s : State) :
    (s.emptyAll).por = s.por := rfl

@[simp] theorem State.emptyAll_freeCtr (s : State) :
    (s.emptyAll).freeCtr = s.freeCtr := rfl

@[simp] theorem State.emptyAll_pending (s : State) :
    (s.emptyAll).pending = s.pending := rfl

/-! `State.grantBack` changes `scn`, `sen`, `spl`. -/

@[simp] theorem State.grantBack_pif (s : State) :
    (s.grantBack).pif = s.pif := rfl

@[simp] theorem State.grantBack_lib (s : State) :
    (s.grantBack).lib = s.lib := rfl

@[simp] theorem State.grantBack_tgn (s : State) :
    (s.grantBack).tgn = s.tgn := rfl

@[simp] theorem State.grantBack_tun (s : State) :
    (s.grantBack).tun = s.tun := rfl

@[simp] theorem State.grantBack_opu (s : State) :
    (s.grantBack).opu = s.opu := rfl

@[simp] theorem State.grantBack_lnk (s : State) :
    (s.grantBack).lnk = s.lnk := rfl

@[simp] theorem State.grantBack_por (s : State) :
    (s.grantBack).por = s.por := rfl

@[simp] theorem State.grantBack_freeCtr (s : State) :
    (s.grantBack).freeCtr = s.freeCtr := rfl

@[simp] theorem State.grantBack_pending (s : State) :
    (s.grantBack).pending = s.pending := rfl

/-! `State.exchange` changes `sen`, `spl`. -/

@[simp] theorem State.exchange_pif (s : State) :
    (s.exchange).pif = s.pif := rfl

@[simp] theorem State.exchange_scn (s : State) :
    (s.exchange).scn = s.scn := rfl

@[simp] theorem State.exchange_lib (s : State) :
    (s.exchange).lib = s.lib := rfl

@[simp] theorem State.exchange_tgn (s : State) :
    (s.exchange).tgn = s.tgn := rfl

@[simp] theorem State.exchange_tun (s : State) :
    (s.exchange).tun = s.tun := rfl

@[simp] theorem State.exchange_opu (s : State) :
    (s.exchange).opu = s.opu := rfl

@[simp] theorem State.exchange_lnk (s : State) :
    (s.exchange).lnk = s.lnk := rfl

@[simp] theorem State.exchange_por (s : State) :
    (s.exchange).por = s.por := rfl

@[simp] theorem State.exchange_freeCtr (s : State) :
    (s.exchange).freeCtr = s.freeCtr := rfl

@[simp] theorem State.exchange_pending (s : State) :
    (s.exchange).pending = s.pending := rfl

/-! `State.startEngine` changes `sen`, `spl`, `opu`. -/

@[simp] theorem State.startEngine_pif (s : State) (r : Reason) :
    (s.startEngine r).pif = s.pif := rfl

@[simp] theorem State.startEngine_scn (s : State) (r : Reason) :
    (s.startEngine r).scn = s.scn := rfl

@[simp] theorem State.startEngine_lib (s : State) (r : Reason) :
    (s.startEngine r).lib = s.lib := rfl

@[simp] theorem State.startEngine_tgn (s : State) (r : Reason) :
    (s.startEngine r).tgn = s.tgn := rfl

@[simp] theorem State.startEngine_tun (s : State) (r : Reason) :
    (s.startEngine r).tun = s.tun := rfl

@[simp] theorem State.startEngine_lnk (s : State) (r : Reason) :
    (s.startEngine r).lnk = s.lnk := rfl

@[simp] theorem State.startEngine_por (s : State) (r : Reason) :
    (s.startEngine r).por = s.por := rfl

@[simp] theorem State.startEngine_freeCtr (s : State) (r : Reason) :
    (s.startEngine r).freeCtr = s.freeCtr := rfl

@[simp] theorem State.startEngine_pending (s : State) (r : Reason) :
    (s.startEngine r).pending = s.pending := rfl

/-! `State.stopEngine` changes `sen`, `spl`. -/

@[simp] theorem State.stopEngine_pif (s : State) (d : EngineState) :
    (s.stopEngine d).pif = s.pif := rfl

@[simp] theorem State.stopEngine_scn (s : State) (d : EngineState) :
    (s.stopEngine d).scn = s.scn := rfl

@[simp] theorem State.stopEngine_lib (s : State) (d : EngineState) :
    (s.stopEngine d).lib = s.lib := rfl

@[simp] theorem State.stopEngine_tgn (s : State) (d : EngineState) :
    (s.stopEngine d).tgn = s.tgn := rfl

@[simp] theorem State.stopEngine_tun (s : State) (d : EngineState) :
    (s.stopEngine d).tun = s.tun := rfl

@[simp] theorem State.stopEngine_opu (s : State) (d : EngineState) :
    (s.stopEngine d).opu = s.opu := rfl

@[simp] theorem State.stopEngine_lnk (s : State) (d : EngineState) :
    (s.stopEngine d).lnk = s.lnk := rfl

@[simp] theorem State.stopEngine_por (s : State) (d : EngineState) :
    (s.stopEngine d).por = s.por := rfl

@[simp] theorem State.stopEngine_freeCtr (s : State) (d : EngineState) :
    (s.stopEngine d).freeCtr = s.freeCtr := rfl

@[simp] theorem State.stopEngine_pending (s : State) (d : EngineState) :
    (s.stopEngine d).pending = s.pending := rfl

/-! `State.buildBack` changes `scn`, `sen`, `spl`. -/

@[simp] theorem State.buildBack_pif (s : State) :
    (s.buildBack).pif = s.pif := rfl

@[simp] theorem State.buildBack_lib (s : State) :
    (s.buildBack).lib = s.lib := rfl

@[simp] theorem State.buildBack_tgn (s : State) :
    (s.buildBack).tgn = s.tgn := rfl

@[simp] theorem State.buildBack_tun (s : State) :
    (s.buildBack).tun = s.tun := rfl

@[simp] theorem State.buildBack_opu (s : State) :
    (s.buildBack).opu = s.opu := rfl

@[simp] theorem State.buildBack_lnk (s : State) :
    (s.buildBack).lnk = s.lnk := rfl

@[simp] theorem State.buildBack_por (s : State) :
    (s.buildBack).por = s.por := rfl

@[simp] theorem State.buildBack_freeCtr (s : State) :
    (s.buildBack).freeCtr = s.freeCtr := rfl

@[simp] theorem State.buildBack_pending (s : State) :
    (s.buildBack).pending = s.pending := rfl

/-! `State.buildFront` changes `sen`, `spl`, `opu`. -/

@[simp] theorem State.buildFront_pif (s : State) :
    (s.buildFront).pif = s.pif := rfl

@[simp] theorem State.buildFront_scn (s : State) :
    (s.buildFront).scn = s.scn := rfl

@[simp] theorem State.buildFront_lib (s : State) :
    (s.buildFront).lib = s.lib := rfl

@[simp] theorem State.buildFront_tgn (s : State) :
    (s.buildFront).tgn = s.tgn := rfl

@[simp] theorem State.buildFront_tun (s : State) :
    (s.buildFront).tun = s.tun := rfl

@[simp] theorem State.buildFront_lnk (s : State) :
    (s.buildFront).lnk = s.lnk := rfl

@[simp] theorem State.buildFront_por (s : State) :
    (s.buildFront).por = s.por := rfl

@[simp] theorem State.buildFront_freeCtr (s : State) :
    (s.buildFront).freeCtr = s.freeCtr := rfl

@[simp] theorem State.buildFront_pending (s : State) :
    (s.buildFront).pending = s.pending := rfl

/-! `State.beginPass` changes `sen`, `spl`. -/

@[simp] theorem State.beginPass_pif (s : State) (b : List (Int × Int)) :
    (s.beginPass b).pif = s.pif := rfl

@[simp] theorem State.beginPass_scn (s : State) (b : List (Int × Int)) :
    (s.beginPass b).scn = s.scn := rfl

@[simp] theorem State.beginPass_lib (s : State) (b : List (Int × Int)) :
    (s.beginPass b).lib = s.lib := rfl

@[simp] theorem State.beginPass_tgn (s : State) (b : List (Int × Int)) :
    (s.beginPass b).tgn = s.tgn := rfl

@[simp] theorem State.beginPass_tun (s : State) (b : List (Int × Int)) :
    (s.beginPass b).tun = s.tun := rfl

@[simp] theorem State.beginPass_opu (s : State) (b : List (Int × Int)) :
    (s.beginPass b).opu = s.opu := rfl

@[simp] theorem State.beginPass_lnk (s : State) (b : List (Int × Int)) :
    (s.beginPass b).lnk = s.lnk := rfl

@[simp] theorem State.beginPass_por (s : State) (b : List (Int × Int)) :
    (s.beginPass b).por = s.por := rfl

@[simp] theorem State.beginPass_freeCtr (s : State) (b : List (Int × Int)) :
    (s.beginPass b).freeCtr = s.freeCtr := rfl

@[simp] theorem State.beginPass_pending (s : State) (b : List (Int × Int)) :
    (s.beginPass b).pending = s.pending := rfl

/-! `State.elapse` changes `pif`, `opu`, `lnk`. -/

@[simp] theorem State.elapse_scn (s : State) (d : Nat) :
    (s.elapse d).scn = s.scn := rfl

@[simp] theorem State.elapse_sen (s : State) (d : Nat) :
    (s.elapse d).sen = s.sen := rfl

@[simp] theorem State.elapse_spl (s : State) (d : Nat) :
    (s.elapse d).spl = s.spl := rfl

@[simp] theorem State.elapse_lib (s : State) (d : Nat) :
    (s.elapse d).lib = s.lib := rfl

@[simp] theorem State.elapse_tgn (s : State) (d : Nat) :
    (s.elapse d).tgn = s.tgn := rfl

@[simp] theorem State.elapse_tun (s : State) (d : Nat) :
    (s.elapse d).tun = s.tun := rfl

@[simp] theorem State.elapse_por (s : State) (d : Nat) :
    (s.elapse d).por = s.por := rfl

@[simp] theorem State.elapse_freeCtr (s : State) (d : Nat) :
    (s.elapse d).freeCtr = s.freeCtr := rfl

@[simp] theorem State.elapse_pending (s : State) (d : Nat) :
    (s.elapse d).pending = s.pending := rfl

/-! `State.taken` changes `pif`. -/

@[simp] theorem State.taken_scn (s : State) (p : Port) (tag : Byte) (kind e : Nat) :
    (s.taken p tag kind e).scn = s.scn := rfl

@[simp] theorem State.taken_sen (s : State) (p : Port) (tag : Byte) (kind e : Nat) :
    (s.taken p tag kind e).sen = s.sen := rfl

@[simp] theorem State.taken_spl (s : State) (p : Port) (tag : Byte) (kind e : Nat) :
    (s.taken p tag kind e).spl = s.spl := rfl

@[simp] theorem State.taken_lib (s : State) (p : Port) (tag : Byte) (kind e : Nat) :
    (s.taken p tag kind e).lib = s.lib := rfl

@[simp] theorem State.taken_tgn (s : State) (p : Port) (tag : Byte) (kind e : Nat) :
    (s.taken p tag kind e).tgn = s.tgn := rfl

@[simp] theorem State.taken_tun (s : State) (p : Port) (tag : Byte) (kind e : Nat) :
    (s.taken p tag kind e).tun = s.tun := rfl

@[simp] theorem State.taken_opu (s : State) (p : Port) (tag : Byte) (kind e : Nat) :
    (s.taken p tag kind e).opu = s.opu := rfl

@[simp] theorem State.taken_lnk (s : State) (p : Port) (tag : Byte) (kind e : Nat) :
    (s.taken p tag kind e).lnk = s.lnk := rfl

@[simp] theorem State.taken_por (s : State) (p : Port) (tag : Byte) (kind e : Nat) :
    (s.taken p tag kind e).por = s.por := rfl

@[simp] theorem State.taken_freeCtr (s : State) (p : Port) (tag : Byte) (kind e : Nat) :
    (s.taken p tag kind e).freeCtr = s.freeCtr := rfl

@[simp] theorem State.taken_pending (s : State) (p : Port) (tag : Byte) (kind e : Nat) :
    (s.taken p tag kind e).pending = s.pending := rfl

/-! `State.replied` changes `pif`. -/

@[simp] theorem State.replied_scn (s : State) (p : Port) (tag : Byte) (kind e : Nat) (st : Status) (f : Fields) :
    (s.replied p tag kind e st f).scn = s.scn := rfl

@[simp] theorem State.replied_sen (s : State) (p : Port) (tag : Byte) (kind e : Nat) (st : Status) (f : Fields) :
    (s.replied p tag kind e st f).sen = s.sen := rfl

@[simp] theorem State.replied_spl (s : State) (p : Port) (tag : Byte) (kind e : Nat) (st : Status) (f : Fields) :
    (s.replied p tag kind e st f).spl = s.spl := rfl

@[simp] theorem State.replied_lib (s : State) (p : Port) (tag : Byte) (kind e : Nat) (st : Status) (f : Fields) :
    (s.replied p tag kind e st f).lib = s.lib := rfl

@[simp] theorem State.replied_tgn (s : State) (p : Port) (tag : Byte) (kind e : Nat) (st : Status) (f : Fields) :
    (s.replied p tag kind e st f).tgn = s.tgn := rfl

@[simp] theorem State.replied_tun (s : State) (p : Port) (tag : Byte) (kind e : Nat) (st : Status) (f : Fields) :
    (s.replied p tag kind e st f).tun = s.tun := rfl

@[simp] theorem State.replied_opu (s : State) (p : Port) (tag : Byte) (kind e : Nat) (st : Status) (f : Fields) :
    (s.replied p tag kind e st f).opu = s.opu := rfl

@[simp] theorem State.replied_lnk (s : State) (p : Port) (tag : Byte) (kind e : Nat) (st : Status) (f : Fields) :
    (s.replied p tag kind e st f).lnk = s.lnk := rfl

@[simp] theorem State.replied_por (s : State) (p : Port) (tag : Byte) (kind e : Nat) (st : Status) (f : Fields) :
    (s.replied p tag kind e st f).por = s.por := rfl

@[simp] theorem State.replied_freeCtr (s : State) (p : Port) (tag : Byte) (kind e : Nat) (st : Status) (f : Fields) :
    (s.replied p tag kind e st f).freeCtr = s.freeCtr := rfl

@[simp] theorem State.replied_pending (s : State) (p : Port) (tag : Byte) (kind e : Nat) (st : Status) (f : Fields) :
    (s.replied p tag kind e st f).pending = s.pending := rfl

/-! `Lnk.holdRest` changes `restHeld`. -/

@[simp] theorem Lnk.holdRest_state (k : Lnk) (g : Nat) :
    (k.holdRest g).state = k.state := rfl

@[simp] theorem Lnk.holdRest_primary (k : Lnk) (g : Nat) :
    (k.holdRest g).primary = k.primary := rfl

@[simp] theorem Lnk.holdRest_secondary (k : Lnk) (g : Nat) :
    (k.holdRest g).secondary = k.secondary := rfl

@[simp] theorem Lnk.holdRest_restPending (k : Lnk) (g : Nat) :
    (k.holdRest g).restPending = k.restPending := rfl

@[simp] theorem Lnk.holdRest_restHeld (k : Lnk) (g : Nat) :
    (k.holdRest g).restHeld = (k.restHeld || (k.restPending.isSome && decide (0 < g))) := rfl

@[simp] theorem Lnk.holdRest_wakePending (k : Lnk) (g : Nat) :
    (k.holdRest g).wakePending = k.wakePending := rfl

@[simp] theorem Lnk.holdRest_time (k : Lnk) (g : Nat) :
    (k.holdRest g).time = k.time := rfl

@[simp] theorem Lnk.holdRest_queue (k : Lnk) (g : Nat) :
    (k.holdRest g).queue = k.queue := rfl

@[simp] theorem Lnk.holdRest_levelPending (k : Lnk) (g : Nat) :
    (k.holdRest g).levelPending = k.levelPending := rfl

@[simp] theorem Lnk.holdRest_auxValid (k : Lnk) (g : Nat) :
    (k.holdRest g).auxValid = k.auxValid := rfl

@[simp] theorem Lnk.holdRest_auxIn (k : Lnk) (g : Nat) :
    (k.holdRest g).auxIn = k.auxIn := rfl

@[simp] theorem Lnk.holdRest_echo0 (k : Lnk) (g : Nat) :
    (k.holdRest g).echo0 = k.echo0 := rfl

@[simp] theorem Lnk.holdRest_echo1 (k : Lnk) (g : Nat) :
    (k.holdRest g).echo1 = k.echo1 := rfl

@[simp] theorem Lnk.holdRest_lastOut (k : Lnk) (g : Nat) :
    (k.holdRest g).lastOut = k.lastOut := rfl

end Sys2Proof.Machine
end

