-- ==== Sys2Proof/Laws/Ops.lean ====
section
/-! SUPPORT. The mute reason set, the gain state, the relay and the free list: each shared operation said
once. -/

namespace Sys2Proof.Machine

/-! ### The reason set (R152) -/

@[simp] theorem MuteSet.has_put (m : MuteSet) (r r' : Reason) (b : Bool) :
    (m.put r b).has r' = if r' = r then b else m.has r' := by
  cases r <;> cases r' <;> rfl

/-- The set is empty when it has no reason. -/
theorem MuteSet.isEmpty_iff (m : MuteSet) : m.isEmpty = true ↔ ∀ r, m.has r = false := by
  constructor
  · intro h r
    simp only [MuteSet.isEmpty, Bool.not_eq_true', Bool.or_eq_false_iff] at h
    cases r <;> simp [MuteSet.has, h]
  · intro h
    have h1 := h .stopped
    have h2 := h .starting
    have h3 := h .tunerSilent
    have h4 := h .switchGap
    have h5 := h .relayMove
    have h6 := h .standby
    have h7 := h .masterMute
    have h8 := h .fault
    simp only [MuteSet.has] at h1 h2 h3 h4 h5 h6 h7 h8
    simp [MuteSet.isEmpty, h1, h2, h3, h4, h5, h6, h7, h8]

/-! ### The gain state follows the set (R153) -/

/-- When the set does not change from empty or to empty, the gain state stands. -/
theorem gainStateAfter_same (b : Bool) (g : GainState) : gainStateAfter b b g = g := by
  cases b <;> cases g <;> rfl

/-- A reason entering an empty set starts the ramp down. -/
theorem gainStateAfter_filled (g : GainState) :
    gainStateAfter true false g =
      if g = .opened ∨ g = .rampUp then .rampDown else g := by
  cases g <;> rfl

/-- The last reason leaving starts the ramp up. -/
theorem gainStateAfter_emptied (g : GainState) :
    gainStateAfter false true g = if g = .muted ∨ g = .rampDown then .rampUp else g := by
  cases g <;> rfl

@[simp] theorem Opu.setReasons_reasons (o : Opu) (m : MuteSet) : (o.setReasons m).reasons = m := rfl

@[simp] theorem Opu.setReasons_gain (o : Opu) (m : MuteSet) : (o.setReasons m).gain = o.gain := rfl

@[simp] theorem Opu.setReasons_fault (o : Opu) (m : MuteSet) : (o.setReasons m).fault = o.fault := rfl

@[simp] theorem Opu.setReasons_relay (o : Opu) (m : MuteSet) : (o.setReasons m).relay = o.relay := rfl

@[simp] theorem Opu.setReasons_move (o : Opu) (m : MuteSet) : (o.setReasons m).move = o.move := rfl

/-- A change of the set keeps the gain, the gain state and the set in agreement. -/
theorem Opu.setReasons_gainOk {o : Opu} (h : o.gainOk = true) (m : MuteSet) :
    (o.setReasons m).gainOk = true := by
  obtain ⟨h12, h3⟩ := Bool.and_eq_true_iff.mp h
  refine Bool.and_eq_true_iff.mpr ⟨h12, ?_⟩
  clear h h12
  simp only [Opu.setReasons]
  cases ha : o.reasons.isEmpty <;> cases hb : m.isEmpty <;> cases hg : o.gainState <;>
    simp_all [gainStateAfter]

/-! ### Relay moves (R168, R170) -/

/-- A forced move leaves the relay in BYPASS with no move. -/
theorem Opu.forceBypass_spec (o : Opu) :
    o.forceBypass.relay = .bypass ∧ o.forceBypass.move = none ∧
    o.forceBypass.reasons.relayMove = false ∧ o.forceBypass.gain = o.gain ∧
    o.forceBypass.fault = o.fault := ⟨rfl, rfl, rfl, rfl, rfl⟩

/-- What an ordinary move does: nothing towards the relay's own position, a waiting move otherwise; a
waiting move is turned or given up, a held one keeps the target behind it. -/
theorem Opu.ordinaryMove_spec (o : Opu) (target : Relay) :
    (o.move = none → target = o.relay → o.ordinaryMove target = o) ∧
    (o.move = none → target ≠ o.relay →
      o.ordinaryMove target = { o.addReason .relayMove with
        move := some { target := target, hold := none, next := none } }) ∧
    (∀ m, o.move = some m → m.hold = none → target = o.relay →
      o.ordinaryMove target = { o.removeReason .relayMove with move := none }) ∧
    (∀ m, o.move = some m → m.hold = none → target ≠ o.relay →
      o.ordinaryMove target = { o with move := some { m with target := target } }) ∧
    (∀ m k, o.move = some m → m.hold = some k →
      o.ordinaryMove target = { o with move := some { m with next := some target } }) := by
  refine ⟨?_, ?_, ?_, ?_, ?_⟩
  · intro h1 h2; simp [Opu.ordinaryMove, h1, h2]
  · intro h1 h2; simp [Opu.ordinaryMove, h1, h2]
  · intro m h1 h2 h3; simp [Opu.ordinaryMove, h1, h2, h3]
  · intro m h1 h2 h3; simp [Opu.ordinaryMove, h1, h2, h3]
  · intro m k h1 h2; simp [Opu.ordinaryMove, h1, h2]

/-! ### The free list (R52, R57) -/

theorem putSegment_perm (x : Nat) : ∀ ys : List Nat, (putSegment x ys).Perm (x :: ys)
  | [] => List.Perm.refl _
  | y :: ys => by
    simp only [putSegment]
    split
    · exact List.Perm.refl _
    · exact ((putSegment_perm x ys).cons y).trans (List.Perm.swap x y ys)

/-- Segments put back join those that are free, and none is lost. -/
theorem putSegments_perm : ∀ (xs free : List Nat), (putSegments xs free).Perm (xs ++ free)
  | [], _ => List.Perm.refl _
  | x :: xs, free => (putSegment_perm x _).trans ((putSegments_perm xs free).cons x)

theorem putSegment_sorted {x : Nat} :
    ∀ {ys : List Nat}, ys.Pairwise (· < ·) → x ∉ ys → (putSegment x ys).Pairwise (· < ·)
  | [], _, _ => by simp [putSegment]
  | y :: ys, h, hx => by
    have hxy : x ≠ y := fun e => hx (e ▸ List.mem_cons_self)
    simp only [putSegment]
    split
    · next hle =>
      refine List.pairwise_cons.mpr ⟨?_, h⟩
      intro z hz
      rcases List.mem_cons.mp hz with rfl | hz
      · omega
      · have := (List.pairwise_cons.mp h).1 z hz; omega
    · next hle =>
      refine List.pairwise_cons.mpr ⟨?_, putSegment_sorted (List.pairwise_cons.mp h).2
        (fun hm => hx (List.mem_cons_of_mem _ hm))⟩
      intro z hz
      rcases List.mem_cons.mp ((putSegment_perm x ys).mem_iff.mp hz) with rfl | hz
      · omega
      · exact (List.pairwise_cons.mp h).1 z hz

/-- The free list stays rising when distinct segments that are not free are put back. -/
theorem putSegments_sorted {free : List Nat} (h : free.Pairwise (· < ·)) :
    ∀ {xs : List Nat}, (xs ++ free).Nodup → (putSegments xs free).Pairwise (· < ·)
  | [], _ => h
  | x :: xs, hn => by
    have hn' : x ∉ xs ++ free ∧ (xs ++ free).Nodup := by simpa using List.nodup_cons.mp hn
    exact putSegment_sorted (putSegments_sorted h hn'.2)
      (fun hm => hn'.1 ((putSegments_perm xs free).mem_iff.mp hm))

/-! ### The sixteenth frame and the final step of a rest (R1, R178) -/

/-- A block still under way makes no boundary. -/
theorem State.blockBoundary_of_lt {s : State} (h : s.sen.gathered.length < 16) :
    s.blockBoundary = s :=
  if_neg (Nat.not_le.mpr h)

/-- The final step acts only in RUNNING, on a rest pending with the gain MUTED and no frame to wait for. -/
theorem State.linkRestFinal_cases (s : State) :
    s.linkRestFinal = s ∨
    ∃ t, s.lnk.restPending = some t ∧ s.lnk.state = .running ∧ s.opu.gainState = .muted ∧
      s.lnk.restHeld = false ∧
      s.linkRestFinal =
        ((State.leaveRunning { s with lnk := { s.lnk with restPending := none } } .resting .rest none
          (some t.port)).clearReady).answer t .done .none := by
  unfold State.linkRestFinal
  split
  · next t ht =>
    split
    · next h => exact .inr ⟨t, ht, h.1, h.2.1, h.2.2, rfl⟩
    · exact .inl rfl
  · exact .inl rfl

end Sys2Proof.Machine
end

