-- ==== Sys2Proof/Laws/Ports.lean ====
section
/-! SUPPORT. The ports: reading and replacing a port, the take of a request and its answer said once, and
that notices and answers do not disturb each other. -/

namespace Sys2Proof.Machine

/-! ### Reading and replacing a port -/

@[simp] theorem Pif.port_setPort (f : Pif) (p : Port) (x : PortState) :
    (f.setPort p x).port p = x := by cases p <;> rfl

theorem Pif.port_setPort_ne (f : Pif) {p p' : Port} (x : PortState) (h : p' ≠ p) :
    (f.setPort p x).port p' = f.port p' := by
  cases p <;> cases p' <;> first | rfl | exact absurd rfl h

@[simp] theorem Pif.setPort_setPort (f : Pif) (p : Port) (x y : PortState) :
    (f.setPort p x).setPort p y = f.setPort p y := by cases p <;> rfl

@[simp] theorem Pif.setPort_port (f : Pif) (p : Port) : f.setPort p (f.port p) = f := by
  cases p <;> rfl

@[simp] theorem Pif.setPort_restart (f : Pif) (p : Port) (x : PortState) :
    (f.setPort p x).restart = f.restart := by cases p <;> rfl

@[simp] theorem Pif.setPort_restartCount (f : Pif) (p : Port) (x : PortState) :
    (f.setPort p x).restartCount = f.restartCount := by cases p <;> rfl

@[simp] theorem Pif.setPort_lastStart (f : Pif) (p : Port) (x : PortState) :
    (f.setPort p x).lastStart = f.lastStart := by cases p <;> rfl

@[simp] theorem State.port_setPort (s : State) (p : Port) (x : PortState) :
    (s.setPort p x).port p = x := Pif.port_setPort _ _ _

theorem State.port_setPort_ne (s : State) {p p' : Port} (x : PortState) (h : p' ≠ p) :
    (s.setPort p x).port p' = s.port p' := Pif.port_setPort_ne _ _ h

@[simp] theorem State.setPort_setPort (s : State) (p : Port) (x y : PortState) :
    (s.setPort p x).setPort p y = s.setPort p y := by simp [State.setPort]

@[simp] theorem State.setPort_port (s : State) (p : Port) : s.setPort p (s.port p) = s := by
  simp [State.setPort, State.port]

/-! ### The take and the answer (R192, R193) -/

theorem freeEntryFrom_spec : ∀ (es : List ReplyEntry) (i e : Nat), freeEntryFrom i es = some e →
    i ≤ e ∧ es[e - i]? = some .free
  | [], _, _, h => by simp [freeEntryFrom] at h
  | .free :: _, i, e, h => by
    simp only [freeEntryFrom, Option.some.injEq] at h
    subst h; simp
  | .reserved _ _ :: es, i, e, h => by
    obtain ⟨h1, h2⟩ := freeEntryFrom_spec es (i + 1) e h
    exact ⟨by omega, by rw [show e - i = (e - (i + 1)) + 1 by omega]; simpa using h2⟩
  | .filled _ :: es, i, e, h => by
    obtain ⟨h1, h2⟩ := freeEntryFrom_spec es (i + 1) e h
    exact ⟨by omega, by rw [show e - i = (e - (i + 1)) + 1 by omega]; simpa using h2⟩
  | .sending _ :: es, i, e, h => by
    obtain ⟨h1, h2⟩ := freeEntryFrom_spec es (i + 1) e h
    exact ⟨by omega, by rw [show e - i = (e - (i + 1)) + 1 by omega]; simpa using h2⟩

/-- The entry a take uses is FREE. -/
theorem PortState.freeEntry_free {ps : PortState} {e : Nat} (h : ps.freeEntry = some e) :
    ps.replies[e]? = some .free := by
  simpa using (freeEntryFrom_spec ps.replies 0 e h).2

/-- Filling a reserved entry. -/
theorem PortState.fill_reserved {ps : PortState} {e kind : Nat} {tag : Byte} (st : Status)
    (f : Fields) (h : ps.replies[e]? = some (.reserved tag kind)) :
    ps.fill e st f =
      { ps with
        replies := ps.replies.set e (.filled { tag := tag, kind := kind, status := st, fields := f })
        order := ps.order ++ [e] } := by
  simp [PortState.fill, h]

/-- What the take of a request does before its owner acts. -/
theorem takeRequest_of_takes {s : State} {p : Port} {tag : Byte} {q : Request} {e : Nat}
    (h : Takes s p tag q e) (owner : Ticket → State → State) :
    takeRequest p tag q owner s = owner { port := p, entry := e } (s.taken p tag q.code e) := by
  obtain ⟨hpor, hres, hq, hfree⟩ := h
  obtain ⟨b, rest, hb⟩ : ∃ b rest, (s.port p).requests = b :: rest := by
    cases hr : (s.port p).requests with
    | nil => simp [hr] at hq
    | cons b rest => exact ⟨b, rest, rfl⟩
  have hread : readRequest b = .request tag q := by simpa [hb] using hq
  have hlen : decide (rest.length < 4) = decide (rest.length + 1 < 5) := by
    exact decide_eq_decide.mpr (by omega)
  simp [takeRequest, hpor, hres, afterTake, hb, hread, hfree, State.taken, PortState.takenInto,
    PortState.reserve, PortState.setRequests, hlen]

/-- While the reset input is asserted or a RESTART is in progress no request is taken. -/
theorem takeRequest_held {s : State} (h : s.por = true ∨ s.pif.restart ≠ none) (p : Port)
    (tag : Byte) (q : Request) (owner : Ticket → State → State) :
    takeRequest p tag q owner s = s := by
  have : (s.por || s.pif.restart.isSome) = true := by
    rcases h with h | h
    · simp [h]
    · simp [Option.isSome_iff_ne_none.mpr h]
  simp [takeRequest, this]

/-- The reserved entry of a request just taken. -/
theorem State.taken_entry {s : State} {p : Port} {tag : Byte} {kind e : Nat}
    (h : (s.port p).freeEntry = some e) :
    ((s.taken p tag kind e).port p).replies[e]? = some (.reserved tag kind) := by
  have h1 := PortState.freeEntry_free h
  have h2 : e < (s.port p).replies.length := by
    rcases Nat.lt_or_ge e (s.port p).replies.length with h3 | h3
    · exact h3
    · rw [List.getElem?_eq_none h3] at h1; cases h1
  simp [State.taken, PortState.takenInto, h2]

/-- Answering a request in the event of its take, whatever the other blocks did meanwhile. -/
theorem State.answer_taken {s u : State} {p : Port} {tag : Byte} {kind e : Nat} (st : Status)
    (f : Fields) (h : (s.port p).freeEntry = some e) (hu : u.pif = (s.taken p tag kind e).pif) :
    u.answer { port := p, entry := e } st f = { u with
      pif := (s.replied p tag kind e st f).pif } := by
  have h1 := State.taken_entry (tag := tag) (kind := kind) h
  simp only [State.port] at h1
  simp only [State.answer, hu, PortState.fill_reserved st f h1]
  simp [State.taken, State.replied, State.setPort, State.port, PortState.takenInto]

/-- A request answered in the event of its take, with nothing else changed. -/
theorem State.taken_answer {s : State} {p : Port} {tag : Byte} {kind e : Nat} (st : Status)
    (f : Fields) (h : (s.port p).freeEntry = some e) :
    (s.taken p tag kind e).answer { port := p, entry := e } st f =
      s.replied p tag kind e st f := by
  rw [State.answer_taken (s := s) st f h rfl]
  rfl

/-! ### Notices and answers (R193, R195) -/

theorem PortState.offer_cases (ps : PortState) (n : Notice) :
    (∃ ns, ps.offer n = { ps with notices := ns }) ∨ ps.offer n = { ps with lost := true } := by
  unfold PortState.offer
  repeat' split
  · exact .inl ⟨_, rfl⟩
  · exact .inl ⟨_, rfl⟩
  · exact .inl ⟨_, rfl⟩
  · exact .inr rfl

@[simp] theorem PortState.notify_rx (ps : PortState) (n : Notice) :
    (ps.notify n).rx = ps.rx := by
  unfold PortState.notify; split
  · rcases ps.offer_cases n with ⟨ns, h⟩ | h <;> rw [h]
  · rfl

@[simp] theorem PortState.notify_requests (ps : PortState) (n : Notice) :
    (ps.notify n).requests = ps.requests := by
  unfold PortState.notify; split
  · rcases ps.offer_cases n with ⟨ns, h⟩ | h <;> rw [h]
  · rfl

@[simp] theorem PortState.notify_replies (ps : PortState) (n : Notice) :
    (ps.notify n).replies = ps.replies := by
  unfold PortState.notify; split
  · rcases ps.offer_cases n with ⟨ns, h⟩ | h <;> rw [h]
  · rfl

@[simp] theorem PortState.notify_order (ps : PortState) (n : Notice) :
    (ps.notify n).order = ps.order := by
  unfold PortState.notify; split
  · rcases ps.offer_cases n with ⟨ns, h⟩ | h <;> rw [h]
  · rfl

@[simp] theorem PortState.notify_subs (ps : PortState) (n : Notice) :
    (ps.notify n).subs = ps.subs := by
  unfold PortState.notify; split
  · rcases ps.offer_cases n with ⟨ns, h⟩ | h <;> rw [h]
  · rfl

@[simp] theorem PortState.notify_badFrame (ps : PortState) (n : Notice) :
    (ps.notify n).badFrame = ps.badFrame := by
  unfold PortState.notify; split
  · rcases ps.offer_cases n with ⟨ns, h⟩ | h <;> rw [h]
  · rfl

@[simp] theorem PortState.notify_overrun (ps : PortState) (n : Notice) :
    (ps.notify n).overrun = ps.overrun := by
  unfold PortState.notify; split
  · rcases ps.offer_cases n with ⟨ns, h⟩ | h <;> rw [h]
  · rfl

@[simp] theorem PortState.notify_rdy (ps : PortState) (n : Notice) :
    (ps.notify n).rdy = ps.rdy := by
  unfold PortState.notify; split
  · rcases ps.offer_cases n with ⟨ns, h⟩ | h <;> rw [h]
  · rfl

@[simp] theorem PortState.notify_tx (ps : PortState) (n : Notice) :
    (ps.notify n).tx = ps.tx := by
  unfold PortState.notify; split
  · rcases ps.offer_cases n with ⟨ns, h⟩ | h <;> rw [h]
  · rfl

/-- Filling a reply and placing a notice do not disturb each other. -/
theorem PortState.notify_fill (ps : PortState) (n : Notice) (e : Nat) (st : Status) (f : Fields) :
    (ps.notify n).fill e st f = (ps.fill e st f).notify n := by
  unfold PortState.fill
  rw [PortState.notify_replies]
  split
  · unfold PortState.notify
    dsimp only
    split
    · unfold PortState.offer
      dsimp only
      repeat' split
      all_goals simp_all
    · rfl
  · rfl

@[simp] theorem Pif.raise_port (g : Pif) (n : Notice) (p : Port) :
    (g.raise n).port p = (g.port p).notify n := by cases p <;> rfl

@[simp] theorem Pif.raise_restart (g : Pif) (n : Notice) : (g.raise n).restart = g.restart := rfl

/-- A notice raised before an answer stands as if it were raised after it. -/
theorem State.raise_answer (s : State) (n : Notice) (t : Ticket) (st : Status) (f : Fields) :
    (s.raise n).answer t st f = (s.answer t st f).raise n := by
  obtain ⟨p, e⟩ := t
  cases p <;>
    simp [State.answer, State.raise, Pif.raise, Pif.setPort, Pif.port, PortState.notify_fill]

/-- A notice is quiet: it changes nothing but notice queues and lost markers. -/
@[simp] theorem Pif.raise_quiet (g : Pif) (n : Notice) : (g.raise n).quiet = g.quiet := by
  simp [Pif.raise, Pif.quiet]

end Sys2Proof.Machine
end

