-- ==== Sys2Proof/Laws/Due.lean ====
section
/-! SUPPORT. What falls due leaves the reset input alone, and everything due in a frame is the commands of
its events in a row. -/

namespace Sys2Proof.Machine

/-! ### The reset input through each event -/

/-- What the event of a relay's target can do (R168): it gives a waiting move its target and begins the hold, or
nothing. -/
theorem State.relayTakesTarget_cases (s : State) :
    s.relayTakesTarget = s ∨ ∃ m, s.opu.move = some m ∧ s.relayDue m = true ∧
      s.relayTakesTarget =
        { s with opu := { s.opu with relay := m.target, move := some { m with hold := some 4 } } } := by
  unfold State.relayTakesTarget
  split
  · exact .inl rfl
  · split
    · exact .inr ⟨_, ‹_›, ‹_›, rfl⟩
    · exact .inl rfl

@[simp] theorem State.relayTakesTarget_por (s : State) : s.relayTakesTarget.por = s.por := by
  obtain h | ⟨_, _, _, h⟩ := s.relayTakesTarget_cases <;> rw [h]

@[simp] theorem State.convReadCompletion_por (s : State) : s.convReadCompletion.por = s.por := by
  unfold State.convReadCompletion State.answerOwner
  repeat' split
  all_goals simp_all

@[simp] theorem State.convReadTimeout_por (s : State) : s.convReadTimeout.por = s.por := by
  unfold State.convReadTimeout State.answerOwner
  repeat' split
  all_goals simp_all

@[simp] theorem State.levelWriteJoin_por (s : State) : s.levelWriteJoin.por = s.por := by
  unfold State.levelWriteJoin
  repeat' split
  all_goals rfl

@[simp] theorem State.engineAutoStart_por (s : State) : s.engineAutoStart.por = s.por := by
  unfold State.engineAutoStart
  split <;> rfl

@[simp] theorem State.abortResume_por (s : State) (c : AbortCause) :
    (s.abortResume c).por = s.por := by
  unfold State.abortResume
  split <;> rfl

@[simp] theorem State.abortPending_por (s : State) (c : AbortCause) :
    (s.abortPending c).por = s.por := by
  unfold State.abortPending
  split <;> rfl

@[simp] theorem State.abortTaken_por (s : State) (c : AbortCause) :
    (s.abortTaken c).por = s.por := by
  unfold State.abortTaken
  repeat' split
  all_goals rfl

@[simp] theorem State.abandonSwitch_por (s : State) (c : AbortCause) (p : Option Port) :
    (s.abandonSwitch c p).por = s.por := by
  unfold State.abandonSwitch
  split <;> simp

@[simp] theorem State.enterFault_por (s : State) (c : Cause) : (s.enterFault c).por = s.por := by
  simp [State.enterFault]

@[simp] theorem State.handCause_por (s : State) (c : Cause) : (s.handCause c).por = s.por := by
  unfold State.handCause State.addCause
  repeat' split
  all_goals simp

@[simp] theorem State.runaway_por (s : State) : s.runaway.por = s.por := by
  unfold State.runaway
  split <;> simp

@[simp] theorem State.beginDuePass_por (s : State) : s.beginDuePass.por = s.por := by
  unfold State.beginDuePass
  repeat' split
  all_goals simp

@[simp] theorem State.answerResume_por (s : State) : s.answerResume.por = s.por := by
  unfold State.answerResume
  repeat' split
  all_goals simp

@[simp] theorem State.startingComplete_por (s : State) : s.startingComplete.por = s.por := by
  unfold State.startingComplete
  split <;> simp

@[simp] theorem State.lastBlock_por (s : State) : s.lastBlock.por = s.por := by
  unfold State.lastBlock State.select
  split <;> simp

@[simp] theorem State.afterBuild_por (s : State) : s.afterBuild.por = s.por := by
  unfold State.afterBuild
  repeat' split
  all_goals simp

@[simp] theorem State.enterFade_por (s : State) (ph : SwitchPhase) (k : SwitchKind) (f : Nat) :
    (s.enterFade ph k f).por = s.por := by
  unfold State.enterFade
  simp only
  split <;> simp

@[simp] theorem State.grantAfterReclaim_por (s : State) : s.grantAfterReclaim.por = s.por := by
  unfold State.grantAfterReclaim
  split <;> simp

@[simp] theorem State.zeroFadeEnd_por (s : State) (r : SwitchRec) :
    (s.zeroFadeEnd r).por = s.por := by
  unfold State.zeroFadeEnd
  split <;> simp

@[simp] theorem State.budgetCheck_por (s : State) (r : SwitchRec) :
    (s.budgetCheck r).por = s.por := by
  simp only [State.budgetCheck]
  repeat' split
  all_goals simp

@[simp] theorem State.endOfPrepare_por (s : State) : s.endOfPrepare.por = s.por := by
  unfold State.endOfPrepare
  repeat' split
  all_goals simp

@[simp] theorem State.noticeWrite_por (s : State) (b : Nat) (w : TempoWriter) (p : Option Port) :
    (s.noticeWrite b w p).por = s.por := by
  unfold State.noticeWrite
  split <;> simp

@[simp] theorem State.presetTempo_por (s : State) (p : Option Port) (v : Option Nat) :
    (s.presetTempo p v).por = s.por := by
  unfold State.presetTempo
  repeat' split
  all_goals simp

@[simp] theorem State.commit_por (s : State) : s.commit.por = s.por := by
  unfold State.commit State.answerCommit
  repeat' split
  all_goals simp

@[simp] theorem State.gapInEnd_por (s : State) : s.gapInEnd.por = s.por := by
  unfold State.gapInEnd
  split <;> simp

@[simp] theorem State.boundarySteps_por (s : State) : s.boundarySteps.por = s.por := by
  simp [State.boundarySteps]

@[simp] theorem State.setLatch_por (s : State) (w : Word16) (p : Port) :
    (s.setLatch w p).por = s.por := by
  unfold State.setLatch
  split <;> simp

@[simp] theorem State.requestGrant_por (s : State) : s.requestGrant.por = s.por := by
  simp only [State.requestGrant]
  split <;> simp

@[simp] theorem State.toggleAfter_por (s : State) (r : RecallReq) (p : Port) :
    (s.toggleAfter r p).por = s.por := by
  unfold State.toggleAfter
  repeat' split
  all_goals simp

@[simp] theorem State.supersede_por (s : State) (p : Port) : (s.supersede p).por = s.por := by
  unfold State.supersede
  split <;> simp

@[simp] theorem State.beginSwitch_por (s : State) (t : Ticket) (n : Nat) (r : Preset) (f : Nat) :
    (s.beginSwitch t n r f).por = s.por := by
  simp [State.beginSwitch]

@[simp] theorem State.takeRecall_por (s : State) (t : Ticket) (r : RecallReq) :
    (s.takeRecall t r).por = s.por := by
  simp only [State.takeRecall]
  split <;> simp

@[simp] theorem State.pendingTake_por (s : State) : s.pendingTake.por = s.por := by
  unfold State.pendingTake
  repeat' split
  all_goals simp

@[simp] theorem State.setSummaryClip_por (s : State) : s.setSummaryClip.por = s.por := by
  unfold State.setSummaryClip
  split <;> simp

@[simp] theorem State.passComplete_por (s : State) : s.passComplete.por = s.por := by
  simp only [State.passComplete]
  repeat' split
  all_goals simp

@[simp] theorem State.finishPass_por (s : State) : s.finishPass.por = s.por := by
  unfold State.finishPass State.tailLifeExpiry State.tailDrainExpiry
  split <;> simp

@[simp] theorem State.waitBoundary_por (s : State) (r : SwitchRec) :
    (s.waitBoundary r).por = s.por := by
  simp only [State.waitBoundary]
  split <;> rfl

@[simp] theorem State.switchBoundary_por (s : State) : s.switchBoundary.por = s.por := by
  unfold State.switchBoundary State.prepareBoundary State.fadeBoundary
  repeat' split
  all_goals simp

@[simp] theorem State.engineBoundary_por (s : State) : s.engineBoundary.por = s.por := by
  unfold State.engineBoundary
  repeat' split
  all_goals simp

@[simp] theorem State.blockBoundary_por (s : State) : s.blockBoundary.por = s.por := by
  unfold State.blockBoundary State.boundary State.catchUp
  split <;> simp

@[simp] theorem State.tunerTimeout_por (s : State) : s.tunerTimeout.por = s.por := by
  unfold State.tunerTimeout
  split <;> simp

@[simp] theorem State.gainMuted_por (s : State) : s.gainMuted.por = s.por := by
  unfold State.gainMuted
  split <;> simp

@[simp] theorem State.gainOpen_por (s : State) : s.gainOpen.por = s.por := by
  unfold State.gainOpen
  split <;> simp

@[simp] theorem State.relayHoldEnd_por (s : State) : s.relayHoldEnd.por = s.por := by
  unfold State.relayHoldEnd
  repeat' split
  all_goals simp

/-! ### Everything due in a frame -/

/-- Everything due is the commands of the events in a row (entry 2). -/
theorem runAll_dueCommands {s : State} (h : s.por = false) :
    runAll dueCommands s = .next s.settle := by
  simp [dueCommands, runAll, exec, execConvReadCompletion, execConvReadTimeout, execLevelWriteJoin,
    execEngineAutoStart, execRunaway, execBlockBoundary, execTunerTimeout, execStartingComplete,
    execGrantAfterReclaim, execEndOfPrepare, execCommit, execGapInEnd, execPendingRecallTake,
    execGainReachesMuted, execGainReachesOpen, execRelayHoldEnd, execRelayTakesTarget,
    execLinkRestFinalStep, unlessReset, h, State.settle, State.settleLink, State.settleBlock,
    State.settleOutput, State.boundarySteps]

/-- With nothing due before it, a frame received is what it brings and then everything due in it. -/
theorem exec_frameReceived {s : State} (f0 f1 : InFrame) (h : s.por = false) (hs : s.settle = s) :
    exec (.frameReceived f0 f1) s = .next (s.frameIn f0 f1).settle := by
  simp [exec, execFrameReceived, unlessReset, h, State.frameReceived, hs]

/-- With nothing due before it, a frame sent is what it carries and then everything due in it. -/
theorem exec_frameSent {s : State} (h : s.por = false) (hs : s.settle = s) :
    exec .frameSent s = .next s.frameOut.settle := by
  simp [exec, execFrameSent, unlessReset, h, State.frameSent, hs]

end Sys2Proof.Machine
end

