-- ==== Sys2Proof/Laws/Memory.lean ====
section
/-! SUPPORT. The delay memory: every operation on it keeps the canonical form, a read after a write
gives what was written, and a write or a clear leaves every other address alone. -/

namespace Sys2Proof.Machine

/-! ### The canonical form -/

theorem memWfFrom_mono {lo lo' : Nat} (h : lo' ≤ lo) :
    ∀ {m : List (Nat × Int)}, memWfFrom lo m = true → memWfFrom lo' m = true
  | [], _ => rfl
  | (a, v) :: rest, hw => by
    simp only [memWfFrom, Bool.and_eq_true, decide_eq_true_eq] at hw ⊢
    exact ⟨⟨by omega, hw.1.2⟩, hw.2⟩

theorem memWfFrom_cons {lo a : Nat} {v : Int} {m : List (Nat × Int)} :
    memWfFrom lo ((a, v) :: m) = true ↔ lo ≤ a ∧ v ≠ 0 ∧ memWfFrom (a + 1) m = true := by
  simp [memWfFrom, and_assoc]

/-- Below the bound of the form nothing is listed. -/
theorem memRead_below {lo a : Nat} (h : a < lo) :
    ∀ {m : List (Nat × Int)}, memWfFrom lo m = true → memRead m a = 0
  | [], _ => rfl
  | (b, v) :: rest, hw => by
    rw [memWfFrom_cons] at hw
    simp [memRead, show a < b by omega]

theorem memWrite_wfFrom {a : Nat} {v : Int} :
    ∀ {lo : Nat} {m : List (Nat × Int)}, lo ≤ a → memWfFrom lo m = true →
      memWfFrom lo (memWrite m a v) = true
  | lo, [], ha, _ => by
    by_cases hv : v = 0 <;> simp [memWrite, memWfFrom, hv, ha]
  | lo, (b, w) :: rest, ha, hw => by
    rw [memWfFrom_cons] at hw
    obtain ⟨h1, h2, h3⟩ := hw
    simp only [memWrite]
    split
    · next hab =>
      split
      · exact memWfFrom_cons.mpr ⟨h1, h2, h3⟩
      · next hv =>
        exact memWfFrom_cons.mpr ⟨ha, hv, memWfFrom_cons.mpr ⟨by omega, h2, h3⟩⟩
    · split
      · next hab hEq =>
        subst hEq
        split
        · exact memWfFrom_mono (by omega) h3
        · next hv => exact memWfFrom_cons.mpr ⟨h1, hv, h3⟩
      · exact memWfFrom_cons.mpr ⟨h1, h2, memWrite_wfFrom (by omega) h3⟩

/-- A write keeps the canonical form. -/
theorem memWrite_wf {m : List (Nat × Int)} (h : Memory.wf m = true) (a : Nat) (v : Int) :
    Memory.wf (memWrite m a v) = true := memWrite_wfFrom (Nat.zero_le a) h

theorem filter_wfFrom (p : Nat × Int → Bool) :
    ∀ {lo : Nat} {m : List (Nat × Int)}, memWfFrom lo m = true → memWfFrom lo (m.filter p) = true
  | _, [], _ => rfl
  | lo, (b, w) :: rest, hw => by
    rw [memWfFrom_cons] at hw
    obtain ⟨h1, h2, h3⟩ := hw
    have h4 := filter_wfFrom p h3
    rw [List.filter_cons]
    split
    · exact memWfFrom_cons.mpr ⟨h1, h2, h4⟩
    · exact memWfFrom_mono (by omega) h4

/-- Clearing a segment keeps the canonical form. -/
theorem memClear_wf {m : List (Nat × Int)} (h : Memory.wf m = true) (seg : Nat) :
    Memory.wf (memClear m seg) = true := filter_wfFrom _ h

/-- Clearing several segments keeps the canonical form. -/
theorem clearSegments_wf {m : List (Nat × Int)} (h : Memory.wf m = true) :
    ∀ segs : List Nat, Memory.wf (clearSegments segs m) = true
  | [] => h
  | x :: xs => memClear_wf (clearSegments_wf h xs) x

/-- A build step keeps the canonical form (R56). -/
theorem Context.buildMem_wf (c : Context) (next : Option StageInst) {m : List (Nat × Int)}
    (h : Memory.wf m = true) : Memory.wf (c.buildMem next m) = true := by
  cases next with
  | some i => exact h
  | none => exact clearSegments_wf h _

/-! ### Read after write -/

theorem memRead_memWrite_from {a : Nat} {v : Int} :
    ∀ {lo : Nat} {m : List (Nat × Int)}, memWfFrom lo m = true → ∀ b : Nat,
      memRead (memWrite m a v) b = if b = a then v else memRead m b
  | lo, [], _, b => by
    by_cases hv : v = 0
    · by_cases hb : b = a <;> simp [memWrite, memRead, hv, hb]
    · by_cases hb : b = a
      · simp [memWrite, memRead, hv, hb]
      · by_cases hlt : b < a <;> simp [memWrite, memRead, hv, hb, hlt]
  | lo, (c, w) :: rest, hw, b => by
    rw [memWfFrom_cons] at hw
    obtain ⟨h1, h2, h3⟩ := hw
    simp only [memWrite]
    split
    · next hac =>
      by_cases hv : v = 0
      · by_cases hb : b = a
        · simp [memRead, hv, hb, hac]
        · simp [memRead, hv, hb]
      · by_cases hb : b = a
        · simp [memRead, hv, hb]
        · by_cases hlt : b < a
          · simp [memRead, hv, hb, hlt, show b < c by omega]
          · simp [memRead, hv, hb, hlt]
    · next hac =>
      split
      · next hEq =>
        subst hEq
        by_cases hv : v = 0
        · by_cases hb : b = a
          · simp [hv, hb, memRead_below (Nat.lt_succ_self a) h3]
          · by_cases hlt : b < a
            · simp [hv, hb, memRead, hlt, memRead_below (show b < a + 1 by omega) h3]
            · simp [hv, hb, memRead, hlt]
        · by_cases hb : b = a
          · simp [hv, hb, memRead]
          · simp [hv, hb, memRead]
      · next hne =>
        have ih := memRead_memWrite_from (a := a) (v := v) h3 b
        by_cases hb : b = a
        · subst hb
          simp only [memRead, if_neg hac, if_neg hne, ih]
        · simp only [memRead, ih, if_neg hb]

/-- A read after a write: the value written there, every other address as before. -/
theorem memRead_memWrite {m : List (Nat × Int)} (h : Memory.wf m = true) (a : Nat) (v : Int) (b : Nat) :
    memRead (memWrite m a v) b = if b = a then v else memRead m b :=
  memRead_memWrite_from h b

theorem memRead_filter_from (seg : Nat) :
    ∀ {lo : Nat} {m : List (Nat × Int)}, memWfFrom lo m = true → ∀ b : Nat,
      memRead (m.filter fun c => c.1 / 8192 != seg) b = if b / 8192 = seg then 0 else memRead m b
  | _, [], _, b => by simp [memRead]
  | lo, (c, w) :: rest, hw, b => by
    rw [memWfFrom_cons] at hw
    obtain ⟨h1, h2, h3⟩ := hw
    have ih := memRead_filter_from seg h3 b
    rw [List.filter_cons]
    split
    · next hc =>
      have hc' : c / 8192 ≠ seg := by simpa using hc
      by_cases hlt : b < c
      · simp [memRead, hlt]
      · by_cases hEq : b = c
        · subst hEq; simp [memRead, hc']
        · simp only [memRead, if_neg hlt, if_neg hEq, ih]
    · next hc =>
      have hc' : c / 8192 = seg := by simpa using hc
      rw [ih]
      split
      · rfl
      · next hb =>
        by_cases hlt : b < c
        · simp [memRead, hlt, memRead_below (show b < c + 1 by omega) h3]
        · have hne : b ≠ c := fun h => hb (h ▸ hc')
          simp [memRead, hlt, hne]

/-- A read after a segment is cleared: 0 in the segment, every other address as before (R56). -/
theorem memRead_memClear {m : List (Nat × Int)} (h : Memory.wf m = true) (seg b : Nat) :
    memRead (memClear m seg) b = if b / 8192 = seg then 0 else memRead m b :=
  memRead_filter_from seg h b

/-- A read after several segments are cleared. -/
theorem memRead_clearSegments {m : List (Nat × Int)} (h : Memory.wf m = true) (b : Nat) :
    ∀ segs : List Nat,
      memRead (clearSegments segs m) b = if b / 8192 ∈ segs then 0 else memRead m b
  | [] => by simp [clearSegments]
  | x :: xs => by
    have ih := memRead_clearSegments h b xs
    have hw := clearSegments_wf h xs
    show memRead (memClear (clearSegments xs m) x) b = _
    rw [memRead_memClear hw, ih]
    by_cases hx : b / 8192 = x
    · simp [hx]
    · simp [hx]

/-! ### Two positions of a line are two addresses (R42, R53) -/

/-- Positions of a line laid across distinct segments have distinct addresses. -/
theorem lineAddr_inj {segs : List Nat} (hs : segs.Nodup) {p q : Nat} (hp : p < 8192 * segs.length)
    (hq : q < 8192 * segs.length) (h : lineAddr segs p = lineAddr segs q) : p = q := by
  have hp' : p / 8192 < segs.length := by omega
  have hq' : q / 8192 < segs.length := by omega
  simp only [lineAddr, List.getD_eq_getElem?_getD, List.getElem?_eq_getElem hp',
    List.getElem?_eq_getElem hq', Option.getD_some] at h
  have h1 : segs[p / 8192] = segs[q / 8192] := by omega
  have h2 : p / 8192 = q / 8192 := (hs.getElem_inj_iff).mp h1
  omega

/-! ### The stages keep the canonical form -/

/-- The delay memory right after reset. -/
theorem reset_mem_wf : Memory.wf State.reset.spl.mem = true := rfl

theorem delayCore_wf (segs : List Nat) (reach time : Nat) (fb : Int) (r : DelayRun) (x : Int)
    (h : Memory.wf r.mem = true) : Memory.wf (delayCore segs reach time fb r x).1.mem = true :=
  memWrite_wf h _ _

theorem runCombs_wf (segs : List Nat) (k q xin : Int) :
    ∀ (ls : List (Nat × Nat)) (cs : List CombState) (mem : List (Nat × Int)),
      Memory.wf mem = true → Memory.wf (runCombs segs k q xin ls cs mem).mem = true
  | [], _, _, h => h
  | _ :: _, [], _, h => h
  | (_, _) :: ls, _ :: cs, _, h => runCombs_wf segs k q xin ls cs _ (memWrite_wf h _ _)

theorem runAllpass_wf (segs : List Nat) :
    ∀ (ls : List (Nat × Nat)) (ps : List Nat) (a : Int) (mem : List (Nat × Int)),
      Memory.wf mem = true → Memory.wf (runAllpass segs ls ps a mem).mem = true
  | [], _, _, _, h => h
  | _ :: _, [], _, _, h => h
  | (_, _) :: ls, _ :: ps, _, _, h => runAllpass_wf segs ls ps _ _ (memWrite_wf h _ _)

theorem reverbCore_wf (segs : List Nat) (k q : Int) (r : ReverbRun) (x : Int)
    (h : Memory.wf r.mem = true) : Memory.wf (reverbCore segs k q r x).1.mem = true :=
  runAllpass_wf _ _ _ _ _ (runCombs_wf _ _ _ _ _ _ _ h)

/-- What the frames of a pass keep, when each frame keeps it. -/
theorem runFrames_keeps {σ : Type} (f : σ → Nat → Int → σ × FrameOut) (P : σ → Prop)
    (h : ∀ st j x, P st → P (f st j x).1) :
    ∀ (xs : List Int) (j : Nat) (st : σ), P st → P (runFrames f j st xs).1
  | [], _, _, hp => hp
  | x :: xs, j, st, hp => runFrames_keeps f P h xs (j + 1) _ (h st j x hp)

/-- What a DELAY or REVERB keeps in every mode, when its core keeps it. -/
theorem wetFrame_keeps {σ : Type} (core : σ → Int → σ × Int × Bool) (P : σ → Prop)
    (h : ∀ st x, P st → P (core st x).1) (mode : WetMode) (mix : Nat → Int) (st : σ) (j : Nat) (x : Int)
    (hp : P st) : P (wetFrame core mode mix st j x).1 := by
  cases mode <;> exact h _ _ hp

/-- A stage over a pass keeps the canonical form. -/
theorem runStage_wf (l : Lib) (loopOpen : Bool) (returns : List Int) (wet : WetMode) (i : StageInst)
    {mem : List (Nat × Int)} (xs : List Int) (h : Memory.wf mem = true) :
    Memory.wf (runStage l loopOpen returns wet i mem xs).mem = true := by
  unfold runStage
  cases i.run with
  | delay wp time =>
    exact runFrames_keeps _ (fun r : DelayRun => Memory.wf r.mem = true)
      (fun st j x hp => wetFrame_keeps _ (fun r : DelayRun => Memory.wf r.mem = true)
        (fun r x hr => delayCore_wf _ _ _ _ r x hr) wet _ st j x hp) xs 1 _ h
  | reverb combs allpass =>
    exact runFrames_keeps _ (fun r : ReverbRun => Memory.wf r.mem = true)
      (fun st j x hp => wetFrame_keeps _ (fun r : ReverbRun => Memory.wf r.mem = true)
        (fun r x hr => reverbCore_wf _ _ _ r x hr) wet _ st j x hp) xs 1 _ h
  | tone s0 s1 s2 => exact h
  | cab used hist => exact h
  | mod len phase line => exact h
  | gate st hold m => dsimp only; split <;> exact h
  | comp g => dsimp only; split <;> exact h
  | drive used => dsimp only; split <;> exact h
  | loop => dsimp only; split <;> exact h
  | volume => dsimp only; split <;> exact h

/-- A chain over a pass keeps the canonical form. -/
theorem runChain_wf (l : Lib) (loopOpen : Bool) (returns : List Int) (gOut : Option (List Int)) :
    ∀ (is : List StageInst) (mem : List (Nat × Int)) (xs : List Int), Memory.wf mem = true →
      Memory.wf (runChain l loopOpen returns gOut is mem xs).mem = true
  | [], _, _, h => h
  | _ :: is, _, _, h => runChain_wf l loopOpen returns gOut is _ _ (runStage_wf _ _ _ _ _ _ h)

/-- The tails over a pass keep the canonical form. -/
theorem runTails_wf (l : Lib) (silence : List Int) :
    ∀ (ts : List Tail) (mem : List (Nat × Int)), Memory.wf mem = true →
      Memory.wf (runTails l silence ts mem).mem = true
  | [], _, h => h
  | _ :: ts, _, h => runTails_wf l silence ts _ (runStage_wf _ _ _ _ _ _ h)

/-- A pass keeps the canonical form. -/
theorem State.beginPass_wf (s : State) (block : List (Int × Int)) (h : Memory.wf s.spl.mem = true) :
    Memory.wf (s.beginPass block).spl.mem = true := by
  refine runTails_wf _ _ _ _ ?_
  split
  · exact runChain_wf _ _ _ _ _ _ _ (runChain_wf _ _ _ _ _ _ _ h)
  · exact runChain_wf _ _ _ _ _ _ _ h

end Sys2Proof.Machine
end

