-- ==== Sys2Proof/Tests/Slice0.lean ====
section
/-! SUPPORT. Tests: ill-formed commands refused by `WellFormed`, request bodies written out byte by byte
from section 10.2, the manual's worked examples, and for each obligation with hypotheses a state and
operands that meet them (named `witness_` and the obligation). -/

namespace Sys2Proof.Tests

set_option Elab.async false

open Sys2Proof Sys2Proof.Machine

/-! ### States -/

/-- A RESERVED entry's ticket on port 1. -/
def ticket1 : Ticket := { port := .p1, entry := 2 }

/-- No mute reason. -/
def noReasons : MuteSet := { MuteSet.initial with stopped := false }

/-- The instance of a VOLUME at unity. -/
def volumeStage : StageInst :=
  buildStage Lib.powerOn 24000 [] { kind := .volume, enabled := true, spill := .cut, params := [4096], sync := none }

/-- A DELAY that holds its tail, on three segments. -/
def delayEntry : StageEntry :=
  { kind := .delay, enabled := true, spill := .hold, params := [20000, 18000, 0, 4096], sync := some 3 }

/-- Its instance at a beat period of 18,000. -/
def delayStage : StageInst := buildStage Lib.powerOn 18000 [0, 1, 2] delayEntry

/-- The part playing the clean scene, the link RUNNING, the gain OPEN. -/
def playing : State :=
  { State.reset with
    lnk := { State.reset.lnk with state := .running, primary := true, secondary := true, auxValid := true }
    sen := { State.reset.sen with
      engine := .run
      front := { Context.emptied with state := .live, stages := [volumeStage], cost := 10 } }
    opu := { State.reset.opu with
      reasons := noReasons, gain := 4096, gainState := .opened, relay := .engaged } }

/-- A state whose port 0 holds one request, under tag 7. -/
def asking (q : Request) (s : State) : State :=
  s.setPort .p0 { s.port .p0 with requests := [writeRequest 7 q] }

/-- A state whose port 1 has a request still to be answered, in entry 2. -/
def owing (kind : Nat) (s : State) : State :=
  s.setPort .p1 { s.port .p1 with
    replies := (List.replicate 8 .free).set 2 (.reserved 9 kind) }

/-- The state after a command. -/
def after (c : Instr) (s : State) : State :=
  match exec c s with
  | .next t => t
  | .fault _ => s
  | .refused _ => s

/-- The state after several commands. -/
def afterAll (cs : List Instr) (s : State) : State := cs.foldl (fun s c => after c s) s

/-- The status of a filled entry. -/
def statusAt (s : State) (p : Port) (e : Nat) : Option Status :=
  match (s.port p).replies[e]? with
  | some (.filled r) => some r.status
  | _ => none

/-- The reply of port 0's first entry to a request. -/
def replyTo (q : Request) (s : State) : Option Reply :=
  match ((after (q.toInstr .p0 7) (asking q s)).port .p0).replies[(0 : Nat)]? with
  | some (.filled r) => some r
  | _ => none

/-- A converter frame of line 0 with both ready bits' tag and a guitar sample. -/
def inFrame (tag : Word24) (x : Word24) : InFrame :=
  { tag := tag, slot1 := 0, slot2 := 0, slot3 := x, slot4 := 0, slot5 := 0, slot6 := 0, slot7 := 0 }

/-! ### Ill-formed commands -/

theorem test_illFormed_integers :
    [ Instr.recall .p0 0 { presetA := 2147483648, cond := none, fade := none }
    , .recall .p0 0 { presetA := 0, cond := none, fade := some (-2147483649) }
    , .recall .p0 0 { presetA := 0, cond := some { bit := 2147483648, polarity := 0, presetB := 0, toggle := false }, fade := none }
    , .recall .p0 0 { presetA := 0, cond := some { bit := 0, polarity := 2147483648, presetB := 0, toggle := false }, fade := none }
    , .recall .p0 0 { presetA := 0, cond := some { bit := 0, polarity := 0, presetB := 2147483648, toggle := false }, fade := none }
    , .edit .p0 0 { stage := 2147483648, param := 0, value := 0, expected := none }
    , .edit .p0 0 { stage := 0, param := 2147483648, value := 0, expected := none }
    , .edit .p0 0 { stage := 0, param := 0, value := -2147483649, expected := none }
    , .edit .p0 0 { stage := 0, param := 0, value := 0, expected := some 2147483648 }
    , .bypassStage .p0 0 { stage := 2147483648, enabled := true, expected := none }
    , .bypassStage .p0 0 { stage := 0, enabled := true, expected := some 2147483648 }
    , .store .p0 0 { slot := 2147483648, name := none }
    , .readPreset .p0 0 { slot := 2147483648 }
    , .erasePreset .p0 0 { slot := 2147483648 }
    , .setSceneOptions .p0 0 { safe := some 2147483648, fade := none }
    , .setSceneOptions .p0 0 { safe := none, fade := some 2147483648 }
    , .setTails .p0 0 { drain := some 2147483648, life := none, cut := none }
    , .setTails .p0 0 { drain := none, life := some 2147483648, cut := none }
    , .tempoSource .p0 0 { source := 2147483648, edge := none, n := none }
    , .tempoSource .p0 0 { source := 0, edge := some 2147483648, n := none }
    , .tempoSource .p0 0 { source := 0, edge := none, n := some 2147483648 }
    , .tempoSet .p0 0 { period := 2147483648, restart := false }
    , .tunerMode .p0 0 { mode := 2147483648 }
    , .tunerSet .p0 0 { reference := some 2147483648, k := none, floor := none }
    , .tunerSet .p0 0 { reference := none, k := some 2147483648, floor := none }
    , .tunerSet .p0 0 { reference := none, k := none, floor := some 2147483648 }
    , .tunerRead .p0 0 { note := some 2147483648 }
    , .mute .p0 0 { value := 2147483648 }
    , .resume .p0 0 { mode := 2147483648 }
    , .setProtection .p0 0 { mode := some 2147483648, limit := none, policy := none }
    , .setProtection .p0 0 { mode := none, limit := some 2147483648, policy := none }
    , .setProtection .p0 0 { mode := none, limit := none, policy := some 2147483648 }
    , .convRead .p0 0 { target := 2147483648, index := 0 }
    , .convRead .p0 0 { target := 0, index := 2147483648 }
    , .convWrite .p0 0 { target := 2147483648, index := 0, data := 0 }
    , .convWrite .p0 0 { target := 0, index := 2147483648, data := 0 }
    , .convWrite .p0 0 { target := 0, index := 0, data := 2147483648 } ].all
      (fun c => !WellFormed c) = true := by decide +kernel

/-- A stage entry that fits. -/
def fittingEntry : EntryReq := { kind := 9, enabled := true, spill := 0, sync := none, params := [4096] }

/-- A WRITE-PRESET that fits. -/
def fittingPreset : WritePresetReq :=
  { slot := 0, name := [65#8], entries := [fittingEntry], tempo := none, fade := none, level := 4096 }

theorem test_illFormed_preset :
    WellFormed (.writePreset .p0 0 fittingPreset) = true ∧
    [ { fittingPreset with slot := 2147483648 }
    , { fittingPreset with tempo := some 2147483648 }
    , { fittingPreset with fade := some 2147483648 }
    , { fittingPreset with level := 2147483648 }
    , { fittingPreset with entries := [] }
    , { fittingPreset with entries := [{ fittingEntry with kind := 256 }] }
    , { fittingPreset with entries := [{ fittingEntry with spill := 256 }] }
    , { fittingPreset with entries := [{ fittingEntry with sync := some 255 }] }
    , { fittingPreset with entries := [{ fittingEntry with params := [8388608] }] } ].all
      (fun r => !WellFormed (.writePreset .p0 0 r)) = true := by decide +kernel

theorem test_illFormed_lists :
    WellFormed (.writeCurve .p0 0 { slot := 2147483648, points := [] }) = false ∧
    WellFormed (.writeCurve .p0 0 { slot := 1, points := [32768] }) = false ∧
    WellFormed (.writeImpulse .p0 0 { slot := 2147483648, taps := [] }) = false ∧
    WellFormed (.writeImpulse .p0 0 { slot := 1, taps := [-32769] }) = false := by decide +kernel

theorem test_illFormed_lengths (n : List Byte) (hn : 65536 ≤ n.length) (vs : List Int)
    (hv : 32768 ≤ vs.length) :
    WellFormed (.store .p0 0 { slot := 0, name := some n }) = false ∧
    WellFormed (.writePreset .p0 0 { fittingPreset with name := n }) = false ∧
    WellFormed (.writeCurve .p0 0 { slot := 1, points := vs }) = false ∧
    WellFormed (.writeImpulse .p0 0 { slot := 1, taps := vs }) = false ∧
    WellFormed (.writePreset .p0 0 { fittingPreset with
      entries := [{ fittingEntry with params := vs }] }) = false := by
  have h1 : ¬ n.length < 65536 := by omega
  have h2 : ¬ 2 * vs.length < 65536 := by omega
  have h3 : ¬ 4 + 3 * vs.length < 65536 := by omega
  simp [WellFormed, Request.fits, textFits, pointsFit, fittingPreset, EntryReq.fits, h1, h2, h3]

/-- A body that reads as a request is no operand of UNKNOWN_REQUEST_KIND; one of an unknown kind is. -/
theorem test_illFormed_body :
    WellFormed (.unknownRequestKind .p0 [7#8, 17#8]) = false ∧
    WellFormed (.unknownRequestKind .p0 [7#8, 37#8]) = true := by decide +kernel

/-! ### Request bodies written out from sections 10.2 and 10.5: tag 7, kind, items -/

/-- RECALL of preset 300 in two bytes, bit 3, polarity 1, preset B 5, toggle, fade 16. -/
theorem test_read_recall :
    readRequest [7, 1, 1, 2, 0, 0x2C, 0x01, 2, 1, 0, 3, 3, 1, 0, 1, 4, 1, 0, 5, 5, 1, 0, 1, 6, 1, 0, 16] =
      .request 7 (.recall { presetA := 300, cond := some { bit := 3, polarity := 1, presetB := 5, toggle := true }, fade := some 16 }) := by
  decide +kernel

/-- EDIT of stage 2, parameter 1 to −2 in three bytes; the expected generation is absent. -/
theorem test_read_edit :
    readRequest [7, 2, 2, 1, 0, 1, 1, 1, 0, 2, 3, 3, 0, 0xFE, 0xFF, 0xFF] =
      .request 7 (.edit { stage := 2, param := 1, value := -2, expected := none }) := by decide +kernel

/-- WRITE-PRESET to slot 20, "RHYTHM" cut to "RH", one DELAY entry: kind 6, enabled, HOLD, sync code 3,
four 3-byte values; level 4,096. -/
theorem test_read_writePreset :
    readRequest [7, 5, 1, 1, 0, 20, 2, 2, 0, 0x52, 0x48,
      3, 16, 0, 6, 1, 1, 3, 0x00, 0xC0, 0x00, 0x10, 0x00, 0x00, 0x00, 0x00, 0x00, 0x00, 0x10, 0x00,
      6, 2, 0, 0x00, 0x10] =
      .request 7 (.writePreset {
        slot := 20, name := [0x52, 0x48]
        entries := [{ kind := 6, enabled := true, spill := 1, sync := some 3, params := [49152, 16, 0, 4096] }]
        tempo := none, fade := none, level := 4096 }) := by decide +kernel

/-- WRITE-IMPULSE to slot 1 with two taps of two bytes, low byte first. -/
theorem test_read_writeImpulse :
    readRequest [7, 12, 1, 1, 0, 1, 2, 4, 0, 0xFF, 0x7F, 0x00, 0x80] =
      .request 7 (.writeImpulse { slot := 1, taps := [32767, -32768] }) := by decide +kernel

/-- METERS, TEMPO-SET, TUNER-SET with K alone, MUTE, CONV-WRITE, SUBSCRIBE, IDENTIFY. -/
theorem test_read_others :
    readRequest [7, 13, 1, 1, 0, 1] = .request 7 (.meters { clear := true }) ∧
    readRequest [7, 16, 1, 3, 0, 0x30, 0x75, 0x00, 2, 1, 0, 0] =
      .request 7 (.tempoSet { period := 30000, restart := false }) ∧
    readRequest [7, 20, 2, 1, 0, 16] =
      .request 7 (.tunerSet { reference := none, k := some 16, floor := none }) ∧
    readRequest [7, 22, 1, 1, 0, 0] = .request 7 (.mute { value := 0 }) ∧
    readRequest [7, 32, 1, 1, 0, 1, 2, 1, 0, 3, 3, 2, 0, 0xC8, 0x00] =
      .request 7 (.convWrite { target := 1, index := 3, data := 200 }) ∧
    readRequest [7, 34, 1, 2, 0, 0xFF, 0x01] = .request 7 (.subscribe { classes := 511 }) ∧
    readRequest [7, 35] = .request 7 .identify := by decide +kernel

/-- R192, check 7: a WRITE-PRESET without a stage entry item lacks a field. -/
theorem test_read_noEntries :
    readRequest [7, 5, 1, 1, 0, 20, 2, 1, 0, 0x52, 6, 2, 0, 0x00, 0x10] = .bad 7 5 none := by decide +kernel

/-- The checks of R192: an integer of five bytes, an item cut off, an id unknown, an id repeated, an odd
list, a yes-or-no value of 2, a field missing, a condition in part. -/
theorem test_read_bad :
    readRequest [7, 22, 1, 5, 0, 0, 0, 0, 0, 0] = .bad 7 22 (some 1) ∧
    readRequest [7, 22, 1, 2, 0, 0] = .bad 7 22 (some 1) ∧
    readRequest [7, 22, 1, 1, 0, 0, 2, 1, 0, 0] = .bad 7 22 (some 2) ∧
    readRequest [7, 22, 1, 1, 0, 0, 1, 1, 0, 0] = .bad 7 22 (some 1) ∧
    readRequest [7, 11, 1, 1, 0, 1, 2, 1, 0, 0] = .bad 7 11 (some 2) ∧
    readRequest [7, 13, 1, 1, 0, 2] = .bad 7 13 (some 1) ∧
    readRequest [7, 22] = .bad 7 22 none ∧
    readRequest [7, 1, 1, 1, 0, 0, 2, 1, 0, 3] = .bad 7 1 none := by decide +kernel

/-! ### The manual's worked examples -/

/-- 02, 2.1: a VOLUME glides from 4,096 to 4,100. -/
theorem test_glide_small :
    (List.range 16).map (fun j => glideAt 4096 4100 (j + 1)) =
      [4096, 4097, 4097, 4097, 4097, 4098, 4098, 4098, 4098, 4099, 4099, 4099, 4099, 4100, 4100, 4100] := by
  decide +kernel

/-- 02, 2.3: two blocks of compression. -/
theorem test_comp_blocks :
    compTarget 3000000 1000000 4 = 2048 ∧ compNext 4096 2048 4 100 = 3584 ∧
    compNext 3584 2048 4 100 = 3200 ∧ glideAt 4096 3584 1 = 4064 ∧
    (compFrame 4096 3584 6144 () 16 3000000).2 = .plain 3937500 := by decide +kernel

/-- A DRIVE with the parameters given. -/
def driveStage (params : List Int) : StageInst :=
  buildStage Lib.powerOn 24000 []
    { kind := .drive, enabled := true, spill := .cut, params := params, sync := none }

/-- 02, 2.4, case A. -/
theorem test_drive_caseA :
    let curve : List Int := List.replicate 250 0 ++ [32000, 32100] ++ List.replicate 5 0
    shaper curve 8000000 = 32007 ∧
    (driveFrame (driveStage [2048, 0, 0, 4096, 3072]) curve () 1 1000000).2 = .plain 6395344 := by
  decide +kernel

/-- 02, 2.4, case B. -/
theorem test_drive_caseB :
    let curve : List Int := List.replicate 255 0 ++ [32700, 32767]
    shaper curve 8388607 = 32767 ∧
    (driveFrame (driveStage [2048, 0, 0, 6144, 4096]) curve () 1 3000000).2 =
      { FrameOut.plain 8388607 with clip := true, satIn := true } := by decide +kernel

/-- 01, 1.5: one frame through the mix points. -/
theorem test_mix_points :
    gIn 4 2 5 = 1344 ∧ chainMix .fade 6000000 (-2000000) 1344 = 3375000 ∧
    mixFrame .fade 6000000 (-2000000) 1344 5500000 = (8388607, true) := by decide +kernel

/-- 05, 5.5: the first and last gains of fades of three blocks. -/
theorem test_fade_gains : gIn 3 1 1 = 85 ∧ gIn 3 1 16 = 1365 ∧ gIn 3 2 1 = 1451 ∧ gIn 3 3 16 = 4096 := by
  decide +kernel

/-- 03, 3.2: a beat period of 30,000 on a DELAY with three segments. -/
theorem test_delay_reach :
    delayEntry.need = 3 ∧ delayStage.reach = 24576 ∧ delayStage.run = .delay 0 18000 ∧
    (delayStage.atBeat 30000).clampedTarget = 24560 ∧
    (startPass Lib.powerOn (delayStage.atBeat 30000)).run = .delay 0 18032 ∧
    (startPass Lib.powerOn (delayStage.atBeat 30000)).status.degraded = true := by decide +kernel

/-- A stage entry of a kind with the lowest value of each parameter. -/
def lowEntry (k : StageKind) : EntryReq :=
  { kind := k.code, enabled := true, spill := 0, sync := none
    params := (List.range k.paramCount).map fun id => ((k.range id).getD (0, 0)).1 }

/-- A DELAY entry with a reach. -/
def delayWithReach (v : Int) : EntryReq := { lowEntry .delay with params := [v, 16, 0, 0] }

/-- What WRITE-PRESET to slot 20 answers for a chain. -/
def answerFor (es : List EntryReq) (tempo : Option Int) : Option (Status × Fields) :=
  (replyTo (.writePreset { slot := 20, name := [65#8], entries := es, tempo := tempo, fade := none, level := 0 })
    State.reset).map fun r => (r.status, r.fields)

/-- 04, 4.2: records A to F. -/
theorem test_preset_recordA :
    answerFor ([StageKind.gate, .comp, .drive, .tone, .cab, .mod].map lowEntry ++
      [delayWithReach 49152, lowEntry .reverb, lowEntry .volume]) none =
      some (.done, .presetWritten 20 780 8 []) := by decide +kernel

theorem test_preset_recordB :
    answerFor ([StageKind.drive, .drive, .cab, .cab, .reverb, .reverb, .delay, .delay, .tone, .volume].map
      lowEntry) none = some (.overBudget, .overBudget 1250) := by decide +kernel

theorem test_preset_recordC :
    answerFor [lowEntry .drive, lowEntry .cab, delayWithReach 98304, delayWithReach 98304, delayWithReach 8192]
      none = some (.overMemory, .overMemory 25) := by decide +kernel

theorem test_preset_recordD :
    answerFor [lowEntry .drive, lowEntry .cab, delayWithReach 200000, delayWithReach 98304] none =
      some (.clamped, .presetWritten 20 420 24 [.param 2 0]) := by decide +kernel

theorem test_preset_recordE :
    answerFor ([StageKind.drive, .drive, .cab, .cab, .reverb, .reverb, .delay, .delay, .tone].map lowEntry ++
      [{ lowEntry .volume with spill := 1 }]) none =
      some (.invalid, .presetInvalid .spill (some 9)) := by decide +kernel

theorem test_preset_recordF :
    answerFor [lowEntry .drive, { lowEntry .delay with params := [8192, 16, 5000, 0] }] (some 150000) =
      some (.clamped, .presetWritten 20 170 1 [.param 1 2, .tempo]) := by decide +kernel

/-- The part under source TAP with a series and a stamp. -/
def tapping (period : Nat) (taps : List Nat) (last now : Word32) : State :=
  { playing with tgn := { playing.tgn with
    source := .tap, period := period, taps := taps, tapStamp := some last, frameCount := now } }

/-- 06, 6.2: the fourth, the sixth and the stray seventh tap. -/
theorem test_tap_fourth :
    (replyTo .tap (tapping 24150 [24000, 24300] 148300 171701)).map (·.fields) =
      some (.tapped .valid (some 23401) 3 23900) := by decide +kernel

theorem test_tap_sixth :
    (replyTo .tap (tapping 24000 [24000, 24300, 23401, 24299] 196000 220500)).map (·.fields) =
      some (.tapped .valid (some 24500) 4 24125) := by decide +kernel

theorem test_tap_seventh :
    (replyTo .tap (tapping 24125 [24300, 23401, 24299, 24500] 220500 224000)).map (·.fields) =
      some (.tapped .restarted (some 3500) 0 24125) := by decide +kernel

/-- A tuner in MONITOR at a frame before an upward crossing. -/
def listening (timebase wraps prev : Nat) (u : Int) (series : List Nat) : Tun :=
  { Tun.fresh with
    mode := .monitor, k := 4, armed := true, timebase := timebase, wraps := wraps
    prevCapture := some prev, prevSample := some u, series := series }

/-- 07, 7.2: the first capture carries across the wrap. -/
theorem test_capture_first :
    let t := (listening 65472 0 28000 (-1000000) []).frame 5000
    t.series = [37536] ∧ t.prevCapture = some 0 ∧ t.timebase = 0 ∧ t.wraps = 0 := by decide +kernel

theorem test_capture_second :
    let t := (listening 37440 0 0 (-250000) [37536]).frame 150000
    t.series = [37536, 37480] ∧ t.prevCapture = some 37480 := by decide +kernel

theorem test_capture_third :
    let t := (listening 9408 1 37480 (-450000) [37536, 37480]).frame 350000
    t.series = [37536, 37480, 37500] ∧ t.prevCapture = some 9444 := by decide +kernel

/-- R136: the arming check is strict at half the floor of 2,048. -/
theorem test_arming :
    let t := { Tun.fresh with mode := .monitor, prevSample := some 0 }
    (t.frame (-1024)).armed = false ∧ (t.frame (-1025)).armed = true := by decide +kernel

/-- R140, R144: a block peak of 2,047 lies below the floor, one of 2,048 does not; the blocks stop at 300. -/
theorem test_block_tests :
    let t := { listening 0 0 9444 5 [37500] with blockPeak := 2047, sinceReading := 299 }
    let a := t.blockTests
    a.series = [] ∧ a.prevCapture = none ∧ a.sinceReading = 300 ∧ a.blockTests.sinceReading = 300 ∧
    ({ t with blockPeak := 2048 }.blockTests).series = [37500] := by decide +kernel

/-- R185: latch bit 1, the beat lamp and the fault lamp. -/
theorem test_aux_word :
    State.auxOut { playing with
      scn := { playing.scn with latch := 0xFF02 }
      tgn := { playing.tgn with lamp := true }
      opu := { playing.opu with fault := some {
        first := .runaway
        causes := { frameLoss := false, runaway := true, powerWarn := false, converterLost := false }
        blockCount := 0, generation := 0, phase := .steady } } } = 0x2102#16 := by decide +kernel

/-- R150: the first frame after the link is RUNNING again only sets the previous sample; the crossing in
the second fires. -/
theorem test_first_frame_after_return :
    let t := { listening 0 0 9444 (-1) [] with prevSample := none, prevCapture := none, returned := true }
    let a := t.frame (-1)
    let b := a.frame 1
    a = { t with prevSample := some (-1), returned := false } ∧ b.prevCapture = some 32 ∧
    b.armed = false := by decide +kernel

/-- 07, 7.3 and 7.4: the fourth capture makes the reading, an E2 10 cents flat. -/
theorem test_capture_fourth :
    let t := (listening 46912 0 9444 (-640000) [37536, 37480, 37500]).frame 160000
    t.series = [] ∧ t.prevCapture = some 46963 ∧ t.state = .locked ∧
    t.reading = some { mean := 37509, reference := 4400
                       note := some { note := 17, name := 4, octave := 2, cents := -10 } } := by
  decide +kernel

/-- 07, 7.4: the note table at 440.0 Hz. -/
theorem test_note_table :
    [0, 16, 17, 18, 71].map (notePeriod 4400) = [99521, 39495, 37278, 35186, 1647] := by decide +kernel

/-- 07, 7.4: notes and cents (note 17 is E2, note 18 is F2). -/
theorem test_notes :
    [37000, 37509, 36232, 36221, 120000, 1600].map (judgePeriod (noteTable 4400)) =
      [some (17, 13), some (17, -10), some (17, 50), some (18, -49), none, none] ∧
    noteReading (18, -49) = { note := 18, name := 5, octave := 2, cents := -49 } := by decide +kernel

/-- 08, 8.1: a mute lifted mid-ramp, 10 frames down, 8 up, 30 down. -/
theorem test_mute_ramp :
    let down := Opu.advanceGain^[10] { playing.opu with gainState := .rampDown }
    let up := Opu.advanceGain^[8] { down with gainState := .rampUp }
    down.gain = 2816 ∧ up.gain = 3840 ∧
    (Opu.advanceGain^[29] { up with gainState := .rampDown }).gain = 128 ∧
    (Opu.advanceGain^[30] { up with gainState := .rampDown }).gain = 0 := by decide +kernel

/-- R178: with the gain MUTED at its take a LINK-REST makes its final step at the take, and is
answered DONE. -/
theorem test_rest_while_muted :
    let s := after (.linkRest .p0 7) (asking .linkRest
      { playing with opu := { playing.opu with gain := 0, gainState := .muted } })
    s.lnk.state = .resting ∧ s.opu.relay = .bypass ∧ statusAt s .p0 0 = some .done := by
  decide +kernel

/-- R117, R118: the frame that brings the counter to 0 makes the beat itself. -/
theorem test_beat_in_its_frame :
    let s := { playing with tgn := { playing.tgn with counter := 1 } }
    let t := after (.frameReceived (inFrame 0x800004 0) (inFrame 0x800000 0)) s
    t.tgn.beatCount = 1 ∧ t.tgn.counter = 24000 ∧ t.tgn.frameCount = 1 := by decide +kernel

/-- R182, R183: a CONV-READ's access carries its request's tag. -/
theorem test_conv_read_tag :
    let q : Request := .convRead { target := 0, index := 12 }
    ((after (q.toInstr .p0 7) (asking q playing)).lnk.queue.map (·.tag)) = [some 7] := by decide +kernel

/-- 09, 9.5: three ports on the command slot, with three accesses before a BUSY. -/
theorem test_conv_queue :
    let read : Access := { owner := some ticket1, tag := some 9, data := none, target := .primary
                           index := 12, sent := true, waited := 2, fresh := false }
    let s := { playing with lnk := { playing.lnk with queue := [read] } }
    (replyTo (.convWrite { target := 1, index := 3, data := 200 }) s).map (·.fields) = some (.posted 1) ∧
    (replyTo (.convRead { target := 0, index := 13 })
      { s with lnk := { s.lnk with queue := [read, read, read, read] } }).map (·.status) = some .busy := by
  decide +kernel

/-- A notice of each of five classes. -/
def sceneN : Notice := Scn.powerOn.notice .take none none none none
def beatN (count : Word32) : Notice :=
  .beat { count := count, inForce := 24000, cause := .counter, source := .internal, pulse := none }
def tunerN : Notice := Tun.fresh.notice .mode
def meterN : Notice := State.reset.meterNotice
def linkN : Notice := Lnk.fresh.linkNotice .state .off none
def faultN : Notice :=
  .fault { event := .entered, cause := none, mode := none, port := none, record := none, relay := .bypass, failover := false }

/-- Port 1's full queue: BEAT, TUNER, fourteen SCENE. -/
def fullQueue : PortState :=
  { PortState.fresh with notices := beatN 1 :: tunerN :: List.replicate 14 sceneN, subs := 511 }

/-- 10, 10.4: a BEAT takes the place of the queued one. -/
theorem test_notice_replaces :
    (fullQueue.offer (beatN 2)).notices = beatN 2 :: tunerN :: List.replicate 14 sceneN := by decide +kernel

/-- 10, 10.4: FAULT and LINK push out BEAT and TUNER; METER is then discarded with the lost marker set. -/
theorem test_notice_full :
    let q := (fullQueue.offer faultN).offer linkN
    q.notices = List.replicate 14 sceneN ++ [faultN, linkN] ∧ q.lost = false ∧
    (q.offer meterN).notices = q.notices ∧ (q.offer meterN).lost = true := by decide +kernel

/-- 10, 10.3: IDENTIFY on a fresh port: restart count 0, nothing queued, 7 entries free beside its own. -/
theorem test_identify :
    replyTo .identify State.reset = some {
      tag := 7, kind := 35, status := .done
      fields := .identity { port := .p0, restartCount := 0, lastStart := .powerOn, queued := 0, free := 7 } } := by
  decide +kernel

/-- R88: the generation goes from 65,535 to 1. -/
theorem test_generation_wraps : nextGeneration 65535 = 1 ∧ nextGeneration 0 = 1 := by decide +kernel

/-- R91: set, then clear, then toggle; bits above 15 are ignored. -/
theorem test_latch_masks :
    latchAfter 0x00F0#16 { set := 0x1000F#32, clear := 0x3C#32, toggle := 0x81#32 } = 0x0042#16 := by
  decide +kernel

/-- 10.2: a request message: sync 165, length 2, tag, kind, and a check byte that makes the sum 0. -/
theorem test_message : requestMessage 7 .identify = [165, 2, 0, 7, 35, 212] := by decide +kernel

/-- R119, R128: a beat of 30,000 reaches a synced stage and not a stage without sync. -/
theorem test_beat_reaches : (delayStage.atBeat 30000).beat = 30000 ∧ (volumeStage.atBeat 30000).beat = 24000 := by
  decide +kernel

/-! ### Witnesses: a state and operands that meet the hypotheses of each obligation -/

theorem witness_ResetInputHoldsThePart :
    let s := after .powerOnAssert playing
    s.por = true ∧ (Instr.commit ≠ .powerOnAssert ∧ Instr.commit ≠ .powerOnRelease) := by decide +kernel

theorem witness_PowerOnLeavesTheSpecValues : (after .powerOnAssert playing).por = true := by decide +kernel

theorem witness_RequestBodyRoundTrip :
    (Request.recall { presetA := 2147483647, cond := some { bit := -2147483648, polarity := 0, presetB := 5, toggle := true }, fade := some (-1) }).fits = true ∧
    (Request.writePreset { fittingPreset with
      entries := [fittingEntry, { fittingEntry with sync := some 254, spill := 255, kind := 255, params := [-8388608, 8388607] }] }).fits = true ∧
    Request.tap.fits = true := by decide +kernel

theorem witness_GoodMessageIsQueuedOrOverruns :
    let full := playing.setPort .p0 ((playing.port .p0).setRequests [[], [], [], []])
    playing.por = false ∧ (playing.port .p0).rx.phase = .hunt ∧ (playing.port .p0).requests.length < 4 ∧
    full.por = false ∧ (full.port .p0).rx.phase = .hunt ∧ ¬(full.port .p0).requests.length < 4 ∧
    1 ≤ [7#8].length ∧ (List.replicate 600 7#8).length ≤ 600 := by decide +kernel

/-- A RESTART taken from port 0. -/
def restarting : State := after (.restart .p0 7) (asking .restart playing)

theorem witness_RestartIsAnsweredAndHoldsThePorts :
    Takes (asking .restart playing) .p0 7 .restart 0 ∧
    restarting.pif.restart = some { ticket := { port := .p0, entry := 0 }, sent := false } ∧
    (Port.p1 ≠ Port.p0) ∧ restarting.por = false ∧ (restarting.port .p0).tx = .idle ∧
    ((restarting.port .p0).replies[(0 : Nat)]?).any (·.isFilled) = true := by decide +kernel

/-- Its reply has been sent. -/
def restartSent : State := (after (.replySendStart .p0) restarting).txMessageEnd .p0

/-- 10 R199: the restart is applied when its reply's last byte has been sent. -/
theorem test_restart_at_the_last_byte :
    let t := afterAll [.replySendStart .p0, .txMessageEnd .p0] restarting
    t.pif.restart = none ∧ t.pif.restartCount = playing.pif.restartCount + 1 := by decide +kernel

theorem witness_RestartApplied :
    restartSent.por = false ∧
    restartSent.pif.restart = some { ticket := { port := .p0, entry := 0 }, sent := true } ∧
    restartSent.pif.port0.tx = .idle ∧ restartSent.pif.port1.tx = .idle ∧
    restartSent.pif.port2.tx = .idle ∧
    (after (.replySendStart .p0) restarting).pif.restart.isSome = true ∧
    ((after (.replySendStart .p0) restarting).port .p0).tx ≠ .idle := by decide +kernel

theorem witness_UnreadableRequestIsAnsweredBadRequest :
    let s := playing.setPort .p0 { playing.port .p0 with requests := [[7, 22, 1, 2, 0, 0], [1]] }
    s.por = false ∧ s.pif.restart = none ∧ (s.port .p0).requests = [7, 22, 1, 2, 0, 0] :: [[1]] ∧
    (s.port .p0).freeEntry = some 0 ∧ readRequest [7, 22, 1, 2, 0, 0] = .bad 7 22 (some 1) ∧
    (0#8).toNat = 0 ∧ 36 < (37#8).toNat ∧ 1 ≤ (1#8).toNat ∧ (36#8).toNat ≤ 36 := by decide +kernel

/-- Port 0 within a frame whose bytes after the sync byte are those given. -/
def receiving (buf : List RxByte) (phase : RxPhase) : State :=
  playing.setPort .p0 { playing.port .p0 with rx := { phase := phase, buf := buf, since := 1000 } }

theorem witness_InterbyteTimeoutDiscardsTheFrame :
    let b : RxByte := { value := 165, framingError := false, gap := 10 }
    let c : RxByte := { value := 2, framingError := false, gap := 10 }
    let d : RxByte := { value := 0, framingError := false, gap := 10 }
    (receiving [] .length).por = false ∧ ((receiving [] .length).port .p0).rx.phase ≠ .hunt ∧
    judge [] = .unfinished .length ∧ judge [c, d, c] = .unfinished .body ∧
    judge [c, d, b] = .unfinished .body ∧ judge [c, d, c, c] = .unfinished .check ∧
    (∀ x ∈ [c, d, c], x.value ≠ 165#8) ∧ ((playing.port .p0).rx.phase = .hunt) := by decide +kernel

/-- IDENTIFY answered on port 0, its reply not yet sent. -/
def answered : State := after (.identify .p0 7) (asking .identify playing)

/-- A notice queued on port 0. -/
def noticed : State := playing.setPort .p0 { playing.port .p0 with notices := [sceneN], subs := 1 }

theorem witness_TransmitLineSendsOneMessageAtATime :
    (answered.port .p0).tx = .idle ∧ (answered.port .p0).order = 0 :: [] ∧
    ((answered.port .p0).replies[(0 : Nat)]?).any (·.isFilled) = true ∧ answered.por = false ∧
    answered.pif.restart = none ∧ (answered.port .p0).order ≠ [] ∧
    noticed.por = false ∧ noticed.pif.restart = none ∧ (noticed.port .p0).tx = .idle ∧
    (noticed.port .p0).order = [] ∧ (noticed.port .p0).notices = sceneN :: [] ∧
    ((after (.replySendStart .p0) answered).port .p0).tx = .reply 0 false false ∧
    ((after (.noticeSendStart .p0) noticed).port .p0).tx = .notice sceneN false ∧
    (after (.replySendStart .p0) restarting).pif.restart =
      some { ticket := { port := .p0, entry := 0 }, sent := false } ∧
    ((after (.replySendStart .p0) restarting).port .p0).tx = .reply 0 false false := by decide +kernel

theorem witness_SubscribeReplacesTheSet :
    Takes (asking (.subscribe { classes := 511 }) playing) .p0 7 (.subscribe { classes := 511 }) 0 ∧
    Takes (asking (.subscribe { classes := 512 }) playing) .p0 7 (.subscribe { classes := 512 }) 0 := by
  decide +kernel

theorem witness_NoticeIsPlacedInTheQueue :
    let q := (fullQueue.offer faultN).offer linkN
    (((beatN 2).cls.latestOnly = true) ∧ ∃ m ∈ fullQueue.notices, m.cls = (beatN 2).cls) ∧
    ¬(faultN.cls.latestOnly = true ∧ ∃ m ∈ fullQueue.notices, m.cls = faultN.cls) ∧
    16 ≤ fullQueue.notices.length ∧ (∃ m ∈ fullQueue.notices, m.cls.latestOnly = true) ∧
    16 ≤ q.notices.length ∧ (∀ m ∈ q.notices, m.cls.latestOnly = false) ∧
    fullQueue.notices.length ≤ 16 ∧
    ((fullQueue.notices.map Notice.cls).filter NoticeClass.latestOnly).Nodup := by decide +kernel

/-- The link up after power-on, the engine still STOPPED. -/
def stopped : State := { State.reset with lnk := playing.lnk }

theorem witness_EngineStartsByItself :
    stopped.por = false ∧ stopped.lnk.state = .running ∧ stopped.sen.engine = .stopped ∧
    stopped.sen.bypassHold = false ∧ stopped.opu.reasons.stopped = true ∧
    State.reset.lnk.state ≠ .running ∧ playing.sen.engine ≠ .stopped := by decide +kernel

/-- The build of STARTING done at a boundary. -/
def started : State :=
  { stopped with
    sen := { stopped.sen with
      engine := .starting, awaiting := some (List.replicate 16 (0, 0))
      front := { Context.emptied with state := .building, stages := [volumeStage], cost := 10 } }
    opu := { stopped.opu with reasons := { noReasons with starting := true } } }

theorem witness_StartingCompletes :
    started.por = false ∧ started.sen.engine = .starting ∧ started.sen.front.state = .building ∧
    started.sen.front.buildCount = 0 ∧ started.sen.awaiting = some (List.replicate 16 (0, 0)) ∧
    started.scn.phase = .steady ∧ started.scn.switch = none ∧ started.spl.grant = none ∧
    started.opu.resume = none ∧ started.opu.move = none ∧ started.opu.reasons.starting = true ∧
    started.opu.gainState = .muted ∧ started.opu.relay = .bypass ∧
    { started.opu with relay := .engaged }.relay = .engaged ∧
    { started with opu := { started.opu with relay := .engaged } }.scn.phase = .steady := by decide +kernel

/-- Sixteen frames gathered, and the front's stages disabled. -/
def blockDue : State :=
  { playing with sen := { playing.sen with
    gathered := List.replicate 16 (-8388608, 3)
    front := { playing.sen.front with stages := [{ volumeStage with enabled := false }] } } }

/-- A tail of the DELAY. -/
def aTail : Tail :=
  { inst := delayStage, cost := 50, originGen := 1, originIdx := 0, state := .running, drainReload := 48
    drain := 48, life := 60000, cutRan := false, awaited := false }

/-- The part with a tail running and one being cut in the pass under way. -/
def tailing : State :=
  { blockDue with spl := { blockDue.spl with
    tails := [aTail, { aTail with inst := { delayStage with segs := [5, 6, 7] }, state := .cutting }] } }

/-- Its pass under way. -/
def passing : State := after .blockBoundary tailing

/-- The same pass with a saturation at the output mix and a synced DELAY newly degraded. -/
def clipping : State :=
  { passing with sen := { passing.sen with
    pass := passing.sen.pass.map fun r => { r with mixSat := true, tempoDegraded := true } } }

theorem witness_PassCompletionUpdatesTails :
    (passing.por = false ∧ ∃ r, passing.sen.pass = some r ∧ r.mixSat = false ∧
      r.tempoDegraded = false ∧ (∀ x ∈ r.front ++ r.back ++ r.tails, x.clip = false) ∧
      r.tails.length = passing.spl.tails.length ∧
      r.front.length = passing.sen.front.stages.length ∧
      r.back.length = passing.sen.back.stages.length) ∧
    (clipping.por = false ∧ clipping.sen.summaryClip = false ∧ ∃ r, clipping.sen.pass = some r ∧
      r.mixSat = true ∧ r.tempoDegraded = true ∧ r.tails.length = clipping.spl.tails.length ∧
      r.front.length = clipping.sen.front.stages.length) := by
  refine ⟨⟨by decide +kernel, passing.sen.pass.get (by decide +kernel), ?_⟩,
    by decide +kernel, by decide +kernel, clipping.sen.pass.get (by decide +kernel), ?_⟩
  all_goals decide +kernel

theorem witness_TailsDrainAndLiveOut :
    let s := { tailing with spl := { tailing.spl with
      tails := [{ aTail with drain := 0 }, { aTail with life := 0 }, { aTail with drain := 0, life := 0 }] } }
    s.por = false ∧ s.spl.tails[(1 : Nat)]? = some { aTail with life := 0 } ∧ aTail.state = .running ∧
    aTail.drain ≠ 0 := by decide +kernel

/-- A runaway count that has come to 2,048, and the part in FAULT. -/
def runningAway : State := { playing with sen := { playing.sen with runaway := 2048 } }
def faulted : State := after .runaway runningAway

theorem witness_ParametersGlideToTheirTargets :
    (∃ (a b : Int) (j k : Nat), a ≤ b ∧ a ≠ b ∧ 1 ≤ j ∧ j ≤ 16 ∧ j ≤ k) ∧
    (∃ d c n : Nat, d ≠ c ∧ ((d : Int) - c).natAbs ≤ 32 * n) :=
  ⟨⟨4096, 4100, 16, 16, by decide, by decide, by decide, by decide, by decide⟩,
    ⟨18000, 24560, 205, by decide, by decide⟩⟩

theorem witness_FadeAndCutGains :
    ∃ fade k j k' j' : Nat, 1 ≤ fade ∧ 1 ≤ k ∧ k ≤ fade ∧ 1 ≤ j ∧ j ≤ 16 ∧ 1 ≤ k' ∧ 1 ≤ j' ∧
      16 * (k - 1) + j ≤ 16 * (k' - 1) + j' :=
  ⟨1, 1, 16, 1, 16, by decide, by decide, by decide, by decide, by decide, by decide, by decide, by decide⟩

theorem witness_CompGainFollowsItsTarget :
    (∃ p t r : Nat, 1 ≤ t ∧ 1 ≤ r ∧ p ≤ t) ∧ (∃ g t a rl : Nat, 1 ≤ a ∧ 1 ≤ rl ∧ t < g) ∧
    (∃ g t a rl : Nat, 1 ≤ a ∧ 1 ≤ rl ∧ g < t) :=
  ⟨⟨1000000, 1000000, 4, by decide, by decide, by decide⟩,
    ⟨4096, 2048, 4, 100, by decide, by decide, by decide⟩,
    ⟨2048, 4096, 1, 1, by decide, by decide, by decide⟩⟩

theorem witness_ShaperStaysBetweenItsPoints :
    -8388608 ≤ (8388607 : Int) ∧ ((0 + 8388608 : Int) % 65536 = 0) ∧
    (∀ x ∈ curveZero, -32768 ≤ x ∧ x ≤ 32767) := by decide +kernel

theorem witness_DelayLineDelaysByItsTime :
    [7, 3].Nodup ∧ Memory.wf [(24576, 5), (57344, -1)] = true ∧ 16 ≤ 16 ∧ 16 + 16 ≤ 8192 * [7, 3].length ∧
    16383 < 8192 * [7, 3].length ∧ (9 :: List.replicate 16 (0 : Int))[(0 : Nat)]? = some 9 ∧
    0 + 16 < (9 :: List.replicate 16 (0 : Int)).length := by decide +kernel

/-- Five tails running beside a HOLD stage in the front context: more than the selection keeps. -/
def crowded : State :=
  { playing with
    sen := { playing.sen with front := { playing.sen.front with stages := [delayStage, volumeStage] } }
    spl := { playing.spl with tails := List.replicate 4 aTail } }

theorem witness_SelectionKeepsFourWithinBudget :
    1200 ≤ 1600 ∧ (∀ i ∈ crowded.sen.front.stages, i.cut = false) ∧
    removed 1200 (runningCosts crowded.spl.tails ++
      (crowded.sen.front.stages.filter (·.holds)).map (·.kind.cost)) = 1 := by decide +kernel

/-- A stored preset of a DELAY and a VOLUME, with a fade of 4 and a tempo. -/
def aPreset : Preset :=
  { name := [65], chain := [delayEntry, { kind := .volume, enabled := true, spill := .cut, params := [4096], sync := none }]
    tempo := some 30000, fade := some 4, level := 4096 }

/-- The part playing, with the preset in slots 0 and 127. -/
def stocked : State :=
  { playing with scn := { playing.scn with
    library := ((List.replicate 128 none).set 0 (some aPreset)).set 127 (some aPreset), latch := 0x8000 } }

/-- A conditional and an unconditional recall. -/
def condRecall : RecallReq :=
  { presetA := 5, cond := some { bit := 15, polarity := 0, presetB := 127, toggle := true }, fade := some 255 }
def plainRecall : RecallReq := { presetA := 0, cond := none, fade := none }

/-- The same with two segments free, and two tails of three segments running. -/
def spent : State :=
  { stocked with spl := { stocked.spl with
    free := [3, 4], tails := [aTail, { aTail with inst := { delayStage with segs := [5, 6, 7] } }] } }

theorem witness_RecallIsTakenInSteady :
    Takes (asking (.recall condRecall) stocked) .p0 7 (.recall condRecall) 0 ∧
    Takes (asking (.recall plainRecall) stocked) .p0 7 (.recall plainRecall) 0 ∧
    Takes (asking (.recall { plainRecall with presetA := 5 }) stocked) .p0 7 (.recall { plainRecall with presetA := 5 }) 0 ∧
    recallInRange condRecall = true ∧ recallInRange plainRecall = true ∧ stocked.sen.engine = .run ∧
    stocked.scn.phase = .steady ∧ stocked.scn.switch = none ∧ stocked.scn.pendingRecall = none ∧
    stocked.scn.latch.getLsbD 15 ≠ decide ((0 : Int) = 1) ∧
    stocked.scn.library.getD 127 none = some aPreset ∧ stocked.scn.library.getD 5 none = none ∧
    chainDemand aPreset.chain ≤ stocked.spl.free.length ∧
    Takes (asking (.recall plainRecall) spent) .p0 7 (.recall plainRecall) 0 ∧ spent.sen.engine = .run ∧
    spent.scn.phase = .steady ∧ spent.scn.switch = none ∧ spent.scn.pendingRecall = none ∧
    spent.spl.free.length < chainDemand aPreset.chain ∧
    2 + (tailSegs ((spent.spl.tails.take 1).filter fun y => decide (y.state = .running))).length ≥
      chainDemand aPreset.chain := by decide +kernel

/-- A switch to slot 0 asked for by port 1. -/
def aSwitch : SwitchRec :=
  { ticket := ticket1, slot := 0, fade := 4, kind := .faded, blocksLeft := 2, degraded := []
    tempo := some 30000, budget := false, selected := false, commitDue := false }

/-- A back context with the preset's chain built. -/
def builtBack : Context :=
  { Context.emptied with state := .building, generation := 1, stages := [delayStage, volumeStage], cost := 60 }

/-- The part with that switch under way in a phase; port 1's RECALL is still to be answered. -/
def switching (phase : SwitchPhase) (w : SwitchRec) : State :=
  owing 1 { stocked with
    scn := { stocked.scn with live := aPreset, generation := 1, phase := phase, switch := some w }
    sen := { stocked.sen with back := builtBack, awaiting := some (List.replicate 16 (0, 0)) }
    spl := { stocked.spl with free := (List.range 48).drop 3 } }

/-- A recall left pending by port 1, its entry 3 RESERVED. -/
def waitingRecall : PendingRecall := { ticket := { port := .p1, entry := 3 }, req := plainRecall }
def withPending (q : PendingRecall) (s : State) : State :=
  { s.setPort .p1 { s.port .p1 with replies := (s.port .p1).replies.set 3 (.reserved 8 1) } with
    scn := { s.scn with pendingRecall := some q } }

/-- Sixteen frames gathered, and no pass under way. -/
def atBoundary (s : State) : State :=
  { s with sen := { s.sen with gathered := List.replicate 16 (-8388608, 3), awaiting := none, pass := none } }

/-- The quiet boundary of the obligation. -/
def isQuiet (s : State) : Bool :=
  decide (s.por = false ∧ s.sen.gathered.length = 16 ∧ s.sen.awaiting = none ∧ s.sen.pass = none ∧
    s.scn.pendingRecall = none ∧ s.spl.grant = none ∧ s.spl.tails = [])

/-- A front chain of the stages given. -/
def playingChain (l : List StageInst) : State :=
  { blockDue with sen := { blockDue.sen with front := { blockDue.sen.front with stages := l } } }

/-- A LOOP whose send and return gains are unity and whose mix is one half. -/
def loopStage : StageInst := buildStage Lib.powerOn 24000 []
  { kind := .loop, enabled := true, spill := .cut, params := [4096, 4096, 2048], sync := none }

/-- A build of STARTING, and one of PREPARE, with a number of steps left and the stages built. -/
def startBuilding (n : Nat) (l : List StageInst) : State :=
  { blockDue with sen := { blockDue.sen with
    engine := .starting
    front := { Context.emptied with state := .building, stages := l, buildCount := n, toClear := [0, 1] } } }
def prepBuilding (n : Nat) (l : List StageInst) : State :=
  let s := atBoundary (switching .prepare aSwitch)
  { s with sen := { s.sen with back := { builtBack with stages := l, buildCount := n, granted := [0, 1, 2] } } }

theorem witness_BoundaryBeginsAPassAndADisabledChainIsTransparent :
    let glide := { volumeStage with tgt := [4100] }
    (∀ s ∈ [blockDue, playingChain [volumeStage, volumeStage], playingChain [glide], playingChain [loopStage]],
      isQuiet s = true ∧ s.sen.engine = .run ∧ s.scn.phase = .steady ∧ s.scn.switch = none ∧
      (∀ f ∈ s.sen.gathered, -8388608 ≤ f.1 ∧ f.1 ≤ 8388607)) ∧
    (∀ i ∈ blockDue.sen.front.stages, i.enabled = false) ∧
    volumeStage.run = .volume ∧ volumeStage.enabled = true ∧ volumeStage.tgt = volumeStage.cur ∧
    glide.run = .volume ∧ glide.cur = [4096] ∧ glide.tgt = [4100] ∧
    loopStage.run = .loop ∧ loopStage.enabled = true ∧ loopStage.cur = [4096, 4096, 2048] ∧
    loopStage.tgt = [4096, 4096, 2048] ∧ (playingChain [loopStage]).loopOpen = true ∧
    { playingChain [loopStage] with lnk := { playing.lnk with auxIn := 1 } }.loopOpen = false ∧
    (∀ n ∈ [1, 2], ∀ l ∈ [[], [volumeStage]], isQuiet (startBuilding n l) = true ∧
      (startBuilding n l).sen.front.buildCount = n ∧ Memory.wf (startBuilding n l).spl.mem = true ∧
      (startBuilding n l).scn.phase = .steady ∧ (startBuilding n l).scn.switch = none) ∧
    (startBuilding 1 []).scn.live.chain.length = 1 ∧
    (∀ n ∈ [1, 2], ∀ l ∈ [[], [delayStage, volumeStage]], isQuiet (prepBuilding n l) = true ∧
      (prepBuilding n l).scn.switch = some aSwitch ∧ (prepBuilding n l).sen.back.buildCount = n) ∧
    (prepBuilding 1 []).scn.live.chain.length = 2 ∧
    (∀ n ∈ [1, 2, 3], ∀ p ∈ [SwitchPhase.fade, .gapOut, .gapIn],
      let w := { aSwitch with blocksLeft := n }
      isQuiet (atBoundary (switching p w)) = true ∧
      (atBoundary (switching p w)).scn.switch = some w ∧ w.commitDue = false ∧
      (atBoundary (switching p w)).sen.engine = .run) := by decide +kernel

/-- A part at a boundary of PREPARE: with a grant that waits on a tail, and with the back context LIVE. -/
def waitingGrant (tail : Tail) : State :=
  { prepBuilding 2 [] with spl := { (prepBuilding 2 []).spl with
    tails := [tail], grant := some { demand := 4, due := false } } }
def liveBack (b : Bool) : State :=
  let s := atBoundary (switching .prepare { aSwitch with budget := b })
  { s with sen := { s.sen with back := { builtBack with state := .live } } }

theorem witness_BoundaryInPrepare :
    let ready (s : State) : Bool := decide (s.por = false ∧ s.sen.gathered.length = 16 ∧
      s.sen.awaiting = none ∧ s.sen.pass = none ∧ s.sen.engine = .run ∧ s.scn.phase = .prepare)
    ready (waitingGrant aTail) = true ∧ ready (waitingGrant { aTail with awaited := true }) = true ∧
    aTail.awaited = false ∧ (waitingGrant aTail).scn.switch = some aSwitch ∧ aSwitch.commitDue = false ∧
    (waitingGrant aTail).sen.back.state = .building ∧
    ready (liveBack false) = true ∧ ready (liveBack true) = true ∧ (liveBack true).sen.back.state = .live ∧
    (liveBack true).spl.grant = none ∧ 1 ≤ aSwitch.fade ∧
    (liveBack false).scn.switch = some { aSwitch with budget := false } ∧
    (liveBack true).scn.switch = some { aSwitch with budget := true } := by decide +kernel

theorem witness_RunawayEntersFault :
    let r := withPending waitingRecall (switching .fade aSwitch)
    let s := { r with sen := { r.sen with runaway := 2048 } }
    runningAway.por = false ∧ 2048 ≤ runningAway.sen.runaway ∧ runningAway.opu.fault = none ∧
    runningAway.scn.switchOk = true ∧ runningAway.opu.resume = none ∧ runningAway.scn.phase = .steady ∧
    runningAway.scn.pendingRecall = none ∧ faulted.opu.fault.isSome = true ∧
    { faulted with sen := { faulted.sen with runaway := 2048 } }.sen.runaway = 2048 ∧
    playing.sen.runaway < 2048 ∧
    s.por = false ∧ s.opu.fault = none ∧ s.scn.switchOk = true ∧ s.opu.resume = none ∧
    s.scn.switch = some aSwitch ∧ s.scn.phase ≠ .gapIn ∧ s.scn.pendingRecall = some waitingRecall ∧
    aSwitch.ticket ≠ waitingRecall.ticket ∧
    (s.port .p1).replies[(2 : Nat)]? = some (.reserved 9 1) ∧
    (s.port .p1).replies[(3 : Nat)]? = some (.reserved 8 1) := by decide +kernel

theorem witness_RecallByPhase :
    let out : RecallReq := { plainRecall with presetA := 128 }
    let pend (s : State) : State := { s with scn := { s.scn with pendingRecall := some { ticket := ticket1, req := plainRecall } } }
    Takes (asking (.recall out) stocked) .p0 7 (.recall out) 0 ∧ recallInRange out = false ∧
    Takes (asking (.recall plainRecall) stopped) .p0 7 (.recall plainRecall) 0 ∧ stopped.sen.engine ≠ .run ∧
    Takes (asking (.recall plainRecall) (pend (switching .fade aSwitch))) .p0 7 (.recall plainRecall) 0 ∧
    (switching .fade aSwitch).sen.engine = .run ∧
    Takes (asking (.recall plainRecall) (switching .prepare { aSwitch with selected := true })) .p0 7 (.recall plainRecall) 0 ∧
    Takes (asking (.recall plainRecall) (switching .prepare aSwitch)) .p0 7 (.recall plainRecall) 0 ∧
    ((asking (.recall plainRecall) (switching .prepare aSwitch)).port .p1).replies[(2 : Nat)]? = some (.reserved 9 1) ∧
    (switching .prepare aSwitch).scn.library.getD (0 : Int).toNat none = some aPreset := by decide +kernel

/-- A grant whose boundary has come. -/
def granting : State :=
  { switching .prepare aSwitch with
    sen := { playing.sen with back := { Context.emptied with state := .building, generation := 1, cost := 60 } }
    spl := { playing.spl with grant := some { demand := 3, due := true } } }

theorem witness_GrantAfterReclaim :
    granting.por = false ∧ granting.spl.grant = some { demand := 3, due := true } ∧
    granting.scn.switch = some aSwitch ∧ granting.scn.phase = .prepare ∧
    granting.sen.back.state = .building ∧ granting.sen.back.stages = [] ∧ granting.sen.back.granted = [] ∧
    granting.scn.live.chain = delayEntry :: aPreset.chain.drop 1 ∧
    chainDemand granting.scn.live.chain ≤ granting.spl.free.length ∧
    (∀ g, playing.spl.grant = some g → g.due = false) ∧
    (3 ≤ 2 + (tailSegs (spent.spl.tails.filter fun t => decide (t.state = .running))).length) ∧
    (reclaim 3 2 spent.spl.tails).map (·.state) = [.cutting, .running] := by
  refine ⟨?_, ?_, ?_, ?_, ?_, ?_, ?_, ?_, ?_, ?_, ?_, ?_⟩
  case refine_10 => intro g h; cases h
  all_goals decide +kernel

/-- PREPARE done, with the costs of the two contexts and the tails given. -/
def prepared (w : SwitchRec) (front back : Nat) (tails : List Tail) : State :=
  let s := switching .prepare w
  { s with
    sen := { s.sen with
      front := { s.sen.front with cost := front }, back := { s.sen.back with cost := back } }
    spl := { s.spl with tails := tails } }

theorem witness_EndOfPrepareChecksTheBudget :
    let gapped := prepared aSwitch 800 801 []
    let faded := prepared aSwitch 800 800 []
    let budget := prepared aSwitch 800 750 [aTail, aTail]
    (∀ s ∈ [gapped, faded, budget], s.por = false ∧ s.scn.phase = .prepare ∧
      s.scn.switch = some aSwitch ∧ s.sen.back.state = .building ∧ s.sen.back.buildCount = 0 ∧
      s.spl.grant = none) ∧
    aSwitch.kind = .faded ∧
    1600 < gapped.sen.front.cost + gapped.sen.back.cost ∧
    faded.sen.front.cost + faded.sen.back.cost + tailsCost faded.spl.tails ≤ 1600 ∧
    budget.sen.front.cost + budget.sen.back.cost ≤ 1600 ∧
    1600 < budget.sen.front.cost + budget.sen.back.cost + tailsCost budget.spl.tails ∧
    (∀ k ∈ [SwitchKind.immediate, .cut], ∀ b ∈ [true, false],
      let w : SwitchRec := { aSwitch with kind := k, fade := 0, selected := b }
      (prepared w 800 801 []).scn.switch = some w ∧ (prepared w 800 801 []).scn.phase = .prepare) := by
  decide +kernel

theorem witness_CommitExchangesTheContexts :
    let s := switching .fade { aSwitch with commitDue := true }
    s.por = false ∧ s.scn.switch = some { aSwitch with commitDue := true } ∧
    (s.port ticket1.port).replies[ticket1.entry]? = some (.reserved 9 1) := by decide +kernel

theorem witness_SwitchEndTakesThePendingRecall :
    let g := switching .gapIn { aSwitch with kind := .gapped, blocksLeft := 0 }
    let s := { stocked with scn := { stocked.scn with pendingRecall := some { ticket := ticket1, req := plainRecall } } }
    g.por = false ∧ g.scn.phase = .gapIn ∧ g.scn.switch = some { aSwitch with kind := .gapped, blocksLeft := 0 } ∧
    s.por = false ∧ s.scn.phase = .steady ∧ s.scn.switch = none ∧
    s.scn.pendingRecall = some { ticket := ticket1, req := plainRecall } ∧ plainRecall.cond = none ∧
    s.scn.library.getD plainRecall.presetA.toNat none = some aPreset ∧
    chainDemand aPreset.chain ≤ s.spl.free.length ∧ s.scn.library.getD (5 : Int).toNat none = none ∧
    (∀ u ∈ [withPending { waitingRecall with req := condRecall } spent, withPending waitingRecall spent],
      u.por = false ∧ u.scn.phase = .steady ∧ u.scn.switch = none ∧
      u.spl.free.length < chainDemand aPreset.chain) ∧
    stocked.scn.latch.getLsbD 15 ≠ decide ((0 : Int) = 1) ∧
    stocked.scn.library.getD 127 none = some aPreset := by
  decide +kernel

/-- An EDIT of the clean scene's level beyond its range. -/
def anEdit : EditReq := { stage := 0, param := 0, value := 65536, expected := some 0 }

theorem witness_EditWritesRecordAndInstance :
    Takes (asking (.edit anEdit) playing) .p0 7 (.edit anEdit) 0 ∧
    anEdit.expected = some (playing.scn.generation.toNat : Int) ∧ 0 ≤ anEdit.stage ∧
    playing.scn.live.chain[anEdit.stage.toNat]? =
      some { kind := .volume, enabled := true, spill := .cut, params := [4096], sync := none } ∧
    StageKind.volume.range anEdit.param.toNat = some (0, 65535) ∧ StageKind.volume.range 1 = none ∧
    (1 : Int) ≠ playing.scn.generation.toNat ∧ (playing.scn.live.chain.length : Int) ≤ 1 ∧
    (let m : StageEntry := { kind := .mod, enabled := true, spill := .cut, params := [0, 20, 0, 0], sync := none }
     let s := { playing with scn := { playing.scn with live := { cleanScene with chain := [m] } } }
     let r : EditReq := { stage := 0, param := 0, value := 2, expected := none }
     Takes (asking (.edit r) s) .p0 7 (.edit r) 0 ∧ s.scn.live.chain[r.stage.toNat]? = some m) := by decide +kernel

theorem witness_BypassStageWritesTheFlag :
    let r : BypassReq := { stage := 0, enabled := false, expected := none }
    Takes (asking (.bypassStage r) playing) .p0 7 (.bypassStage r) 0 ∧ r.expected = none ∧ 0 ≤ r.stage ∧
    (∀ x ∈ [{ r with expected := some 1 }, { r with stage := -1 }, { r with stage := 1 }],
      Takes (asking (.bypassStage x) playing) .p0 7 (.bypassStage x) 0) ∧
    (1 : Int) ≠ playing.scn.generation.toNat ∧ (playing.scn.live.chain.length : Int) ≤ 1 ∧
    playing.scn.live.chain[r.stage.toNat]? =
      some { kind := .volume, enabled := true, spill := .cut, params := [4096], sync := none } := by decide +kernel

/-- A LATCH that changes the word, and one that does not. -/
theorem witness_LatchAppliesItsMasks :
    let r : LatchReq := { set := 0x8001, clear := 1, toggle := 0 }
    Takes (asking (.latch r) playing) .p0 7 (.latch r) 0 ∧ playing.lnk.auxValid = true ∧
    (after (.latch .p0 7 r) (asking (.latch r) playing)).scn.latch ≠ playing.scn.latch ∧
    (after (.latch .p0 7 r) (asking (.latch r) { playing with scn := { playing.scn with latch := 0x8000 } })).scn.latch = 0x8000 := by
  decide +kernel

theorem witness_WritePresetStoresAValidRecord :
    let costly : WritePresetReq := { fittingPreset with entries := List.replicate 6 (lowEntry .reverb) }
    let deep : WritePresetReq := { fittingPreset with entries := List.replicate 3 (delayWithReach 98304) }
    let late : WritePresetReq := { fittingPreset with slot := 128 }
    Takes (asking (.writePreset fittingPreset) playing) .p0 7 (.writePreset fittingPreset) 0 ∧
    presetFault fittingPreset = none ∧ chainCost (storedPreset fittingPreset).chain ≤ 1200 ∧
    chainDemand (storedPreset fittingPreset).chain ≤ 24 ∧
    Takes (asking (.writePreset costly) playing) .p0 7 (.writePreset costly) 0 ∧ presetFault costly = none ∧
    1200 < chainCost (storedPreset costly).chain ∧
    Takes (asking (.writePreset deep) playing) .p0 7 (.writePreset deep) 0 ∧ presetFault deep = none ∧
    chainCost (storedPreset deep).chain ≤ 1200 ∧ 24 < chainDemand (storedPreset deep).chain ∧
    Takes (asking (.writePreset late) playing) .p0 7 (.writePreset late) 0 ∧ 127 < late.slot ∧
    nameOk [] = false ∧ nameOk fittingPreset.name = true ∧
    (∀ x ∈ [ (({ fittingEntry with kind := 10 } : EntryReq), PresetReason.kind)
           , ({ fittingEntry with params := [] }, .paramCount), ({ fittingEntry with spill := 1 }, .spill)
           , ({ fittingEntry with sync := some 0 }, .sync)
           , ({ lowEntry .mod with params := (lowEntry .mod).params.set 0 2 }, .type)
           , (lowEntry .loop, .loopCount) ],
      let r : WritePresetReq := { fittingPreset with entries := [lowEntry .loop, x.1] }
      Takes (asking (.writePreset r) playing) .p0 7 (.writePreset r) 0 ∧
      presetFault r = some (x.2, some 1)) := by decide +kernel

theorem witness_PresetReadEraseStore :
    (∀ n ∈ [0, 127, 128], Takes (asking (.readPreset { slot := n }) stocked) .p0 7 (.readPreset { slot := n }) 0) ∧
    (∀ n ∈ [0, 127, 128], Takes (asking (.erasePreset { slot := n }) stocked) .p0 7 (.erasePreset { slot := n }) 0) ∧
    (∀ n ∈ [0, 127, 128], Takes (asking (.store { slot := n, name := some [65] }) stocked) .p0 7 (.store { slot := n, name := some [65] }) 0) ∧
    stocked.scn.library.getD (127 : Int).toNat none = some aPreset ∧ stocked.scn.library.getD (1 : Int).toNat none = none ∧
    nameOk [65] = true ∧ nameOk [32] = false ∧ stocked.scn.phase = .steady ∧
    Takes (asking (.store { slot := 0, name := none }) (switching .fade aSwitch)) .p0 7 (.store { slot := 0, name := none }) 0 ∧
    (switching .fade aSwitch).scn.phase ≠ .steady := by decide +kernel

theorem witness_ShapeLibraryWrites :
    (∀ n ∈ [0, 1, 7, 8], Takes (asking (.writeCurve { slot := n, points := [1, 2] }) playing) .p0 7 (.writeCurve { slot := n, points := [1, 2] }) 0) ∧
    Takes (asking (.writeCurve { slot := 7, points := curveZero }) playing) .p0 7 (.writeCurve { slot := 7, points := curveZero }) 0 ∧
    curveZero.length = 257 ∧ playing.lib.curves.length = 7 ∧
    (∀ n ∈ [0, 1, 3, 4], Takes (asking (.writeImpulse { slot := n, taps := [1, 2] }) playing) .p0 7 (.writeImpulse { slot := n, taps := [1, 2] }) 0) ∧
    Takes (asking (.writeImpulse { slot := 3, taps := impulseZero }) playing) .p0 7 (.writeImpulse { slot := 3, taps := impulseZero }) 0 ∧
    impulseZero.length = 256 ∧ playing.lib.impulses.length = 3 := by decide +kernel

theorem witness_SettingsRequestsClamp :
    let options : SceneOptionsReq := { safe := some 128, fade := none }
    let tails : SetTailsReq := { drain := some 0, life := some 60, cut := some true }
    let prot : ProtectionReq := { mode := some 2, limit := some 8, policy := some 1 }
    let noProt : ProtectionReq := { mode := some 3, limit := none, policy := none }
    let tuner : TunerSetReq := { reference := some 4801, k := some 16, floor := some 64 }
    let noTuner : TunerSetReq := { reference := none, k := some 5, floor := none }
    Takes (asking (.setSceneOptions options) playing) .p0 7 (.setSceneOptions options) 0 ∧
    Takes (asking (.setTails tails) tailing) .p0 7 (.setTails tails) 0 ∧
    Takes (asking (.setProtection prot) playing) .p0 7 (.setProtection prot) 0 ∧
    Takes (asking (.setProtection noProt) playing) .p0 7 (.setProtection noProt) 0 ∧
    Takes (asking (.tunerSet tuner) playing) .p0 7 (.tunerSet tuner) 0 ∧
    Takes (asking (.tunerSet noTuner) playing) .p0 7 (.tunerSet noTuner) 0 := by decide +kernel

theorem witness_ReadRequestsReportAndChangeNothing :
    (∀ q ∈ [Request.sceneRead, .tempoRead, .tunerRead { note := none }, .tunerRead { note := some 71 },
        .tunerRead { note := some 72 }, .faultRead, .auxRead, .identify, .meters { clear := false },
        .meters { clear := true }],
      Takes (asking q playing) .p0 7 q 0) ∧
    playing.sen.front.state = .live ∧ State.reset.sen.front.state ≠ .live := by decide +kernel

/-- The part under source PULSE, in a pulse state. -/
def pulsed (p : PulseState) (counter : Nat) : State :=
  { playing with tgn := { playing.tgn with
    source := .pulse, pulse := some p, pulseCount := 23, pulseStamp := some 4294967295, age := 48000
    counter := counter, frameCount := 23999 } }

theorem witness_TempoSetWritesThePeriod :
    (∀ r ∈ [({ period := 144001, restart := true } : TempoSetReq), { period := 24000, restart := false }
        , { period := 12000, restart := false }],
      Takes (asking (.tempoSet r) playing) .p0 7 (.tempoSet r) 0 ∧
      Takes (asking (.tempoSet r) (pulsed .waiting 0)) .p0 7 (.tempoSet r) 0) ∧
    playing.tgn.source ≠ .pulse ∧ (pulsed .waiting 0).tgn.source = .pulse := by decide +kernel

theorem witness_TempoSourceSelects :
    (∀ r ∈ [({ source := 2, edge := some 2, n := some 97 } : TempoSourceReq), { source := 3, edge := none, n := none }
        , { source := 0, edge := none, n := none }],
      Takes (asking (.tempoSource r) (pulsed .following 0)) .p0 7 (.tempoSource r) 0) ∧
    (pulsed .following 0).tgn.pulse = some .following ∧ (pulsed .following 0).tgn.counter = 0 ∧
    playing.tgn.pulse ≠ some .following := by decide +kernel

theorem witness_TapsAreAveraged :
    let s := tapping 24000 [144000, 12000] 4294967290 11994
    Takes (asking .tap s) .p0 7 .tap 0 ∧ s.tgn.source = .tap ∧ s.lnk.state = .running ∧
    s.tgn.tapStamp = some 4294967290 ∧ (11994 - 4294967290 : Word32).toNat = 12000 ∧
    s.tgn.taps.length ≤ 4 ∧ (∀ x ∈ s.tgn.taps, 12000 ≤ x ∧ x ≤ 144000) ∧
    Takes (asking .tap playing) .p0 7 .tap 0 ∧ playing.tgn.source ≠ .tap ∧
    { s with lnk := State.reset.lnk }.lnk.state ≠ .running := by decide +kernel

theorem witness_BeatsReloadTheCounter :
    let s := { playing with tgn := { playing.tgn with counter := 0, lamp := true } }
    let t := tapping 24000 [] 0 144001
    s.por = false ∧ s.lnk.state = .running ∧ t.lnk.state = .running ∧
    { s with lnk := State.reset.lnk }.lnk.state ≠ .running ∧
    s.tgn.counter = 0 ∧ s.tgn.pulse ≠ some .following ∧ s.tgn.lamp = true ∧
    s.tgn.counter ≤ s.tgn.inForce - s.tgn.inForce / 4 ∧ (pulsed .following 0).tgn.pulse = some .following ∧
    playing.tgn.inForce - playing.tgn.inForce / 4 < playing.tgn.counter ∧
    t.tgn.source = .tap ∧ t.tgn.tapStamp = some 0 ∧ 144000 < (t.tgn.frameCount - 0).toNat ∧
    ((144000 : Word32) - 0).toNat ≤ 144000 := by decide +kernel

theorem witness_PulseEdgesMakeBeats :
    let w := pulsed .waiting 5
    let f := pulsed .following 5
    let h := pulsed .holding 5
    w.por = false ∧ w.lnk.state = .running ∧ w.tgn.edge = .rising ∧ w.tgn.pulse = some .waiting ∧
    f.tgn.pulse = some .following ∧ f.tgn.n ≤ f.tgn.pulseCount + 1 ∧ f.tgn.pulseStamp = some 4294967295 ∧
    { f.tgn with pulseCount := 22 }.pulseCount + 1 < f.tgn.n ∧ h.tgn.pulse = some .holding ∧
    2 * f.tgn.period ≤ f.tgn.age ∧ playing.tgn.pulse = none := by decide +kernel

theorem witness_JudgePeriodRange :
    let t := noteTable 4400
    t.length = 72 ∧ t.Pairwise (· > ·) ∧ t.getD 0 0 < 99522 ∧ 1646 < t.getD 71 0 ∧
    (37278 ≤ t.getD 17 0 ∧ t.getD 18 0 < 37278) ∧
    (∀ r ∈ [4000, 4800], (noteTable r).length = 72 ∧ (noteTable r).Pairwise (· > ·)) := by decide +kernel

theorem witness_TunerModeAndTimeout :
    let s := { playing with tun := { playing.tun with mode := .monitor, sinceReading := 300, state := .locked } }
    (∀ m ∈ [0, 1, 2, 3], Takes (asking (.tunerMode { mode := m }) s) .p0 7 (.tunerMode { mode := m }) 0) ∧
    s.por = false ∧ s.tun.mode ≠ .off ∧ s.tun.sinceReading = 300 ∧ s.tun.state ≠ .noSignal ∧
    playing.tun.mode = .off := by decide +kernel

theorem witness_CapturesFormPeriodsAndReadings :
    let t := listening 46912 0 9444 (-640000) [37536, 37480, 37500]
    { t with returned := true }.returned = true ∧ t.returned = false ∧
    { t with mode := .off }.mode = .off ∧ ((-1025 : Int) < -((t.floor / 2 : Nat) : Int)) ∧
    (-((t.floor / 2 : Nat) : Int) ≤ -1024) ∧
    (∀ p ∈ [2047, 2048], ∀ m ∈ [TunerMode.off, .silent],
      let s := { blockDue with tun := { t with blockPeak := p, mode := m } }
      s.por = false ∧ 16 ≤ s.sen.gathered.length) ∧ playing.sen.gathered.length < 16 ∧
    t.mode ≠ .off ∧ t.armed = true ∧ t.prevSample = some (-640000) ∧ (-640000 : Int) < 0 ∧ (0 : Int) ≤ 160000 ∧
    t.timebase ≤ 65472 ∧ t.timebase % 64 = 0 ∧ t.prevCapture = some 9444 ∧ 1 < t.k ∧
    t.series = [37536, 37480] ++ [37500] ∧ (37519 - 37500 : Int).natAbs * 16 ≤ 37500 ∧
    t.series.length + 1 = t.k ∧ (listening 65472 3 0 (-1) []).timebase ≤ 65472 := by decide +kernel

/-- A relay move waiting, and one held, in a muted part. -/
def moving (m : RelayMove) : State :=
  { playing with opu := { playing.opu with
    reasons := { noReasons with relayMove := true }, gain := 0, gainState := .muted, move := some m } }

theorem witness_MuteGainAndRelay :
    let down := { playing with opu := { playing.opu with gain := 0, gainState := .rampDown } }
    let up := { playing with opu := { playing.opu with gainState := .rampUp } }
    let wait : RelayMove := { target := .bypass, hold := none, next := none }
    let held : RelayMove := { target := .engaged, hold := some 0, next := some .bypass }
    (∀ v ∈ [0, 1, 2], Takes (asking (.mute { value := v }) playing) .p0 7 (.mute { value := v }) 0) ∧
    down.por = false ∧ down.opu.gainState = .rampDown ∧ down.opu.gain = 0 ∧ down.opu.move = none ∧
    { down.opu with move := some wait }.move = some wait ∧
    up.opu.gainState = .rampUp ∧ up.opu.gain = 4096 ∧
    (moving wait).por = false ∧ (moving wait).opu.move = some wait ∧ wait.hold = none ∧
    (moving wait).opu.gainState = .muted ∧ wait.target = .bypass ∧
    (moving held).opu.move = some held ∧ held.hold = some 0 ∧ held.next = some .bypass ∧
    Relay.bypass ≠ (moving held).opu.relay ∧ { held with next := none }.next = none ∧
    playing.opu.move = none := by decide +kernel

/-- 08 R168, the worked example of a failover: at the completion of STARTING the relay is ENGAGED with a hold
of 4, and a RESUME in BYPASS after a fault under HOLD takes its target at the take. -/
theorem test_move_takes_its_target_at_its_start :
    let engaged := { faulted with opu := { faulted.opu with relay := .engaged, policy := .hold } }
    let t := after .startingComplete started
    let u := after (.resume .p0 7 { mode := 2 }) (asking (.resume { mode := 2 }) engaged)
    t.opu.relay = .engaged ∧ t.opu.move = some { target := .engaged, hold := some 4, next := none } ∧
    u.opu.relay = .bypass ∧ u.opu.move = some { target := .bypass, hold := some 4, next := none } := by
  decide +kernel

theorem witness_ResumeByMode :
    let w : ResumeWait := { ticket := ticket1, mode := .safe, safeSlot := some false, degraded := [] }
    let s := owing 23 { started with opu := { started.opu with resume := some w }
                                     lnk := { started.lnk with auxIn := 1 } }
    (∀ m ∈ [0, 1, 2, 3], Takes (asking (.resume { mode := m }) faulted) .p0 7 (.resume { mode := m }) 0) ∧
    faulted.opu.fault.isSome = true ∧ faulted.lnk.state = .running ∧ faulted.lnk.primary = true ∧
    faulted.powerWarning = false ∧ faulted.opu.reasons.fault = true ∧ faulted.opu.move = none ∧
    faulted.spl.tails = [] ∧ playing.opu.fault = none ∧
    Takes (asking (.resume { mode := 0 }) playing) .p0 7 (.resume { mode := 0 }) 0 ∧
    { faulted with lnk := State.reset.lnk }.lnk.primary = false ∧
    s.por = false ∧ s.sen.engine = .starting ∧ s.sen.front.state = .building ∧ s.sen.front.buildCount = 0 ∧
    s.opu.resume = some w ∧ s.loopOpen = false ∧
    (s.port ticket1.port).replies[ticket1.entry]? = some (.reserved 9 23) := by decide +kernel

theorem witness_FailoverAndFrameLoss :
    let s := { playing with opu := { playing.opu with monMode := .failover } }
    let r := { playing with opu := { playing.opu with monMode := .report, failover := true, seen0 := true } }
    Takes (asking .failoverRead playing) .p0 7 .failoverRead 0 ∧
    Takes (asking .failoverClear playing) .p0 7 .failoverClear 0 ∧ playing.opu.seen .p0 = false ∧
    Takes (asking .failoverClear r) .p0 7 .failoverClear 0 ∧ r.opu.seen .p0 = true ∧
    playing.opu.monMode = .off ∧ s.por = false ∧ s.opu.monMode ≠ .off ∧ s.lnk.state = .running ∧
    s.opu.fault = none ∧ s.opu.monMode = .failover ∧ r.opu.monMode = .report ∧
    faulted.opu.fault.isSome = true ∧ faulted.lnk.state = .running := by decide +kernel

/-- Four accesses: a WRITE to the secondary first. -/
def aWrite : Access :=
  { owner := none, tag := none, data := some 65535, target := .secondary, index := 127, sent := false, waited := 0, fresh := false }
def aRead : Access :=
  { owner := some ticket1, tag := some 9, data := none, target := .primary, index := 12, sent := false, waited := 0, fresh := false }

/-- The part with accesses waiting and a sample to send. -/
def sending (q : List Access) : State :=
  { playing with
    sen := { playing.sen with outQueue := [(-3000001, 5)] }
    lnk := { playing.lnk with queue := q } }

theorem witness_FrameSentComposes :
    let y := { State.reset with lnk := { State.reset.lnk with state := .syncing } }
    (sending [aWrite, aRead]).por = false ∧ (sending [aWrite, aRead]).settle = sending [aWrite, aRead] ∧
    (sending [aRead]).settle = sending [aRead] ∧ (sending []).settle = sending [] ∧
    (sending [aWrite, aRead]).lnk.state = .running ∧ aWrite.index < 128 ∧ aRead.index < 128 ∧
    aRead.data = none ∧ aWrite.data = some 65535 ∧
    y.por = false ∧ y.settle = y ∧ y.lnk.state = .syncing ∧
    (∀ b ∈ [false, true],
      let z := { State.reset with lnk := { State.reset.lnk with state := .lost, auxValid := b } }
      z.por = false ∧ z.settle = z ∧ z.lnk.state = .lost ∧ z.lnk.auxValid = b) ∧
    State.reset.settle = State.reset ∧ State.reset.lnk.state = .coldStart := by decide +kernel

/-- 09, 9.5 and 01, 1.5: a WRITE of 65,535 to the secondary's register 127 in slots 1 and 2, the sample
−3,000,001 at gain 2,048 in slot 3. -/
theorem test_frame_sent :
    let s := sending [aWrite]
    let f := (after .frameSent s).lnk.lastOut
    f.tag = 0x80013F#24 ∧ f.slot1 = 127 ∧ f.slot2 = 65535 ∧ f.slot3.toInt = -3000001 ∧ f.slot5 = 5 ∧
    gained (-3000001) 2048 = -1500000 := by decide +kernel

/-- 10 R190: the causes of an ABORTED reply count from 0 in each owning rule's own order (R179, R183, R162). -/
theorem test_abort_causes :
    [RestEnd.wake, .start, .link].map RestEnd.code = [0, 1, 2] ∧
    [ReadEnd.link, .converter].map ReadEnd.code = [0, 1] ∧
    [AbortCause.fault .frameLoss, .fault .converterLost, .link].map AbortCause.code = [0, 3, 4] := by decide

/-- 01 R22: the cause is handed over in the frame in which the count reaches 2,048. -/
theorem test_runaway_in_its_frame :
    let s := { playing with
      sen := { playing.sen with outQueue := [(8388607, 0)], runaway := 2047 }
      opu := { playing.opu with gain := 4096, gainState := .opened, reasons := noReasons } }
    ((after .frameSent s).opu.fault.map (·.first)) = some .runaway := by decide +kernel

/-- The part playing, with fifteen frames of its block received. -/
def nearlyWhole : State :=
  { playing with sen := { playing.sen with gathered := List.replicate 15 (7, 3) } }

/-- 01 R1: the arrival of the sixteenth frame is the block boundary. -/
theorem test_sixteenth_frame_is_the_boundary :
    let t := after (.frameReceived (inFrame 0x800004 0x800000) (inFrame 0x800000 0)) nearlyWhole
    t.sen.gathered = [] ∧ t.sen.blockCount = nearlyWhole.sen.blockCount + 1 := by decide +kernel

/-- 05 R88, R101: a switch without a fade whose build is one boundary has two blocks in PREPARE: the
boundary after the take leaves its closing block. -/
theorem test_closing_block_is_counted_from_the_take :
    let s := { nearlyWhole with scn := { nearlyWhole.scn with
      library := (List.replicate 128 none).set 0 (some { aPreset with chain := aPreset.chain.drop 1 }) } }
    let q := { plainRecall with fade := some 0 }
    let t := after (.recall .p0 7 q) (asking (.recall q) s)
    let u := after (.frameReceived (inFrame 0x800004 0x800000) (inFrame 0x800000 0)) t
    t.scn.switch.map (·.blocksLeft) = some 2 ∧ u.scn.phase = .prepare ∧
    u.scn.switch.map (·.blocksLeft) = some 1 := by decide +kernel

/-- 07 R135, R144: the timeout falls in the frame that ends the block, also when the link departs in it. -/
theorem test_timeout_before_the_departure :
    let s := { nearlyWhole with
      pif := { nearlyWhole.pif with port0 := { nearlyWhole.pif.port0 with subs := 0x0002 } }
      tun := { nearlyWhole.tun with mode := .monitor, state := .locked, sinceReading := 299 } }
    let t := after (.frameReceived (inFrame 0x000004 0) (inFrame 0x800000 0)) s
    t.lnk.state = .syncing ∧
    (t.pif.port0.notices.map fun
      | .tuner n => decide (n.event = .timeout)
      | _ => false) = [true] := by decide +kernel

theorem witness_FrameReceivedByLinkState :
    let good := inFrame 0x800004 0x800000
    let warn := { inFrame 0x800024 0 with slot6 := 4 }
    let gone := inFrame 0x000004 0
    let y := { State.reset with lnk := { State.reset.lnk with state := .syncing } }
    playing.por = false ∧ playing.settle = playing ∧ playing.lnk.state = .running ∧
    good.tag.getLsbD 23 = true ∧ good.tag.getLsbD 5 = false ∧ good.tag.getLsbD 2 = true ∧
    warn.tag.getLsbD 23 = true ∧ warn.tag.getLsbD 5 = true ∧ warn.slot6.getLsbD 2 = true ∧
    playing.lnk.auxIn.getLsbD 2 = false ∧ playing.opu.fault = none ∧
    gone.tag.getLsbD 23 = false ∧ gone.tag.getLsbD 5 = false ∧
    y.settle = y ∧ y.lnk.state = .syncing ∧ State.reset.settle = State.reset ∧
    State.reset.lnk.state = .coldStart ∧ playing.sen.gathered.length < 15 ∧
    faulted.settle = faulted ∧ faulted.lnk.state = .running ∧ faulted.opu.fault.isSome = true ∧
    faulted.lnk.auxIn.getLsbD 2 = false ∧ faulted.sen.gathered.length < 15 ∧
    nearlyWhole.por = false ∧ nearlyWhole.settle = nearlyWhole ∧ nearlyWhole.lnk.state = .running ∧
    nearlyWhole.sen.gathered.length = 15 ∧ nearlyWhole.lnk.auxIn.getLsbD 2 = false ∧
    nearlyWhole.opu.fault = none ∧
    (let a : Access := { aRead with target := .secondary }
     let s := owing 31 (sending [a])
     let drop := inFrame 0x000000 0
     s.por = false ∧ s.settle = s ∧ s.lnk.state = .running ∧ s.lnk.secondary = true ∧
     drop.tag.getLsbD 23 = false ∧ a ∈ s.lnk.queue ∧ a.data = none ∧ a.owner = some ticket1 ∧
     (s.port ticket1.port).replies[ticket1.entry]? = some (.reserved 9 31)) := by decide +kernel

/-- The link RESTING, with a time in the state. -/
def resting (time : Nat) : State :=
  { State.reset with
    lnk := { State.reset.lnk with state := .resting, time := time }
    opu := { State.reset.opu with reasons := { MuteSet.initial with standby := true } } }

/-- A LINK-REST from port 1 still waiting. -/
def restAsked : State :=
  owing 29 { playing with
    lnk := { playing.lnk with restPending := some ticket1 }
    opu := { playing.opu with reasons := { noReasons with standby := true }, gain := 0, gainState := .muted } }

theorem witness_LinkStartsAndWakes :
    let held := { resting 99 with lnk := { (resting 99).lnk with wakePending := true } }
    let waking := { resting 0 with lnk := { (resting 0).lnk with state := .waking } }
    Takes (asking .linkStart playing) .p0 7 .linkStart 0 ∧ Takes (asking .linkStart restAsked) .p0 7 .linkStart 0 ∧
    Takes (asking .linkStart (resting 0)) .p0 7 .linkStart 0 ∧ (resting 0).lnk.restPending = none ∧
    (∀ ph ∈ [SwitchPhase.prepare, .fade, .gapOut],
      let s := switching ph aSwitch
      Takes (asking .linkStart s) .p0 7 .linkStart 0 ∧ s.lnk.state = .running ∧ s.sen.engine = .run ∧
      s.lnk.restPending = none ∧ s.lnk.queue = [] ∧ s.opu.resume = none ∧
      s.scn.switch = some aSwitch ∧
      (s.port ticket1.port).replies[ticket1.entry]? = some (.reserved 9 1)) ∧
    State.reset.por = false ∧ State.reset.lnk.state = .coldStart ∧ playing.lnk.state ≠ .coldStart ∧
    waking.lnk.state = .waking ∧ (resting 100).lnk.state = .resting ∧ 100 ≤ (resting 100).lnk.time ∧
    (resting 99).lnk.time < 100 ∧ held.lnk.wakePending = true ∧
    Takes (asking .linkWake (resting 100)) .p0 7 .linkWake 0 ∧ Takes (asking .linkWake (resting 99)) .p0 7 .linkWake 0 ∧
    Takes (asking .linkWake restAsked) .p0 7 .linkWake 0 ∧ restAsked.lnk.state = .running ∧
    (asking .linkWake restAsked).lnk.restPending = some ticket1 ∧
    ((asking .linkWake restAsked).port ticket1.port).replies[ticket1.entry]? = some (.reserved 9 29) ∧
    Takes (asking .linkWake playing) .p0 7 .linkWake 0 ∧ playing.lnk.restPending = none := by decide +kernel

theorem witness_LinkRestWaitsForMuted :
    let quiet := { playing with opu := { playing.opu with gain := 0, gainState := .muted } }
    Takes (asking .linkRest playing) .p0 7 .linkRest 0 ∧ playing.lnk.state = .running ∧
    playing.lnk.restPending = none ∧ Takes (asking .linkRest restAsked) .p0 7 .linkRest 0 ∧
    playing.opu.gainState ≠ .muted ∧
    Takes (asking .linkRest quiet) .p0 7 .linkRest 0 ∧ quiet.lnk.state = .running ∧
    quiet.lnk.restPending = none ∧ quiet.opu.gainState = .muted ∧
    restAsked.lnk.restPending = some ticket1 ∧ restAsked.por = false ∧ restAsked.lnk.state = .running ∧
    restAsked.opu.gainState = .muted ∧ restAsked.lnk.queue = [] ∧ restAsked.opu.resume = none ∧
    restAsked.scn.phase = .steady ∧ restAsked.scn.pendingRecall = none ∧
    (restAsked.port ticket1.port).replies[ticket1.entry]? = some (.reserved 9 29) ∧
    restAsked.lnk.restHeld = false ∧
    { restAsked with lnk := { restAsked.lnk with restHeld := true } }.lnk.restPending = some ticket1 ∧
    { restAsked.opu with gain := 128, gainState := .rampDown }.gainState ≠ .muted := by decide +kernel

/-- 09 R178: a power warning under a rest pending brings the final step forward to the frame after the
entry: not before that frame has been sent. -/
theorem test_rest_after_a_fault :
    let ramp := { restAsked with opu := { restAsked.opu with gain := 1024, gainState := .rampDown } }
    let warn := { inFrame 0x800024 0 with slot6 := 4 }
    let t := after (.frameReceived warn (inFrame 0x800000 0)) ramp
    let u := after .frameSent t
    t.opu.gainState = .muted ∧ t.lnk.state = .running ∧
    (after .linkRestFinalStep t).lnk.state = .running ∧ u.lnk.state = .resting := by decide +kernel

theorem witness_ConverterQueue :
    let full := sending [aRead, aRead, aWrite, aWrite]
    let off := { playing with lnk := { playing.lnk with secondary := false } }
    let rd (t i : Int) : Request := .convRead { target := t, index := i }
    let wr (t i d : Int) : Request := .convWrite { target := t, index := i, data := d }
    let sent : Access := { aRead with sent := true, waited := 8 }
    let s := { sending [sent, aWrite] with lnk := { (sending [sent, aWrite]).lnk with echo0 := some { index := 12, data := 7 } } }
    let v := { full with lnk := { full.lnk with levelPending := some 4096 } }
    (∀ q ∈ [rd 0 0, rd 1 127, rd 2 0, rd 0 128, rd (-1) 0], Takes (asking q playing) .p0 7 q 0 ∧
      Takes (asking q full) .p0 7 q 0 ∧ Takes (asking q off) .p0 7 q 0) ∧
    (∀ q ∈ [wr 0 0 0, wr 1 127 65535, wr 1 127 65536], Takes (asking q playing) .p0 7 q 0 ∧
      Takes (asking q full) .p0 7 q 0 ∧ Takes (asking q off) .p0 7 q 0) ∧
    playing.lnk.ready .secondary = true ∧ off.lnk.ready .secondary = false ∧ full.lnk.queue.length = 4 ∧
    s.por = false ∧ s.lnk.queue = sent :: [aWrite] ∧ sent.owner = some ticket1 ∧ sent.sent = true ∧
    s.lnk.echo0 = some { index := 12, data := 7 } ∧ 1 ≤ sent.waited ∧
    (sending [sent]).lnk.echo0 = none ∧ 8 ≤ sent.waited ∧
    v.lnk.levelPending = some 4096 ∧ 4 ≤ v.lnk.queue.length ∧ playing.lnk.queue.length < 4 := by decide +kernel

/-- Reachable and unreachable states alike: the reset state, the part playing, and in FAULT. -/
theorem witness_StepKeepsTheInvariants :
    (playing.portsOk && playing.protectionOk && playing.rangesOk) = true ∧
    faulted.portsOk = true ∧ faulted.protectionOk = true ∧ faulted.poolOk = true ∧ playing.poolOk = true := by decide +kernel

end Sys2Proof.Tests
end

/-!
Proofs about the DRIVE shaper (R34).

The shaper adds a rounded share of the step `d` between two neighbouring curve points to the lower one.
The one fact on which the bound turns is that a share of less than the whole of `d`, rounded to
nearest, stays between 0 and `d`, whatever the sign of `d` (`interpTerm_between`).
-/
namespace Sys2Proof.Machine

/-- R34's segment index of a sample; `shaper_eq` ties it to the model. -/
def segmentOf (u : Int) : Nat := ((u + 8388608) / 65536).toNat

/-- R34's fraction of a sample within its segment; `shaper_eq` ties it to the model. -/
def fractionOf (u : Int) : Int := (u + 8388608) % 65536

theorem segmentOf_le (u : Int) (hu : u ≤ 8388607) : segmentOf u ≤ 255 := by
  unfold segmentOf
  omega

theorem fractionOf_range (u : Int) : 0 ≤ fractionOf u ∧ fractionOf u ≤ 65535 := by
  unfold fractionOf
  omega

/-- What the model subtracts from v = u + 8,388,608 leaves the fraction: v is the segment's start
and the fraction. -/
theorem sub_segmentOf (u : Int) (hu : -8388608 ≤ u) :
    u + 8388608 - 65536 * (segmentOf u : Int) = fractionOf u := by
  unfold segmentOf fractionOf
  omega

/-- R34's formula. -/
theorem shaper_eq (curve : List Int) (u : Int) (hu : -8388608 ≤ u) :
    shaper curve u = curve.getD (segmentOf u) 0 +
      ((curve.getD (segmentOf u + 1) 0 - curve.getD (segmentOf u) 0) * fractionOf u + 32768) /
        65536 := by
  rw [← sub_segmentOf u hu]
  rfl

/-- The rounded share of a step `d` lies between 0 and `d`: R34's two cases by the sign of `d`. -/
theorem interpTerm_between (d f : Int) (hf0 : 0 ≤ f) (hf1 : f ≤ 65535) :
    min 0 d ≤ (d * f + 32768) / 65536 ∧ (d * f + 32768) / 65536 ≤ max 0 d := by
  rcases Int.le_total 0 d with hd | hd
  · have low : 0 ≤ d * f := Int.mul_nonneg hd hf0
    have high : d * f ≤ d * 65535 := Int.mul_le_mul_of_nonneg_left hf1 hd
    omega
  · have low : d * 65535 ≤ d * f := Int.mul_le_mul_of_nonpos_left hd hf1
    have high : d * f ≤ 0 := Int.mul_nonpos_of_nonpos_of_nonneg hd hf0
    omega

/-- R34's bound: the shaper's value lies between the two points of the sample's segment. -/
theorem shaper_between (curve : List Int) (u : Int) (hu : -8388608 ≤ u) :
    min (curve.getD (segmentOf u) 0) (curve.getD (segmentOf u + 1) 0) ≤ shaper curve u ∧
      shaper curve u ≤ max (curve.getD (segmentOf u) 0) (curve.getD (segmentOf u + 1) 0) := by
  obtain ⟨hf0, hf1⟩ := fractionOf_range u
  obtain ⟨low, high⟩ := interpTerm_between
    (curve.getD (segmentOf u + 1) 0 - curve.getD (segmentOf u) 0) (fractionOf u) hf0 hf1
  rw [shaper_eq curve u hu]
  omega

/-- A sample that falls on a curve point reads that point: the rounding term alone adds nothing. -/
theorem shaper_on_point (curve : List Int) (u : Int) (hu : -8388608 ≤ u) (hf : fractionOf u = 0) :
    shaper curve u = curve.getD (segmentOf u) 0 := by
  simp [shaper_eq curve u hu, hf]

/-- A read of a curve of 16-bit points, past its end too, is a 16-bit value. -/
theorem curvePoint_range (curve : List Int) (k : Nat)
    (hc : ∀ x ∈ curve, -32768 ≤ x ∧ x ≤ 32767) :
    -32768 ≤ curve.getD k 0 ∧ curve.getD k 0 ≤ 32767 := by
  rcases Nat.lt_or_ge k curve.length with hk | hk
  · rw [List.getD_eq_getElem _ _ hk]
    exact hc _ (List.getElem_mem hk)
  · rw [List.getD_eq_default _ _ hk]
    decide

/-- R34: over a curve of 16-bit points the shaper's value is a 16-bit value. -/
theorem shaper_range (curve : List Int) (u : Int) (hu : -8388608 ≤ u)
    (hc : ∀ x ∈ curve, -32768 ≤ x ∧ x ≤ 32767) :
    -32768 ≤ shaper curve u ∧ shaper curve u ≤ 32767 := by
  obtain ⟨low, high⟩ := shaper_between curve u hu
  obtain ⟨lo_ge, lo_le⟩ := curvePoint_range curve (segmentOf u) hc
  obtain ⟨hi_ge, hi_le⟩ := curvePoint_range curve (segmentOf u + 1) hc
  exact ⟨(le_min lo_ge hi_ge).trans low, high.trans (max_le lo_le hi_le)⟩

end Sys2Proof.Machine

namespace Sys2Proof
open Machine

/-- Settles O23: the bound is that of the rounded share of a step (`interpTerm_between`); the range of
the value follows from it, and the two end samples are computed. -/
theorem shaperStaysBetweenItsPoints : Obligations.ShaperStaysBetweenItsPoints := by
  intro curve u hu hu' i fr
  obtain ⟨low, high⟩ := shaper_between curve u hu
  refine ⟨segmentOf_le u hu', shaper_eq curve u hu, low, high, shaper_on_point curve u hu,
    shaper_range curve u hu, ?highest, ?lowest⟩
  case highest =>
    rintro rfl
    decide
  case lowest =>
    rintro rfl
    exact shaper_on_point curve (-8388608) hu (by decide)

end Sys2Proof

/-!
Proofs about the tuner's note table and its judgement of a mean period (R142, R143).

Two facts carry them.  In a falling table the entries that are at least a period are its first ones
(`lt_entriesAbove_iff`), so R143's step 2 finds the one step of the table the period lies in.  And two
quotients at least 1 apart stay apart when they are rounded (`rounded_lt_rounded`), so R142's table
falls as long as a semitone shortens the period by a tick or more, which is tightest at the highest
reference.
-/
namespace Sys2Proof.Machine

/-! ### The step of a falling table that a period lies in (R143, step 2) -/

theorem entriesAbove_le_length (p : Nat) (table : List Nat) :
    entriesAbove p table ≤ table.length := by
  induction table with
  | nil => exact Nat.le_refl 0
  | cons t ts ih =>
    simp only [entriesAbove, List.length_cons]
    split <;> omega

/-- The entries of a falling table that are at least `p` are the first `entriesAbove p table`. -/
theorem lt_entriesAbove_iff (p : Nat) {table : List Nat} (falling : table.Pairwise (· > ·))
    {k : Nat} (hk : k < table.length) : k < entriesAbove p table ↔ p ≤ table.getD k 0 := by
  induction table generalizing k with
  | nil => exact absurd hk (Nat.not_lt_zero k)
  | cons t ts ih =>
    obtain ⟨below_t, falling_ts⟩ := List.pairwise_cons.mp falling
    by_cases hp : p ≤ t
    · cases k with
      | zero => simp [entriesAbove, hp]
      | succ k => simpa [entriesAbove, hp] using ih falling_ts (Nat.lt_of_succ_lt_succ hk)
    · cases k with
      | zero => simp [entriesAbove, hp]
      | succ k =>
        have hk' : k < ts.length := Nat.lt_of_succ_lt_succ hk
        have : ts[k] < t := below_t _ (List.getElem_mem hk')
        simp only [entriesAbove, hp, if_false, List.getD_cons_succ, List.getD_eq_getElem _ _ hk']
        omega

section
variable {table : List Nat} {p : Nat} (hlen : table.length = 72) (falling : table.Pairwise (· > ·))
include hlen falling

theorem entriesAbove_of_between {n : Nat} (hn : n ≤ 70) (upper : p ≤ table.getD n 0)
    (lower : table.getD (n + 1) 0 < p) : entriesAbove p table = n + 1 := by
  have past_n := (lt_entriesAbove_iff p falling (k := n) (by omega)).mpr upper
  have not_past := mt (lt_entriesAbove_iff p falling (k := n + 1) (by omega)).mp (by omega)
  omega

/-- R143, step 2: a period within the table is its last entry or lies in one of its 71 steps. -/
theorem exists_step_of_inside (high : p ≤ table.getD 0 0) (low : table.getD 71 0 ≤ p) :
    p = table.getD 71 0 ∨ ∃ n ≤ 70, p ≤ table.getD n 0 ∧ table.getD (n + 1) 0 < p := by
  have some_above := (lt_entriesAbove_iff p falling (k := 0) (by omega)).mpr high
  have at_most := entriesAbove_le_length p table
  obtain ⟨n, hn⟩ : ∃ n, entriesAbove p table = n + 1 := ⟨entriesAbove p table - 1, by omega⟩
  have upper := (lt_entriesAbove_iff p falling (k := n) (by omega)).mp (by omega)
  rcases Nat.lt_or_ge n 71 with inner | last
  · have lower := mt (lt_entriesAbove_iff p falling (k := n + 1) (by omega)).mpr (by omega)
    exact .inr ⟨n, by omega, upper, by omega⟩
  · obtain rfl : n = 71 := by omega
    exact .inl (by omega)

/-! ### The judgement (R143, steps 1, 3 and 4) -/

/-- R143, steps 3 and 4, for a period within a step of the table. -/
theorem judgePeriod_of_between {n : Nat} (hn : n ≤ 70) (upper : p ≤ table.getD n 0)
    (lower : table.getD (n + 1) 0 < p) :
    judgePeriod table p =
      some (noteOf n (centsAbove (table.getD n 0) (table.getD (n + 1) 0) p)) := by
  have count := entriesAbove_of_between hlen falling hn upper lower
  have high := (lt_entriesAbove_iff p falling (k := 0) (by omega)).mp (by omega)
  have low := mt (lt_entriesAbove_iff p falling (k := 71) (by omega)).mpr (by omega)
  rw [judgePeriod, if_neg (by omega), count, Nat.add_sub_cancel]
  exact if_neg (by omega)

/-- R143, steps 2 and 3: the last entry is note 71 with 0 cents. -/
theorem judgePeriod_last : judgePeriod table (table.getD 71 0) = some (71, 0) := by
  have all_above := (lt_entriesAbove_iff _ falling (k := 71) (by omega)).mpr (Nat.le_refl _)
  have at_most := entriesAbove_le_length (table.getD 71 0) table
  have count : entriesAbove (table.getD 71 0) table = 72 := by omega
  have high := (lt_entriesAbove_iff (table.getD 71 0) falling (k := 0) (by omega)).mp (by omega)
  rw [judgePeriod, if_neg (by omega), count]
  exact if_pos rfl

end

theorem judgePeriod_outside {table : List Nat} {p : Nat}
    (h : table.getD 0 0 < p ∨ p < table.getD 71 0) : judgePeriod table p = none :=
  if_pos h

theorem centsAbove_le {tn tn1 p : Nat} (upper : p ≤ tn) (lower : tn1 < p) :
    centsAbove tn tn1 p ≤ 100 := by
  rw [centsAbove, ← Nat.lt_succ_iff, Nat.div_lt_iff_lt_mul (by omega)]
  omega

/-- A period on the upper end of its step is off by no cents: the rounding term alone adds nothing. -/
theorem centsAbove_self {tn tn1 : Nat} (h : tn1 < tn) : centsAbove tn tn1 tn = 0 := by
  rw [centsAbove, Nat.div_eq_of_lt (by omega)]

/-- R143, step 4, keeps the note to 71 and the cents from −49 to 50. -/
theorem noteOf_range {n c : Nat} (hn : n ≤ 70) (hc : c ≤ 100) :
    (noteOf n c).1 ≤ 71 ∧ -49 ≤ (noteOf n c).2 ∧ (noteOf n c).2 ≤ 50 := by
  unfold noteOf
  split
  · dsimp only
    omega
  · dsimp only
    omega

section
variable {table : List Nat} {p : Nat} (hlen : table.length = 72) (falling : table.Pairwise (· > ·))
include hlen falling

/-- R143: a period within the table has a note from 0 to 71 and cents from −49 to 50. -/
theorem judgePeriod_inside (high : p ≤ table.getD 0 0) (low : table.getD 71 0 ≤ p) :
    ∃ note cents, judgePeriod table p = some (note, cents) ∧ note ≤ 71 ∧ -49 ≤ cents ∧
      cents ≤ 50 := by
  obtain rfl | ⟨n, hn, upper, lower⟩ := exists_step_of_inside hlen falling high low
  · exact ⟨71, 0, judgePeriod_last hlen falling, by decide⟩
  · exact ⟨_, _, judgePeriod_of_between hlen falling hn upper lower,
      noteOf_range hn (centsAbove_le upper lower)⟩

/-- R143: an entry of the table is its own note with 0 cents. -/
theorem judgePeriod_entry {n : Nat} (hn : n ≤ 71) :
    judgePeriod table (table.getD n 0) = some (n, 0) := by
  obtain inner | rfl : n ≤ 70 ∨ n = 71 := by omega
  · have step_down : table.getD (n + 1) 0 < table.getD n 0 := by
      rw [List.getD_eq_getElem _ _ (by omega), List.getD_eq_getElem _ _ (by omega)]
      exact List.pairwise_iff_getElem.mp falling n (n + 1) _ _ (Nat.lt_succ_self n)
    rw [judgePeriod_of_between hlen falling inner (Nat.le_refl _) step_down,
      centsAbove_self step_down]
    rfl
  · exact judgePeriod_last hlen falling

end

/-! ### The note table (R142) -/

/-- R142's octave offset of a note; `notePeriod_eq` ties it to the model. -/
def octaveOf (n : Nat) : Int := ((n : Int) - 46) / 12

/-- R142's semitone of a note; `notePeriod_eq` ties it to the model. -/
def semitoneOf (n : Nat) : Nat := (((n : Int) - 46) % 12).toNat

/-- R142's numerator of T(n); `notePeriod_eq` ties it to the model. -/
def periodNum (n : Nat) : Nat := 30720000 * 65536 * 2 ^ (-octaveOf n).toNat

/-- R142's denominator of T(n) without the reference; `notePeriod_eq` ties it to the model. -/
def periodDen (n : Nat) : Nat := semitone (semitoneOf n) * 2 ^ (octaveOf n).toNat

theorem notePeriod_eq (ref n : Nat) :
    notePeriod ref n =
      (2 * periodNum n + ref * periodDen n) / (2 * (ref * periodDen n)) := by
  simp only [notePeriod, periodNum, periodDen, semitoneOf, octaveOf, Int.emod_def, Nat.mul_assoc]

/-- The model's semitone constants are the twelve of R142's table. -/
theorem semitone_eq_getD : ∀ s < 12, semitone s =
    [65536, 69433, 73562, 77936, 82570, 87480, 92682, 98193, 104032, 110218, 116772,
      123715].getD s 0 := by
  decide

theorem semitoneOf_lt (n : Nat) : semitoneOf n < 12 := by
  unfold semitoneOf
  omega

/-- Two quotients at least 1 apart stay apart when each is rounded. -/
theorem rounded_lt_rounded {num den num' den' : Nat} (hden : 0 < den) (hden' : 0 < den')
    (apart : (num' + den') * den ≤ num * den') :
    (2 * num' + den') / (2 * den') < (2 * num + den) / (2 * den) := by
  rw [← Nat.succ_le_iff, Nat.le_div_iff_mul_le (by omega)]
  have floor := Nat.div_mul_le_self (2 * num' + den') (2 * den')
  generalize (2 * num' + den') / (2 * den') = q at floor ⊢
  refine Nat.le_of_mul_le_mul_right ?_ hden'
  calc (q + 1) * (2 * den) * den' = q * (2 * den') * den + 2 * den' * den := by ring
    _ ≤ (2 * num' + den') * den + 2 * den' * den := by gcongr
    _ = 2 * ((num' + den') * den) + den' * den := by ring
    _ ≤ 2 * (num * den') + den' * den := by gcongr
    _ = (2 * num + den) * den' := by ring

theorem periodDen_pos : ∀ n < 72, 0 < periodDen n := by
  decide

/-- At the highest reference each semitone shortens the period by a tick or more. -/
theorem semitone_tick_at_highest : ∀ n < 71,
    (periodNum (n + 1) + 4800 * periodDen (n + 1)) * periodDen n ≤
      periodNum n * periodDen (n + 1) := by
  decide

/-- R142: the table falls from each note to the next. A lower reference only lengthens the step. -/
theorem notePeriod_succ_lt {ref n : Nat} (hpos : 0 < ref) (href : ref ≤ 4800) (hn : n < 71) :
    notePeriod ref (n + 1) < notePeriod ref n := by
  have den_pos := periodDen_pos n (by omega)
  have den_pos' := periodDen_pos (n + 1) (by omega)
  rw [notePeriod_eq, notePeriod_eq]
  apply rounded_lt_rounded (Nat.mul_pos hpos den_pos) (Nat.mul_pos hpos den_pos')
  calc (periodNum (n + 1) + ref * periodDen (n + 1)) * (ref * periodDen n)
      ≤ (periodNum (n + 1) + 4800 * periodDen (n + 1)) * (ref * periodDen n) := by gcongr
    _ = ref * ((periodNum (n + 1) + 4800 * periodDen (n + 1)) * periodDen n) := by ring
    _ ≤ ref * (periodNum n * periodDen (n + 1)) :=
      Nat.mul_le_mul_left ref (semitone_tick_at_highest n hn)
    _ = periodNum n * (ref * periodDen (n + 1)) := by ring

theorem noteTable_length (ref : Nat) : (noteTable ref).length = 72 := by
  simp [noteTable]

theorem noteTable_falling {ref : Nat} (hpos : 0 < ref) (href : ref ≤ 4800) :
    (noteTable ref).Pairwise (· > ·) := by
  rw [noteTable, ← List.isChain_iff_pairwise, List.isChain_map, List.isChain_range_succ]
  exact fun n hn => notePeriod_succ_lt hpos href hn

theorem noteTable_getElem? (ref : Nat) {n : Nat} (hn : n ≤ 71) :
    (noteTable ref)[n]? = some (notePeriod ref n) := by
  have : n < 72 := by omega
  simp [noteTable, this]

/-- R142's formula, with the semitone constant read from R142's table. -/
theorem notePeriod_eq_getD (ref n : Nat) :
    let o : Int := ((n : Int) - 46) / 12
    let r : Nat := [65536, 69433, 73562, 77936, 82570, 87480, 92682, 98193, 104032, 110218,
      116772, 123715].getD (((n : Int) - 46) % 12).toNat 0
    let num : Nat := 30720000 * 65536 * 2 ^ (-o).toNat
    let den : Nat := ref * r * 2 ^ o.toNat
    notePeriod ref n = (2 * num + den) / (2 * den) := by
  intro o r num den
  have constant : semitone (semitoneOf n) = r := semitone_eq_getD _ (semitoneOf_lt n)
  have den_eq : ref * periodDen n = den := by
    rw [periodDen, constant, ← Nat.mul_assoc]
    rfl
  rw [notePeriod_eq, den_eq]
  rfl

end Sys2Proof.Machine

namespace Sys2Proof
open Machine

/-- Settles O45: the judgement over any falling table turns on the one step that holds the period
(`exists_step_of_inside`), and R142's tables fall since a semitone is worth a tick or more
(`notePeriod_succ_lt`). -/
theorem judgePeriodRange : Obligations.JudgePeriodRange := by
  refine ⟨fun table p hlen falling => ⟨judgePeriod_outside, judgePeriod_inside hlen falling,
    fun n hn => judgePeriod_entry hlen falling hn, ?between, fun _ _ => rfl⟩, ?table⟩
  case between =>
    intro n hn upper lower
    exact ⟨centsAbove_le upper lower, judgePeriod_of_between hlen falling hn upper lower⟩
  case table =>
    intro ref low high
    refine ⟨noteTable_length ref, noteTable_falling (by omega) high, fun n hn => ?_⟩
    exact (noteTable_getElem? ref hn).trans (congrArg some (notePeriod_eq_getD ref n))

end Sys2Proof

/-!
Proofs about the placement of a notice in a port's queue (R196).

Each of the four steps of R196 has its equation for `PortState.offer`, over the queue split at the
first notice that the step looks for.  The limits on the queue need less than that: an offer either
leaves the classes of the queue as they are, or appends the notice to a sublist of a queue that holds
no notice it would replace (`PortState.offer_notices`).
-/
namespace Sys2Proof.Machine

/-- The condition of R196's step 1: the notice is of a latest-only class the queue holds. -/
def Replaces (n : Notice) (ns : List Notice) : Prop :=
  n.cls.latestOnly = true ∧ ∃ m ∈ ns, m.cls = n.cls

/-- The latest-only classes of a queue's notices, in its order; R196's second limit lets each stand
once. -/
def latestClasses (ns : List Notice) : List NoticeClass :=
  (ns.map Notice.cls).filter NoticeClass.latestOnly

/-! ### The list operations of the model -/

theorem replaceNotice_append_cons {n m : Notice} (hm : m.cls = n.cls) (b : List Notice) :
    ∀ {a : List Notice}, (∀ x ∈ a, x.cls ≠ n.cls) → replaceNotice n (a ++ m :: b) = a ++ n :: b
  | [], _ => if_pos hm
  | x :: a, ha => by
    obtain ⟨hx, ha'⟩ := List.forall_mem_cons.1 ha
    exact (if_neg hx).trans (congrArg (x :: ·) (replaceNotice_append_cons hm b ha'))

/-- The removal of step 3 is the library's removal of the first element that meets a condition. -/
theorem dropLatestOnly_eq_eraseP (ns : List Notice) :
    dropLatestOnly ns = ns.eraseP (·.cls.latestOnly) := by
  induction ns with
  | nil => rfl
  | cons m ms ih => by_cases h : m.cls.latestOnly <;> simp [dropLatestOnly, h, ih]

/-! ### The four steps of R196 -/

section
variable {ps : PortState} {n : Notice}

theorem replaces_test_iff : (n.cls.latestOnly && ps.notices.any (fun m => decide (m.cls = n.cls))) =
    true ↔ Replaces n ps.notices := by
  simp [Replaces]

/-- R196, step 1. -/
theorem PortState.offer_of_replaces (h : Replaces n ps.notices) :
    ∃ a m b, ps.notices = a ++ m :: b ∧ m.cls = n.cls ∧ (∀ x ∈ a, x.cls ≠ n.cls) ∧
      ps.offer n = { ps with notices := a ++ n :: b } := by
  obtain ⟨m₀, mem, same⟩ := h.2
  obtain ⟨m, a, b, before, hm, split, -⟩ :=
    List.exists_of_eraseP (p := fun m => decide (m.cls = n.cls)) mem (decide_eq_true same)
  have hm : m.cls = n.cls := of_decide_eq_true hm
  have before : ∀ x ∈ a, x.cls ≠ n.cls := fun x hx => by simpa using before x hx
  refine ⟨a, m, b, split, hm, before, ?_⟩
  rw [PortState.offer, if_pos (replaces_test_iff.2 h), split, replaceNotice_append_cons hm b before]

/-- R196, step 2. -/
theorem PortState.offer_of_room (h : ¬ Replaces n ps.notices) (room : ps.notices.length < 16) :
    ps.offer n = { ps with notices := ps.notices ++ [n] } := by
  rw [PortState.offer, if_neg (mt replaces_test_iff.1 h), if_pos room]

/-- R196, step 3. -/
theorem PortState.offer_of_full_latest (h : ¬ Replaces n ps.notices)
    (full : 16 ≤ ps.notices.length) (latest : ∃ m ∈ ps.notices, m.cls.latestOnly = true) :
    ∃ a m b, ps.notices = a ++ m :: b ∧ m.cls.latestOnly = true ∧
      (∀ x ∈ a, x.cls.latestOnly = false) ∧ ps.offer n = { ps with notices := a ++ b ++ [n] } := by
  obtain ⟨m₀, mem, hm₀⟩ := latest
  obtain ⟨m, a, b, before, hm, split, erased⟩ :=
    List.exists_of_eraseP (p := (·.cls.latestOnly)) mem hm₀
  refine ⟨a, m, b, split, hm, fun x hx => by simpa using before x hx, ?_⟩
  rw [PortState.offer, if_neg (mt replaces_test_iff.1 h), if_neg full.not_gt,
    if_pos (List.any_eq_true.2 ⟨m₀, mem, hm₀⟩), dropLatestOnly_eq_eraseP, erased]

/-- R196, step 4. -/
theorem PortState.offer_of_full_lasting (h : ¬ Replaces n ps.notices)
    (full : 16 ≤ ps.notices.length) (lasting : ∀ m ∈ ps.notices, m.cls.latestOnly = false) :
    ps.offer n = { ps with lost := true } := by
  rw [PortState.offer, if_neg (mt replaces_test_iff.1 h), if_neg full.not_gt,
    if_neg (by simpa using lasting)]

/-! ### The limits on the queue -/

/-- What an offer can do to the queue, as far as R196's two limits ask. -/
theorem PortState.offer_notices (ps : PortState) (n : Notice) :
    (ps.offer n).notices.map Notice.cls = ps.notices.map Notice.cls ∨
    ∃ kept, kept.Sublist ps.notices ∧ (kept.length < 16 ∨ kept.length < ps.notices.length) ∧
      ¬ Replaces n ps.notices ∧ (ps.offer n).notices = kept ++ [n] := by
  by_cases h : Replaces n ps.notices
  · obtain ⟨a, m, b, split, hm, -, placed⟩ := offer_of_replaces h
    exact .inl (by simp [placed, split, hm])
  rcases Nat.lt_or_ge ps.notices.length 16 with room | full
  · exact .inr ⟨ps.notices, .refl _, .inl room, h, by rw [offer_of_room h room]⟩
  by_cases latest : ∃ m ∈ ps.notices, m.cls.latestOnly = true
  · obtain ⟨a, m, b, split, -, -, placed⟩ := offer_of_full_latest h full latest
    exact .inr ⟨a ++ b, by simp [split], .inr (by simp [split]), h, by rw [placed]⟩
  · exact .inl (by rw [offer_of_full_lasting h full (by simpa using latest)])

/-- R196's first limit. -/
theorem PortState.offer_length_le (h : ps.notices.length ≤ 16) :
    (ps.offer n).notices.length ≤ 16 := by
  rcases ps.offer_notices n with same | ⟨kept, -, short, -, placed⟩
  · have length_eq := congrArg List.length same
    simp only [List.length_map] at length_eq
    omega
  · rw [placed, List.length_append, List.length_singleton]
    omega

/-- Among the notices of a queue that holds none it would replace, a notice repeats no latest-only
class. -/
theorem latestClasses_append_nodup {ns kept : List Notice} (h : ¬ Replaces n ns)
    (sub : kept.Sublist ns) (nodup : (latestClasses ns).Nodup) :
    (latestClasses (kept ++ [n])).Nodup := by
  have kept_nodup : (latestClasses kept).Nodup := nodup.sublist ((sub.map _).filter _)
  by_cases latest : n.cls.latestOnly = true
  · have absent : n.cls ∉ latestClasses kept := fun mem => by
      obtain ⟨m, hm, same⟩ := List.mem_map.1 (List.mem_of_mem_filter mem)
      exact h ⟨latest, m, sub.subset hm, same⟩
    simpa [latestClasses, latest] using kept_nodup.concat absent
  · simpa [latestClasses, latest] using kept_nodup

/-- R196's second limit. -/
theorem PortState.offer_latestClasses_nodup (h : (latestClasses ps.notices).Nodup) :
    (latestClasses (ps.offer n).notices).Nodup := by
  rcases ps.offer_notices n with same | ⟨kept, sub, -, fresh, placed⟩
  · rwa [latestClasses, same]
  · rw [placed]
    exact latestClasses_append_nodup fresh sub h

end

end Sys2Proof.Machine

namespace Sys2Proof
open Machine

/-- Settles O13: the four steps of R196 are the model's branches in turn, and the two limits follow
from what an offer can do to the classes of the queue (`PortState.offer_notices`). -/
theorem noticeIsPlacedInTheQueue : Obligations.NoticeIsPlacedInTheQueue := fun _ _ =>
  ⟨PortState.offer_of_replaces,
    fun h => ⟨PortState.offer_of_room h, fun full =>
      ⟨PortState.offer_of_full_latest h full, PortState.offer_of_full_lasting h full⟩⟩,
    PortState.offer_length_le, PortState.offer_latestClasses_nodup⟩

end Sys2Proof

/-!
What one event can do to the part outside its blocks.

The blocks reach the ports in three ways only: a notice is raised, a reply is filled, time passes
(`Pif.Serves`).  `State.Evolves` says this of a whole event, with the reset input and the queue of
commands left alone; one lemma per function of the model carries it through a composition.
-/
namespace Sys2Proof.Machine

/-! ### What the blocks do to the ports -/

/-- The ports after `d` microseconds. -/
def Pif.elapse (f : Pif) (d : Nat) : Pif :=
  { f with port0 := f.port0.elapse d, port1 := f.port1.elapse d, port2 := f.port2.elapse d }

/-- The ports answer a ticket. -/
def Pif.answer (f : Pif) (t : Ticket) (st : Status) (x : Fields) : Pif :=
  f.setPort t.port ((f.port t.port).fill t.entry st x)

/-- The ports `g` come from `f` by notices raised, replies filled and time passing. -/
inductive Pif.Serves (f : Pif) : Pif → Prop
  | refl : Serves f f
  | raise {g : Pif} (h : Serves f g) (n : Notice) : Serves f (g.raise n)
  | answer {g : Pif} (h : Serves f g) (t : Ticket) (st : Status) (x : Fields) :
      Serves f (g.answer t st x)
  | elapse {g : Pif} (h : Serves f g) (d : Nat) : Serves f (g.elapse d)

/-- What a property of the ports has to survive to be kept by the blocks. -/
theorem Pif.Serves.keeps {P : Pif → Prop} {f g : Pif} (h : f.Serves g) (hf : P f)
    (raise : ∀ f n, P f → P (f.raise n))
    (answer : ∀ f t st x, P f → P (f.answer t st x))
    (elapse : ∀ f d, P f → P (f.elapse d)) : P g := by
  induction h with
  | refl => exact hf
  | raise _ n ih => exact raise _ n ih
  | answer _ t st x ih => exact answer _ t st x ih
  | elapse _ d ih => exact elapse _ d ih

/-- The part `s` has come from `o` by the work of its blocks: the ports only served, the reset input and
the queue of commands as they were. -/
def State.Evolves (o s : State) : Prop :=
  o.pif.Serves s.pif ∧ s.por = o.por ∧ s.pending = o.pending

namespace State.Evolves
variable {o s : State}

theorem refl (s : State) : s.Evolves s := ⟨.refl, rfl, rfl⟩

theorem raise {n : Notice} (h : o.Evolves s) : o.Evolves (s.raise n) := ⟨h.1.raise n, h.2⟩

theorem answer {t : Ticket} {st : Status} {f : Fields} (h : o.Evolves s) :
    o.Evolves (s.answer t st f) := ⟨h.1.answer t st f, h.2⟩

theorem elapse {d : Nat} (h : o.Evolves s) : o.Evolves (s.elapse d) := ⟨h.1.elapse d, h.2⟩

/-- What leaves the ports, the reset input and the queue of commands alone. -/
theorem same {t : State} (h : o.Evolves s) (pif : t.pif = s.pif := by rfl)
    (por : t.por = s.por := by rfl) (pending : t.pending = s.pending := by rfl) : o.Evolves t := by
  rw [State.Evolves, pif, por, pending]
  exact h

theorem removeReason {r : Reason} (h : o.Evolves s) : o.Evolves (s.removeReason r) := h.same

theorem storeEchoes {f0 f1 : InFrame} (h : o.Evolves s) : o.Evolves (s.storeEchoes f0 f1) := h.same

theorem nextFree {n : Nat} (h : o.Evolves s) : o.Evolves { s with freeCtr := n } := h.same

/-! ### The tempo generator -/

theorem beatEvent {c : BeatCause} (h : o.Evolves s) : o.Evolves (s.beatEvent c) := .raise h.same

theorem noticeWrite {b : Nat} {w : TempoWriter} {p : Option Port} (h : o.Evolves s) :
    o.Evolves (s.noticeWrite b w p) := by
  unfold State.noticeWrite
  split
  · exact h
  · exact .raise h

theorem presetTempo {p : Option Port} {v : Option Nat} (h : o.Evolves s) :
    o.Evolves (s.presetTempo p v) := by
  unfold State.presetTempo
  split
  · exact h
  · split
    · exact h
    · exact .noticeWrite h

theorem beatUnderflow (h : o.Evolves s) : o.Evolves s.beatUnderflow := by
  unfold State.beatUnderflow
  split
  · exact .beatEvent h
  · exact h

theorem beatLampOff (h : o.Evolves s) : o.Evolves s.beatLampOff := by
  unfold State.beatLampOff
  split <;> exact h

theorem tapTimeout (h : o.Evolves s) : o.Evolves s.tapTimeout := by
  unfold State.tapTimeout
  split <;> exact h

theorem firstEdge (h : o.Evolves s) : o.Evolves s.firstEdge :=
  .raise <| .beatEvent <| .same h

theorem pulseBeat (h : o.Evolves s) : o.Evolves s.pulseBeat := by
  simp only [State.pulseBeat]
  split
  · exact .beatEvent <| .same h
  · exact .raise <| .beatEvent <| .same h

theorem countedEdge (h : o.Evolves s) : o.Evolves s.countedEdge := by
  unfold State.countedEdge
  split
  · exact h
  · exact .firstEdge h
  · split
    · exact h.same
    · exact .pulseBeat h
  · exact .raise h.same

theorem pulseEdge {d : EdgeDir} (h : o.Evolves s) : o.Evolves (s.pulseEdge d) := by
  unfold State.pulseEdge
  split
  · exact .countedEdge h
  · exact h

theorem pulseLost (h : o.Evolves s) : o.Evolves s.pulseLost := by
  unfold State.pulseLost
  split
  · exact .raise <| .beatEvent <| .same h
  · exact h

theorem tempoFrame (h : o.Evolves s) : o.Evolves s.tempoFrame :=
  .pulseLost <| .tapTimeout <| .beatLampOff <| .beatUnderflow h

/-! ### Passes and switches -/

theorem setSummaryClip (h : o.Evolves s) : o.Evolves s.setSummaryClip := by
  unfold State.setSummaryClip
  split
  · exact h
  · exact .raise h

theorem passComplete (h : o.Evolves s) : o.Evolves s.passComplete := by
  unfold State.passComplete
  split
  · exact h
  · have clipped : ∀ (b : Bool) (u : State), o.Evolves u →
        o.Evolves (if b then u.setSummaryClip else u) := by
      intro b u hu
      cases b
      · exact hu
      · exact .setSummaryClip hu
    dsimp only
    split
    · exact .raise <| clipped _ _ h.same
    · exact clipped _ _ h.same

theorem finishPass (h : o.Evolves s) : o.Evolves s.finishPass := by
  unfold State.finishPass
  split
  · exact .passComplete h
  · exact h

theorem beginDuePass (h : o.Evolves s) : o.Evolves s.beginDuePass := by
  unfold State.beginDuePass
  split
  · exact h
  · split
    · exact h
    · split <;> exact h

theorem lastBlock (h : o.Evolves s) : o.Evolves s.lastBlock := by
  unfold State.lastBlock
  split <;> exact h

theorem enterFade {ph : SwitchPhase} {k : SwitchKind} {f : Nat} (h : o.Evolves s) :
    o.Evolves (s.enterFade ph k f) := by
  simp only [State.enterFade]
  split
  · exact .lastBlock h
  · exact h

theorem afterBuild (h : o.Evolves s) : o.Evolves s.afterBuild := by
  unfold State.afterBuild
  split
  · split
    · exact .lastBlock h
    · exact h
  · exact h

theorem fadeBoundary {r : SwitchRec} (h : o.Evolves s) : o.Evolves (s.fadeBoundary r) := by
  simp only [State.fadeBoundary]
  split
  · exact h
  · split
    · exact .lastBlock h
    · exact h

theorem waitBoundary {r : SwitchRec} (h : o.Evolves s) : o.Evolves (s.waitBoundary r) := by
  simp only [State.waitBoundary]
  split <;> exact h

theorem prepareBoundary {r : SwitchRec} (h : o.Evolves s) : o.Evolves (s.prepareBoundary r) := by
  unfold State.prepareBoundary
  split
  · exact .waitBoundary h
  · split
    · exact .afterBuild h
    · split
      · exact .enterFade h
      · exact h

theorem switchBoundary (h : o.Evolves s) : o.Evolves s.switchBoundary := by
  unfold State.switchBoundary
  split
  · exact h
  · split
    · exact h
    · exact .prepareBoundary h
    · exact .fadeBoundary h
    · exact .fadeBoundary h
    · exact h

theorem grantAfterReclaim (h : o.Evolves s) : o.Evolves s.grantAfterReclaim := by
  unfold State.grantAfterReclaim
  split
  · exact .beginDuePass <| .afterBuild h
  · exact h

theorem budgetCheck {r : SwitchRec} (h : o.Evolves s) : o.Evolves (s.budgetCheck r) := by
  simp only [State.budgetCheck]
  split
  · exact .enterFade h
  · split
    · exact .enterFade h
    · exact h

theorem zeroFadeEnd {r : SwitchRec} (h : o.Evolves s) : o.Evolves (s.zeroFadeEnd r) := by
  unfold State.zeroFadeEnd
  split
  · exact h
  · exact .lastBlock h

theorem endOfPrepare (h : o.Evolves s) : o.Evolves s.endOfPrepare := by
  unfold State.endOfPrepare
  split
  · split
    · exact h
    · refine .beginDuePass ?_
      split
      · exact .zeroFadeEnd h
      · exact .budgetCheck h
  · exact h

theorem commit (h : o.Evolves s) : o.Evolves s.commit := by
  unfold State.commit
  split
  · exact h
  · split
    · refine .beginDuePass <| .raise <| .answer ?_
      exact .presetTempo (s := { s.exchange with scn := _ }) h
    · exact h

theorem gapInEnd (h : o.Evolves s) : o.Evolves s.gapInEnd := by
  unfold State.gapInEnd
  split
  · exact .beginDuePass <| .raise h
  · exact h

theorem abortTaken {c : AbortCause} (h : o.Evolves s) : o.Evolves (s.abortTaken c) := by
  unfold State.abortTaken
  split
  · split
    · exact h
    · exact .answer h
  · exact h

theorem abortPending {c : AbortCause} (h : o.Evolves s) : o.Evolves (s.abortPending c) := by
  unfold State.abortPending
  split
  · exact .answer h
  · exact h

theorem abandonSwitch {c : AbortCause} {p : Option Port} (h : o.Evolves s) :
    o.Evolves (s.abandonSwitch c p) := by
  unfold State.abandonSwitch
  split
  · exact .abortPending h
  · refine .raise ?_
    exact .abortPending (s := (s.removeReason .switchGap).abortTaken c) <| .abortTaken h

/-! ### Recalls -/

theorem setLatch {w : Word16} {p : Port} (h : o.Evolves s) : o.Evolves (s.setLatch w p) := by
  unfold State.setLatch
  split
  · exact h
  · exact .raise h

theorem toggleAfter {r : RecallReq} {p : Port} (h : o.Evolves s) :
    o.Evolves (s.toggleAfter r p) := by
  unfold State.toggleAfter
  split
  · split
    · exact .setLatch h
    · exact h
  · exact h

theorem supersede {p : Port} (h : o.Evolves s) : o.Evolves (s.supersede p) := by
  unfold State.supersede
  split
  · exact .answer h
  · exact h

theorem requestGrant (h : o.Evolves s) : o.Evolves s.requestGrant := by
  simp only [State.requestGrant]
  split <;> exact h

theorem beginSwitch {t : Ticket} {n : Nat} {r : Preset} {f : Nat} (h : o.Evolves s) :
    o.Evolves (s.beginSwitch t n r f) := .raise <| .requestGrant h

theorem takeRecall {t : Ticket} {r : RecallReq} (h : o.Evolves s) :
    o.Evolves (s.takeRecall t r) := by
  unfold State.takeRecall
  dsimp only
  split
  · exact .answer h
  · exact .beginSwitch <| .supersede <| .toggleAfter h

theorem pendingTake (h : o.Evolves s) : o.Evolves s.pendingTake := by
  unfold State.pendingTake
  split
  · split
    · exact .takeRecall h
    · exact h
  · exact h

theorem arrive {t : Ticket} {r : RecallReq} (h : o.Evolves s) : o.Evolves (s.arrive t r) := by
  unfold State.arrive State.leavePending
  split
  · exact .takeRecall h
  · dsimp only
    split
    · exact .answer h
    · exact h

/-! ### Protection -/

theorem relayTakesTarget (h : o.Evolves s) : o.Evolves s.relayTakesTarget := by
  obtain same | ⟨_, _, _, moved⟩ := s.relayTakesTarget_cases
  · rwa [same]
  · rw [moved]
    exact h

theorem gainMuted (h : o.Evolves s) : o.Evolves s.gainMuted := by
  unfold State.gainMuted
  split
  · exact .relayTakesTarget h
  · exact h

theorem gainOpen (h : o.Evolves s) : o.Evolves s.gainOpen := by
  unfold State.gainOpen
  split <;> exact h

theorem relayHoldEnd (h : o.Evolves s) : o.Evolves s.relayHoldEnd := by
  unfold State.relayHoldEnd
  split
  · exact h
  · split
    · exact .relayTakesTarget h
    · exact h

theorem abortResume {c : AbortCause} (h : o.Evolves s) : o.Evolves (s.abortResume c) := by
  unfold State.abortResume
  split
  · exact .answer h
  · exact h

theorem enterFault {c : Cause} (h : o.Evolves s) : o.Evolves (s.enterFault c) := by
  refine .raise <| .abandonSwitch ?_
  exact .abortResume (s := { s with opu := _, lnk := _ }) h

theorem handCause {c : Cause} (h : o.Evolves s) : o.Evolves (s.handCause c) := by
  unfold State.handCause State.addCause
  split
  · exact .enterFault h
  · split
    · exact h
    · exact .raise h

theorem runaway (h : o.Evolves s) : o.Evolves s.runaway := by
  unfold State.runaway
  split
  · exact .handCause h
  · exact h

theorem engineAutoStart (h : o.Evolves s) : o.Evolves s.engineAutoStart := by
  unfold State.engineAutoStart
  split <;> exact h

theorem answerResume (h : o.Evolves s) : o.Evolves s.answerResume := by
  unfold State.answerResume
  split
  · exact .answer h
  · exact h

theorem startingComplete (h : o.Evolves s) : o.Evolves s.startingComplete := by
  unfold State.startingComplete
  split
  · refine .beginDuePass <| .answerResume ?_
    exact .relayTakesTarget (s := { s with sen := _, opu := _ }) h
  · exact h

/-! ### The tuner -/

theorem tunerFrame {x : Int} (h : o.Evolves s) : o.Evolves (s.tunerFrame x) := by
  unfold State.tunerFrame
  dsimp only
  split
  · exact .raise h
  · exact h

theorem tunerTimeout (h : o.Evolves s) : o.Evolves s.tunerTimeout := by
  unfold State.tunerTimeout
  split
  · exact .raise h
  · exact h

theorem tunerLinkDown (h : o.Evolves s) : o.Evolves s.tunerLinkDown := by
  unfold State.tunerLinkDown
  dsimp only
  split
  · exact h
  · exact .raise h

/-! ### The converter link -/

theorem linkTo {d : LinkState} {c : Option Departure} (h : o.Evolves s) :
    o.Evolves (s.linkTo d c) := by
  unfold State.linkTo
  dsimp only
  split
  · exact h
  · exact .raise h

theorem setPrimary {b : Bool} (h : o.Evolves s) : o.Evolves (s.setPrimary b) := by
  unfold State.setPrimary
  split
  · exact h
  · exact .raise h

theorem setSecondary {b : Bool} (h : o.Evolves s) : o.Evolves (s.setSecondary b) := by
  unfold State.setSecondary
  split
  · exact h
  · exact .raise h

theorem setAuxValid {b : Bool} (h : o.Evolves s) : o.Evolves (s.setAuxValid b) := by
  unfold State.setAuxValid
  split
  · exact h
  · exact .raise h

theorem clearReady (h : o.Evolves s) : o.Evolves s.clearReady := .setSecondary <| .setPrimary h

theorem endAccess {c : ReadEnd} {a : Access} (h : o.Evolves s) :
    o.Evolves (State.endAccess c s a) := by
  unfold State.endAccess
  split
  · exact .answer h
  · exact h

theorem foldl_endAccess {c : ReadEnd} (as : List Access) :
    ∀ {s : State}, o.Evolves s → o.Evolves (as.foldl (State.endAccess c) s) := by
  induction as with
  | nil => exact id
  | cons a as ih => exact fun h => ih h.endAccess

theorem endAccesses {g : Access → Bool} {c : ReadEnd} (h : o.Evolves s) :
    o.Evolves (s.endAccesses g c) := foldl_endAccess _ h

theorem endQueue (h : o.Evolves s) : o.Evolves s.endQueue := .endAccesses h

theorem answerOwner {a : Access} {st : Status} {f : Fields} (h : o.Evolves s) :
    o.Evolves (s.answerOwner a st f) := by
  unfold State.answerOwner
  split
  · exact .answer h
  · exact h

theorem convReadCompletion (h : o.Evolves s) : o.Evolves s.convReadCompletion := by
  unfold State.convReadCompletion
  split
  · exact h
  · split
    · exact .answerOwner h
    · exact h

theorem convReadTimeout (h : o.Evolves s) : o.Evolves s.convReadTimeout := by
  unfold State.convReadTimeout
  split
  · exact h
  · split
    · exact .answerOwner h
    · exact h

theorem levelWriteJoin (h : o.Evolves s) : o.Evolves s.levelWriteJoin := by
  unfold State.levelWriteJoin
  split
  · split <;> exact h
  · exact h

theorem engineLinkStop {p : Option Port} (h : o.Evolves s) : o.Evolves (s.engineLinkStop p) := by
  unfold State.engineLinkStop
  split
  · refine .abandonSwitch ?_
    exact .abortResume (s := { s with opu := _ }) h
  · exact h

theorem departEngine {c : Option Cause} {p : Option Port} (h : o.Evolves s) :
    o.Evolves (s.departEngine c p) := by
  unfold State.departEngine
  split
  · exact .handCause h
  · exact .engineLinkStop h

theorem leaveRunning {d : LinkState} {w : Departure} {c : Option Cause}
    {p : Option Port} (h : o.Evolves s) : o.Evolves (s.leaveRunning d w c p) := by
  refine .linkTo <| .departEngine <| .tunerLinkDown ?_
  exact .endQueue h

theorem abortRest {c : RestEnd} (h : o.Evolves s) : o.Evolves (s.abortRest c) := by
  unfold State.abortRest
  split
  · exact .answer h
  · exact h

theorem linkRestFinal (h : o.Evolves s) : o.Evolves s.linkRestFinal := by
  obtain same | ⟨_, _, _, _, _, final⟩ := s.linkRestFinal_cases
  · rwa [same]
  · rw [final]
    exact .answer <| .clearReady <| .leaveRunning h

theorem linkStarted (h : o.Evolves s) : o.Evolves s.linkStarted := .setAuxValid <| .clearReady h

theorem coldStart {p : Port} (h : o.Evolves s) : o.Evolves (s.coldStart p) := by
  unfold State.coldStart
  split
  · exact .leaveRunning h
  · exact .linkTo h

theorem coldStartExpiry (h : o.Evolves s) : o.Evolves s.coldStartExpiry := by
  unfold State.coldStartExpiry
  split
  · exact .linkTo <| .elapse h
  · exact h

theorem enterWaking (h : o.Evolves s) : o.Evolves s.enterWaking := .linkStarted <| .linkTo h

theorem wake (h : o.Evolves s) : o.Evolves s.wake := by
  unfold State.wake
  split
  · exact .enterWaking h
  · exact h

theorem converterWake (h : o.Evolves s) : o.Evolves s.converterWake := by
  unfold State.converterWake
  split
  · exact .wake h
  · exact h

theorem wakeDeferralExpiry (h : o.Evolves s) : o.Evolves s.wakeDeferralExpiry := by
  unfold State.wakeDeferralExpiry
  split
  · exact .enterWaking <| .elapse h
  · exact h

theorem wakingExpiry (h : o.Evolves s) : o.Evolves s.wakingExpiry := by
  unfold State.wakingExpiry
  split
  · exact .linkTo <| .elapse h
  · exact h

theorem departBy {d : LinkState} {w : Departure} {c : Cause} (h : o.Evolves s) :
    o.Evolves (s.departBy d w c) := by
  have left : o.Evolves ((s.abortRest .link).leaveRunning d w (some c) none) :=
    .leaveRunning <| .abortRest h
  unfold State.departBy
  dsimp only
  split
  · exact .removeReason left
  · exact left

theorem frameLossExpiry (h : o.Evolves s) : o.Evolves s.frameLossExpiry := by
  unfold State.frameLossExpiry
  split
  · refine .clearReady <| .departBy ?_
    exact .elapse (s := s) h
  · exact h

theorem linkExpiries (h : o.Evolves s) : o.Evolves s.linkExpiries := by
  unfold State.linkExpiries
  split
  · split
    · exact .coldStartExpiry h
    · exact h
  · split
    · exact .wakeDeferralExpiry h
    · exact h
  · split
    · exact .wakingExpiry h
    · exact h
  · split
    · exact .frameLossExpiry h
    · exact h
  all_goals exact h

/-! ### The boundary and what falls due -/

theorem boundarySteps (h : o.Evolves s) : o.Evolves s.boundarySteps :=
  .gapInEnd <| .commit <| .endOfPrepare <| .grantAfterReclaim <| .startingComplete h

theorem engineBoundary (h : o.Evolves s) : o.Evolves s.engineBoundary := by
  unfold State.engineBoundary
  split
  · split <;> exact h
  · exact .switchBoundary h
  · exact h
  · exact h

theorem boundary (h : o.Evolves s) : o.Evolves s.boundary := .beginDuePass <| .engineBoundary h

theorem blockBoundary (h : o.Evolves s) : o.Evolves s.blockBoundary := by
  unfold State.blockBoundary
  split
  · exact .boundary <| .finishPass <| .pendingTake <| .boundarySteps h
  · exact h

theorem settleLink (h : o.Evolves s) : o.Evolves s.settleLink :=
  .runaway <| .engineAutoStart <| .levelWriteJoin <| .convReadTimeout <| .convReadCompletion h

theorem settleBlock (h : o.Evolves s) : o.Evolves s.settleBlock :=
  .pendingTake <| .boundarySteps <| .relayHoldEnd <| .tunerTimeout <| .blockBoundary h

theorem settleOutput (h : o.Evolves s) : o.Evolves s.settleOutput :=
  .linkRestFinal <| .relayTakesTarget <| .gainOpen <| .gainMuted h

theorem settle (h : o.Evolves s) : o.Evolves s.settle :=
  .settleOutput <| .settleBlock <| .settleLink h

theorem wholeBlock (h : o.Evolves s) : o.Evolves s.wholeBlock := by
  unfold State.wholeBlock
  split
  · exact .settleBlock h
  · exact h

/-! ### Frames -/

theorem auxInput {f : InFrame} (h : o.Evolves s) : o.Evolves (s.auxInput f) := by
  unfold State.auxInput
  split
  · exact h
  · split
    · exact h
    · dsimp only
      split
      · exact .handCause <| .raise h
      · exact .raise h

theorem secondaryBit {b : Bool} (h : o.Evolves s) : o.Evolves (s.secondaryBit b) := by
  unfold State.secondaryBit
  dsimp only
  split
  · exact .endAccesses <| .setSecondary h
  · exact .setSecondary h

theorem syncingFrame {f0 f1 : InFrame} (h : o.Evolves s) : o.Evolves (s.syncingFrame f0 f1) := by
  have ready : o.Evolves (((s.setPrimary (readyBit f0.tag)).setSecondary (readyBit f1.tag)).auxInput
      f0) := .auxInput <| .setSecondary <| .setPrimary h
  unfold State.syncingFrame
  dsimp only
  split
  · exact .linkTo ready
  · exact ready

theorem countFrame {f0 f1 : InFrame} (h : o.Evolves s) : o.Evolves (s.countFrame f0 f1) :=
  .tempoFrame <| .tunerFrame h

theorem converterLost (h : o.Evolves s) : o.Evolves s.converterLost :=
  .departBy <| .setPrimary h

theorem lossFrame {f0 f1 : InFrame} (h : o.Evolves s) : o.Evolves (s.lossFrame f0 f1) := by
  have whole : o.Evolves (((s.secondaryBit (readyBit f1.tag)).countFrame f0 f1).wholeBlock) :=
    .wholeBlock <| .countFrame <| .secondaryBit h
  simp only [State.lossFrame]
  split
  · split
    · exact .storeEchoes <| .converterLost <| .auxInput <| .nextFree whole
    · exact .storeEchoes <| .auxInput <| .converterLost <| .nextFree whole
  · exact .storeEchoes <| .auxInput <| .converterLost whole

theorem runningFrame {f0 f1 : InFrame} (h : o.Evolves s) : o.Evolves (s.runningFrame f0 f1) := by
  unfold State.runningFrame
  split
  · refine .countFrame ?_
    exact .auxInput (s := s.secondaryBit _) <| .secondaryBit h
  · exact .lossFrame h

theorem frameIn {f0 f1 : InFrame} (h : o.Evolves s) : o.Evolves (s.frameIn f0 f1) := by
  unfold State.frameIn
  split
  · exact .syncingFrame h
  · exact .runningFrame h
  · exact .syncingFrame <| .linkTo h
  all_goals exact h

theorem frameReceived {f0 f1 : InFrame} (h : o.Evolves s) : o.Evolves (s.frameReceived f0 f1) :=
  .settle <| .frameIn <| .settle h

theorem sendRunning (h : o.Evolves s) : o.Evolves s.sendRunning := by
  unfold State.sendRunning
  dsimp only
  split
  · exact (setSummaryClip h :)
  · exact h

theorem frameOut (h : o.Evolves s) : o.Evolves s.frameOut := by
  unfold State.frameOut
  split
  · exact .sendRunning h
  all_goals exact h

theorem frameSent (h : o.Evolves s) : o.Evolves s.frameSent := .settle <| .frameOut <| .settle h

end State.Evolves

end Sys2Proof.Machine

/-!
The commands of the part, sorted by what they are: a request with its owner, an event of the blocks, an
event of a port line, an unreadable body, the reset input.  A property of the state is proved of every
step through these few kinds (`step_keeps`).
-/
namespace Sys2Proof

/-! ### Requests and their owners -/

open Machine in
/-- The owner of a request: what happens at its take (section 10.5). -/
def Request.owner (tag : Byte) : Request → Ticket → State → State
  | .recall r => ownRecall r
  | .edit r => ownEdit r
  | .bypassStage r => ownBypassStage r
  | .store r => ownStore r
  | .writePreset r => ownWritePreset r
  | .readPreset r => ownReadPreset r
  | .erasePreset r => ownErasePreset r
  | .latch r => ownLatch r
  | .sceneRead => ownSceneRead
  | .setSceneOptions r => ownSetSceneOptions r
  | .writeCurve r => ownWriteCurve r
  | .writeImpulse r => ownWriteImpulse r
  | .meters r => ownMeters r
  | .setTails r => ownSetTails r
  | .tempoSource r => ownTempoSource r
  | .tempoSet r => ownTempoSet r
  | .tap => ownTap
  | .tempoRead => ownTempoRead
  | .tunerMode r => ownTunerMode r
  | .tunerSet r => ownTunerSet r
  | .tunerRead r => ownTunerRead r
  | .mute r => ownMute r
  | .resume r => ownResume r
  | .faultRead => ownFaultRead
  | .failoverRead => ownFailoverRead
  | .failoverClear => ownFailoverClear
  | .setProtection r => ownSetProtection r
  | .linkStart => ownLinkStart
  | .linkRest => ownLinkRest
  | .linkWake => ownLinkWake
  | .convRead r => ownConvRead tag r
  | .convWrite r => ownConvWrite tag r
  | .auxRead => ownAuxRead
  | .subscribe r => ownSubscribe r
  | .identify => ownIdentify
  | .restart => ownRestart

end Sys2Proof

namespace Sys2Proof.Machine

theorem exec_toInstr (p : Port) (tag : Byte) (q : Request) (s : State) :
    exec (q.toInstr p tag) s = .next (takeRequest p tag q (q.owner tag) s) := by
  cases q <;> rfl

/-! ### Events -/

/-- The events of the blocks behind the ports. -/
inductive BlockEvent : (State → State) → Prop
  | frameReceived (f0 f1 : InFrame) : BlockEvent (State.frameReceived f0 f1)
  | frameSent : BlockEvent State.frameSent
  | blockBoundary : BlockEvent State.blockBoundary
  | finishPass : BlockEvent State.finishPass
  | tailDrainExpiry : BlockEvent State.tailDrainExpiry
  | tailLifeExpiry : BlockEvent State.tailLifeExpiry
  | grantAfterReclaim : BlockEvent State.grantAfterReclaim
  | startingComplete : BlockEvent State.startingComplete
  | engineAutoStart : BlockEvent State.engineAutoStart
  | endOfPrepare : BlockEvent State.endOfPrepare
  | commit : BlockEvent State.commit
  | gapInEnd : BlockEvent State.gapInEnd
  | pendingTake : BlockEvent State.pendingTake
  | beatUnderflow : BlockEvent State.beatUnderflow
  | beatLampOff : BlockEvent State.beatLampOff
  | tapTimeout : BlockEvent State.tapTimeout
  | pulseEdge (d : EdgeDir) : BlockEvent (State.pulseEdge d)
  | pulseLost : BlockEvent State.pulseLost
  | tunerTimeout : BlockEvent State.tunerTimeout
  | runaway : BlockEvent State.runaway
  | gainMuted : BlockEvent State.gainMuted
  | gainOpen : BlockEvent State.gainOpen
  | relayTakesTarget : BlockEvent State.relayTakesTarget
  | relayHoldEnd : BlockEvent State.relayHoldEnd
  | linkRestFinal : BlockEvent State.linkRestFinal
  | frameLossExpiry : BlockEvent State.frameLossExpiry
  | coldStartExpiry : BlockEvent State.coldStartExpiry
  | converterWake : BlockEvent State.converterWake
  | wakeDeferralExpiry : BlockEvent State.wakeDeferralExpiry
  | wakingExpiry : BlockEvent State.wakingExpiry
  | convReadCompletion : BlockEvent State.convReadCompletion
  | convReadTimeout : BlockEvent State.convReadTimeout
  | levelWriteJoin : BlockEvent State.levelWriteJoin
  | settle : BlockEvent State.settle
  | elapse (d : Nat) : BlockEvent (State.elapse d)

/-- The events of the port lines. -/
inductive LineEvent : (State → State) → Prop
  | receive (p : Port) (b : Byte) (framingError : Bool) :
      LineEvent fun s => s.setPort p ((s.port p).receive b framingError)
  | rxTimeout (p : Port) : LineEvent (State.rxTimeout p)
  | replySendStart (p : Port) : LineEvent (State.replySendStart p)
  | noticeSendStart (p : Port) : LineEvent (State.noticeSendStart p)
  | txMessageEnd (p : Port) : LineEvent fun s => s.txMessageEnd p

/-- What a command can be. -/
inductive CommandKind (s : State) : Instr → State → Prop
  | request (p : Port) (tag : Byte) (q : Request) :
      CommandKind s (q.toInstr p tag) (takeRequest p tag q (q.owner tag) s)
  | bad (p : Port) (body : List Byte) : CommandKind s (.unknownRequestKind p body) (takeBad p body s)
  | block (c : Instr) {f : State → State} (h : BlockEvent f) : CommandKind s c (unlessReset f s)
  | line (c : Instr) {f : State → State} (h : LineEvent f) : CommandKind s c (unlessReset f s)
  | messageEnd (p : Port) :
      CommandKind s (.txMessageEnd p) (unlessReset (fun s => (s.txMessageEnd p).restartApply) s)
  | restartApply : CommandKind s .restartApply (unlessReset State.restartApply s)
  | powerOnAssert : CommandKind s .powerOnAssert s.powerOnAssert
  | powerOnRelease : CommandKind s .powerOnRelease s.powerOnRelease

open CommandKind in
/-- Every command answers a next state, and is of one of the kinds. -/
theorem exec_kind (c : Instr) (s : State) : ∃ t, exec c s = .next t ∧ CommandKind s c t := by
  cases c with
  | edit p tag r => exact ⟨_, rfl, request p tag (.edit r)⟩
  | bypassStage p tag r => exact ⟨_, rfl, request p tag (.bypassStage r)⟩
  | store p tag r => exact ⟨_, rfl, request p tag (.store r)⟩
  | writePreset p tag r => exact ⟨_, rfl, request p tag (.writePreset r)⟩
  | readPreset p tag r => exact ⟨_, rfl, request p tag (.readPreset r)⟩
  | erasePreset p tag r => exact ⟨_, rfl, request p tag (.erasePreset r)⟩
  | latch p tag r => exact ⟨_, rfl, request p tag (.latch r)⟩
  | sceneRead p tag => exact ⟨_, rfl, request p tag .sceneRead⟩
  | setSceneOptions p tag r => exact ⟨_, rfl, request p tag (.setSceneOptions r)⟩
  | writeCurve p tag r => exact ⟨_, rfl, request p tag (.writeCurve r)⟩
  | writeImpulse p tag r => exact ⟨_, rfl, request p tag (.writeImpulse r)⟩
  | meters p tag r => exact ⟨_, rfl, request p tag (.meters r)⟩
  | setTails p tag r => exact ⟨_, rfl, request p tag (.setTails r)⟩
  | tempoSource p tag r => exact ⟨_, rfl, request p tag (.tempoSource r)⟩
  | tempoSet p tag r => exact ⟨_, rfl, request p tag (.tempoSet r)⟩
  | tap p tag => exact ⟨_, rfl, request p tag .tap⟩
  | tempoRead p tag => exact ⟨_, rfl, request p tag .tempoRead⟩
  | tunerMode p tag r => exact ⟨_, rfl, request p tag (.tunerMode r)⟩
  | tunerSet p tag r => exact ⟨_, rfl, request p tag (.tunerSet r)⟩
  | tunerRead p tag r => exact ⟨_, rfl, request p tag (.tunerRead r)⟩
  | mute p tag r => exact ⟨_, rfl, request p tag (.mute r)⟩
  | resume p tag r => exact ⟨_, rfl, request p tag (.resume r)⟩
  | faultRead p tag => exact ⟨_, rfl, request p tag .faultRead⟩
  | failoverRead p tag => exact ⟨_, rfl, request p tag .failoverRead⟩
  | failoverClear p tag => exact ⟨_, rfl, request p tag .failoverClear⟩
  | setProtection p tag r => exact ⟨_, rfl, request p tag (.setProtection r)⟩
  | linkStart p tag => exact ⟨_, rfl, request p tag .linkStart⟩
  | linkRest p tag => exact ⟨_, rfl, request p tag .linkRest⟩
  | linkWake p tag => exact ⟨_, rfl, request p tag .linkWake⟩
  | convRead p tag r => exact ⟨_, rfl, request p tag (.convRead r)⟩
  | convWrite p tag r => exact ⟨_, rfl, request p tag (.convWrite r)⟩
  | auxRead p tag => exact ⟨_, rfl, request p tag .auxRead⟩
  | subscribe p tag r => exact ⟨_, rfl, request p tag (.subscribe r)⟩
  | identify p tag => exact ⟨_, rfl, request p tag .identify⟩
  | restart p tag => exact ⟨_, rfl, request p tag .restart⟩
  | unknownRequestKind p body => exact ⟨_, rfl, bad p body⟩
  | restartApply => exact ⟨_, rfl, .restartApply⟩
  | powerOnAssert => exact ⟨_, rfl, .powerOnAssert⟩
  | powerOnRelease => exact ⟨_, rfl, .powerOnRelease⟩
  | rxByte p b e => exact ⟨_, rfl, line _ (.receive p b e)⟩
  | rxInterbyteTimeout p => exact ⟨_, rfl, line _ (.rxTimeout p)⟩
  | replySendStart p => exact ⟨_, rfl, line _ (.replySendStart p)⟩
  | noticeSendStart p => exact ⟨_, rfl, line _ (.noticeSendStart p)⟩
  | txMessageEnd p => exact ⟨_, rfl, messageEnd p⟩
  | frameReceived f0 f1 => exact ⟨_, rfl, block _ (.frameReceived f0 f1)⟩
  | frameSent => exact ⟨_, rfl, block _ .frameSent⟩
  | blockBoundary => exact ⟨_, rfl, block _ .blockBoundary⟩
  | passComplete => exact ⟨_, rfl, block _ .finishPass⟩
  | tailDrainExpiry => exact ⟨_, rfl, block _ .tailDrainExpiry⟩
  | tailLifeExpiry => exact ⟨_, rfl, block _ .tailLifeExpiry⟩
  | grantAfterReclaim => exact ⟨_, rfl, block _ .grantAfterReclaim⟩
  | startingComplete => exact ⟨_, rfl, block _ .startingComplete⟩
  | engineAutoStart => exact ⟨_, rfl, block _ .engineAutoStart⟩
  | endOfPrepare => exact ⟨_, rfl, block _ .endOfPrepare⟩
  | commit => exact ⟨_, rfl, block _ .commit⟩
  | gapInEnd => exact ⟨_, rfl, block _ .gapInEnd⟩
  | pendingRecallTake => exact ⟨_, rfl, block _ .pendingTake⟩
  | beatCounterUnderflow => exact ⟨_, rfl, block _ .beatUnderflow⟩
  | beatLampOff => exact ⟨_, rfl, block _ .beatLampOff⟩
  | tapTimeout => exact ⟨_, rfl, block _ .tapTimeout⟩
  | pulseEdge d => exact ⟨_, rfl, block _ (.pulseEdge d)⟩
  | pulseLost => exact ⟨_, rfl, block _ .pulseLost⟩
  | tunerTimeout => exact ⟨_, rfl, block _ .tunerTimeout⟩
  | runaway => exact ⟨_, rfl, block _ .runaway⟩
  | gainReachesMuted => exact ⟨_, rfl, block _ .gainMuted⟩
  | gainReachesOpen => exact ⟨_, rfl, block _ .gainOpen⟩
  | relayTakesTarget => exact ⟨_, rfl, block _ .relayTakesTarget⟩
  | relayHoldEnd => exact ⟨_, rfl, block _ .relayHoldEnd⟩
  | linkRestFinalStep => exact ⟨_, rfl, block _ .linkRestFinal⟩
  | frameLossExpiry => exact ⟨_, rfl, block _ .frameLossExpiry⟩
  | coldStartExpiry => exact ⟨_, rfl, block _ .coldStartExpiry⟩
  | converterWake => exact ⟨_, rfl, block _ .converterWake⟩
  | wakeDeferralExpiry => exact ⟨_, rfl, block _ .wakeDeferralExpiry⟩
  | wakingExpiry => exact ⟨_, rfl, block _ .wakingExpiry⟩
  | convReadCompletion => exact ⟨_, rfl, block _ .convReadCompletion⟩
  | convReadTimeout => exact ⟨_, rfl, block _ .convReadTimeout⟩
  | levelWriteJoin => exact ⟨_, rfl, block _ .levelWriteJoin⟩
  -- RECALL stands last: its constructor's name is a keyword of Mathlib's.
  | _ p tag r => exact ⟨_, rfl, request p tag (.recall r)⟩

/-! ### The take -/

/-- What the take of a request can do (R192): nothing, or an entry is reserved and the owner acts. -/
theorem takeRequest_cases (p : Port) (tag : Byte) (q : Request) (owner : Ticket → State → State)
    (s : State) :
    takeRequest p tag q owner s = s ∨
    ∃ rs e, s.por = false ∧ s.pif.restart = none ∧ afterTake tag q (s.port p).requests = some rs ∧
      (s.port p).freeEntry = some e ∧
      takeRequest p tag q owner s =
        owner { port := p, entry := e } (s.setPort p ((s.port p).reserve e tag q.code rs)) := by
  unfold takeRequest
  split
  · exact .inl rfl
  · next held =>
    have open_ : s.por = false ∧ s.pif.restart = none := by simpa using held
    split
    · next rs e hrs he => exact .inr ⟨rs, e, open_.1, open_.2, hrs, he, rfl⟩
    · exact .inl rfl

/-- What the take of an unreadable body can do (R192). -/
theorem takeBad_cases (p : Port) (body : List Byte) (s : State) :
    takeBad p body s = s ∨
    ∃ tag kind item rs e, s.por = false ∧ s.pif.restart = none ∧ readRequest body = .bad tag kind item ∧
      afterTakeBad body (s.port p).requests = some rs ∧ (s.port p).freeEntry = some e ∧
      takeBad p body s = (s.setPort p ((s.port p).reserve e tag kind rs)).answer
        { port := p, entry := e } .badRequest (.badRequest kind item) := by
  unfold takeBad
  split
  · exact .inl rfl
  · next held =>
    have open_ : s.por = false ∧ s.pif.restart = none := by simpa using held
    split
    · next tag kind item rs e hread hrs he =>
      exact .inr ⟨tag, kind, item, rs, e, open_.1, open_.2, hread, hrs, he, rfl⟩
    · exact .inl rfl

/-! ### The owners only serve -/

namespace State.Evolves
variable {o s : State} {t : Ticket}

theorem setDirty {p : Port} (h : o.Evolves s) : o.Evolves (s.setDirty p) := by
  unfold State.setDirty
  split
  · exact h
  · exact .raise h.same

theorem editInst {n : Nat} {f : StageInst → StageInst} (h : o.Evolves s) :
    o.Evolves (s.editInst n f) := by
  unfold State.editInst
  split <;> exact h.same

theorem editEntry {n : Nat} {f : StageEntry → StageEntry} (h : o.Evolves s) :
    o.Evolves (s.editEntry n f) := h.same

theorem store {n : Nat} {name : Option (List Byte)} (h : o.Evolves s) :
    o.Evolves (s.store n name t) := .answer <| .raise h.same

theorem setTunerMode {m : TunerMode} (h : o.Evolves s) : o.Evolves (s.setTunerMode m) := by
  unfold State.setTunerMode
  dsimp only
  split <;> exact h.same

theorem loadSafe {p : Port} (h : o.Evolves s) : o.Evolves (s.loadSafe p) :=
  .presetTempo <| .raise h.same

theorem resumeBypass (h : o.Evolves s) : o.Evolves s.resumeBypass := .relayTakesTarget h.same

theorem startEngine {r : Reason} (h : o.Evolves s) : o.Evolves (s.startEngine r) := h.same

theorem awaitStart {m : ResumeMode} {b : Option Bool} (h : o.Evolves s) :
    o.Evolves (s.awaitStart t m b) := h.same

theorem resumeIn {m : ResumeMode} (h : o.Evolves s) : o.Evolves (s.resumeIn t m) := by
  cases m with
  | scene => exact .awaitStart <| .startEngine h
  | safe => exact .awaitStart <| .startEngine <| .loadSafe h
  | bypass => exact .answer <| .resumeBypass h

theorem acceptResume {m : ResumeMode} (h : o.Evolves s) : o.Evolves (s.acceptResume t m) :=
  .resumeIn <| .raise h.same

theorem ownRecall {r : RecallReq} (h : o.Evolves s) : o.Evolves (ownRecall r t s) := by
  unfold Machine.ownRecall
  split
  · split
    · exact .arrive <| .pendingTake h
    · exact .answer h
  · exact .answer h

theorem ownEdit {r : EditReq} (h : o.Evolves s) : o.Evolves (ownEdit r t s) := by
  unfold Machine.ownEdit
  split
  · exact .answer h
  · split
    · exact .answer h
    · split
      · exact .answer h
      · exact .answer <| .setDirty <| .editInst <| .editEntry h

theorem ownBypassStage {r : BypassReq} (h : o.Evolves s) : o.Evolves (ownBypassStage r t s) := by
  unfold Machine.ownBypassStage
  split
  · exact .answer h
  · split
    · exact .answer h
    · exact .answer <| .setDirty <| .editInst <| .editEntry h

theorem ownStore {r : StoreReq} (h : o.Evolves s) : o.Evolves (ownStore r t s) := by
  unfold Machine.ownStore
  split
  · exact .answer h
  · split
    · exact .answer h
    · split
      · exact .answer h
      · exact .store h

theorem ownWritePreset {r : WritePresetReq} (h : o.Evolves s) : o.Evolves (ownWritePreset r t s) := by
  unfold Machine.ownWritePreset
  split
  · exact .answer h
  · dsimp only
    split
    · exact .answer h
    · split
      · exact .answer h
      · exact .answer h.same

theorem ownReadPreset {r : ReadPresetReq} (h : o.Evolves s) : o.Evolves (ownReadPreset r t s) := by
  unfold Machine.ownReadPreset
  split
  · exact .answer h
  · split <;> exact .answer h

theorem ownErasePreset {r : ErasePresetReq} (h : o.Evolves s) : o.Evolves (ownErasePreset r t s) := by
  unfold Machine.ownErasePreset
  split
  · exact .answer h
  · exact .answer h.same

theorem ownLatch {r : LatchReq} (h : o.Evolves s) : o.Evolves (ownLatch r t s) :=
  .answer <| .setAuxValid <| .setLatch h

theorem ownWriteCurve {r : WriteCurveReq} (h : o.Evolves s) : o.Evolves (ownWriteCurve r t s) := by
  unfold Machine.ownWriteCurve
  split
  · exact .answer h
  · split
    · exact .answer h
    · exact .answer h.same

theorem ownWriteImpulse {r : WriteImpulseReq} (h : o.Evolves s) :
    o.Evolves (ownWriteImpulse r t s) := by
  unfold Machine.ownWriteImpulse
  split
  · exact .answer h
  · split
    · exact .answer h
    · exact .answer h.same

theorem ownMeters {r : MetersReq} (h : o.Evolves s) : o.Evolves (ownMeters r t s) := by
  unfold Machine.ownMeters
  split
  · exact .answer h.same
  · exact .answer h

theorem ownTempoSource {r : TempoSourceReq} (h : o.Evolves s) : o.Evolves (ownTempoSource r t s) := by
  unfold Machine.ownTempoSource
  split
  · dsimp only
    split
    · exact .answer <| .raise <| .beatEvent h.same
    · exact .answer <| .raise h.same
  · exact .answer h

theorem ownTempoSet {r : TempoSetReq} (h : o.Evolves s) : o.Evolves (ownTempoSet r t s) := by
  unfold Machine.ownTempoSet
  split
  · exact .answer h
  · dsimp only
    split
    · exact .answer <| .noticeWrite <| .beatEvent h.same
    · exact .answer <| .noticeWrite h.same

theorem ownTap (h : o.Evolves s) : o.Evolves (ownTap t s) := by
  unfold Machine.ownTap
  split
  · exact .answer h
  · split
    · exact .answer h
    · dsimp only
      split
      · exact .answer <| .noticeWrite <| .beatEvent h.same
      · exact .answer <| .noticeWrite h.same

theorem ownTunerMode {r : TunerModeReq} (h : o.Evolves s) : o.Evolves (ownTunerMode r t s) := by
  unfold Machine.ownTunerMode
  split
  · exact .answer h
  · dsimp only
    split
    · exact .answer h
    · exact .answer <| .raise <| .setTunerMode h

theorem ownTunerSet {r : TunerSetReq} (h : o.Evolves s) : o.Evolves (ownTunerSet r t s) := by
  unfold Machine.ownTunerSet
  split
  · exact .answer h
  · exact .answer h.same

theorem ownTunerRead {r : TunerReadReq} (h : o.Evolves s) : o.Evolves (ownTunerRead r t s) := by
  unfold Machine.ownTunerRead
  split <;> exact .answer h

theorem ownMute {r : MuteReq} (h : o.Evolves s) : o.Evolves (ownMute r t s) := by
  unfold Machine.ownMute
  split
  · exact .answer h
  · dsimp only
    split <;> exact .answer h.same

theorem ownResume {r : ResumeReq} (h : o.Evolves s) : o.Evolves (ownResume r t s) := by
  unfold Machine.ownResume
  split
  · exact .answer h
  · split
    · exact .answer h
    · split
      · exact .answer h
      · exact .acceptResume h

theorem ownFailoverRead (h : o.Evolves s) : o.Evolves (ownFailoverRead t s) := by
  unfold Machine.ownFailoverRead
  split
  · exact .answer h.same
  · exact .answer h

theorem ownFailoverClear (h : o.Evolves s) : o.Evolves (ownFailoverClear t s) := by
  unfold Machine.ownFailoverClear
  split
  · exact .answer h.same
  · exact .answer h

theorem ownSetProtection {r : ProtectionReq} (h : o.Evolves s) :
    o.Evolves (ownSetProtection r t s) := by
  unfold Machine.ownSetProtection
  split
  · exact .answer h.same
  · exact .answer h

theorem ownLinkStart (h : o.Evolves s) : o.Evolves (ownLinkStart t s) := by
  refine .answer <| .removeReason <| .linkStarted <| .coldStart ?_
  exact (abortRest h).same

theorem ownLinkRest (h : o.Evolves s) : o.Evolves (ownLinkRest t s) := by
  unfold Machine.ownLinkRest
  split
  · exact .answer h
  · exact .linkRestFinal h.same

theorem ownLinkWake (h : o.Evolves s) : o.Evolves (ownLinkWake t s) := by
  unfold Machine.ownLinkWake
  split
  · exact .answer <| .wake h
  · split
    · exact .answer <| .removeReason <| .abortRest h
    · exact .answer h
  all_goals exact .answer h

theorem ownConvRead {tag : Byte} {r : ConvReadReq} (h : o.Evolves s) :
    o.Evolves (ownConvRead tag r t s) := by
  unfold Machine.ownConvRead
  split
  · split
    · exact .answer h
    · exact h.same
  · exact .answer h

theorem ownConvWrite {tag : Byte} {r : ConvWriteReq} (h : o.Evolves s) :
    o.Evolves (ownConvWrite tag r t s) := by
  unfold Machine.ownConvWrite
  split
  · split
    · exact .answer h
    · exact .answer h.same
  · exact .answer h

/-- Every owner only serves the ports, but those of SUBSCRIBE and RESTART, which are the ports' own. -/
theorem owner {tag : Byte} {q : Request} (h : o.Evolves s) (notSubscribe : ∀ r, q ≠ .subscribe r)
    (notRestart : q ≠ .restart) : o.Evolves (q.owner tag t s) := by
  cases q with
  | edit r => exact .ownEdit h
  | bypassStage r => exact .ownBypassStage h
  | store r => exact .ownStore h
  | writePreset r => exact .ownWritePreset h
  | readPreset r => exact .ownReadPreset h
  | erasePreset r => exact .ownErasePreset h
  | latch r => exact .ownLatch h
  | sceneRead => exact .answer h
  | setSceneOptions r => exact .answer h.same
  | writeCurve r => exact .ownWriteCurve h
  | writeImpulse r => exact .ownWriteImpulse h
  | meters r => exact .ownMeters h
  | setTails r => exact .answer h.same
  | tempoSource r => exact .ownTempoSource h
  | tempoSet r => exact .ownTempoSet h
  | tap => exact .ownTap h
  | tempoRead => exact .answer h
  | tunerMode r => exact .ownTunerMode h
  | tunerSet r => exact .ownTunerSet h
  | tunerRead r => exact .ownTunerRead h
  | mute r => exact .ownMute h
  | resume r => exact .ownResume h
  | faultRead => exact .answer h
  | failoverRead => exact .ownFailoverRead h
  | failoverClear => exact .ownFailoverClear h
  | setProtection r => exact .ownSetProtection h
  | linkStart => exact .ownLinkStart h
  | linkRest => exact .ownLinkRest h
  | linkWake => exact .ownLinkWake h
  | convRead r => exact .ownConvRead h
  | convWrite r => exact .ownConvWrite h
  | auxRead => exact .answer h
  | subscribe r => exact absurd rfl (notSubscribe r)
  | identify => exact .answer h
  | restart => exact absurd rfl notRestart
  -- RECALL stands last: its constructor's name is a keyword of Mathlib's.
  | _ r => exact .ownRecall h

/-- Every event of the blocks only serves the ports. -/
theorem block {f : State → State} (e : BlockEvent f) (h : o.Evolves s) : o.Evolves (f s) := by
  cases e with
  | frameReceived f0 f1 => exact .frameReceived h
  | frameSent => exact .frameSent h
  | blockBoundary => exact .blockBoundary h
  | finishPass => exact .finishPass h
  | tailDrainExpiry => exact h.same
  | tailLifeExpiry => exact h.same
  | grantAfterReclaim => exact .grantAfterReclaim h
  | startingComplete => exact .startingComplete h
  | engineAutoStart => exact .engineAutoStart h
  | endOfPrepare => exact .endOfPrepare h
  | commit => exact .commit h
  | gapInEnd => exact .gapInEnd h
  | pendingTake => exact .pendingTake h
  | beatUnderflow => exact .beatUnderflow h
  | beatLampOff => exact .beatLampOff h
  | tapTimeout => exact .tapTimeout h
  | pulseEdge d => exact .pulseEdge h
  | pulseLost => exact .pulseLost h
  | tunerTimeout => exact .tunerTimeout h
  | runaway => exact .runaway h
  | gainMuted => exact .gainMuted h
  | gainOpen => exact .gainOpen h
  | relayTakesTarget => exact .relayTakesTarget h
  | relayHoldEnd => exact .relayHoldEnd h
  | linkRestFinal => exact .linkRestFinal h
  | frameLossExpiry => exact .frameLossExpiry h
  | coldStartExpiry => exact .coldStartExpiry h
  | converterWake => exact .converterWake h
  | wakeDeferralExpiry => exact .wakeDeferralExpiry h
  | wakingExpiry => exact .wakingExpiry h
  | convReadCompletion => exact .convReadCompletion h
  | convReadTimeout => exact .convReadTimeout h
  | levelWriteJoin => exact .levelWriteJoin h
  | settle => exact .settle h
  | elapse d => exact .elapse h

end State.Evolves

/-! ### The reset input and the queue of commands -/

/-- What an event leaves alone whatever it does to the ports: the reset input and the queue of commands. -/
def State.KeepsQueue (o s : State) : Prop := s.por = o.por ∧ s.pending = o.pending

theorem State.Evolves.keepsQueue {o s : State} (h : o.Evolves s) : o.KeepsQueue s := h.2

theorem ownSubscribe_keepsQueue (r : SubscribeReq) (t : Ticket) (s : State) :
    s.KeepsQueue (ownSubscribe r t s) := by
  unfold ownSubscribe
  split <;> exact ⟨rfl, rfl⟩

theorem owner_keepsQueue (tag : Byte) (q : Request) (t : Ticket) (s : State) :
    s.KeepsQueue (q.owner tag t s) := by
  by_cases isSubscribe : ∃ r, q = .subscribe r
  · obtain ⟨r, rfl⟩ := isSubscribe
    exact ownSubscribe_keepsQueue r t s
  · by_cases isRestart : q = .restart
    · subst isRestart
      exact ⟨rfl, rfl⟩
    · exact (State.Evolves.owner (.refl s) (fun r hr => isSubscribe ⟨r, hr⟩) isRestart).keepsQueue

theorem takeRequest_keepsQueue (p : Port) (tag : Byte) (q : Request) (s : State) :
    s.KeepsQueue (takeRequest p tag q (q.owner tag) s) := by
  obtain held | ⟨rs, e, -, -, -, -, taken⟩ := takeRequest_cases p tag q (q.owner tag) s
  · rw [held]
    exact ⟨rfl, rfl⟩
  · rw [taken]
    exact owner_keepsQueue tag q _ (s.setPort p _)

theorem takeBad_keepsQueue (p : Port) (body : List Byte) (s : State) :
    s.KeepsQueue (takeBad p body s) := by
  obtain held | ⟨tag, kind, item, rs, e, -, -, -, -, -, taken⟩ := takeBad_cases p body s
  · rw [held]
    exact ⟨rfl, rfl⟩
  · rw [taken]
    exact ⟨rfl, rfl⟩

theorem LineEvent.keepsQueue {f : State → State} (h : LineEvent f) (s : State) :
    s.KeepsQueue (f s) := by
  cases h with
  | receive p b e => exact ⟨rfl, rfl⟩
  | rxTimeout p =>
    unfold State.rxTimeout
    split <;> exact ⟨rfl, rfl⟩
  | replySendStart p =>
    unfold State.replySendStart
    repeat' split
    all_goals exact ⟨rfl, rfl⟩
  | noticeSendStart p =>
    unfold State.noticeSendStart
    split <;> exact ⟨rfl, rfl⟩
  | txMessageEnd p => exact ⟨rfl, rfl⟩

theorem State.restartApply_keepsQueue (s : State) : s.KeepsQueue s.restartApply := by
  unfold State.restartApply
  split <;> exact ⟨rfl, rfl⟩

theorem unlessReset_of_held {s : State} (h : s.por = true) (f : State → State) :
    unlessReset f s = s := if_pos h

theorem unlessReset_of_free {s : State} (h : s.por = false) (f : State → State) :
    unlessReset f s = f s := if_neg (by simp [h])

/-- No command touches the queue of commands (entry 1). -/
theorem CommandKind.pending_eq {s t : State} {c : Instr} (h : CommandKind s c t) :
    t.pending = s.pending := by
  have gated : ∀ f : State → State, (f s).pending = s.pending →
      (unlessReset f s).pending = s.pending := by
    intro f hf
    unfold unlessReset
    split
    · rfl
    · exact hf
  cases h with
  | request p tag q => exact (takeRequest_keepsQueue p tag q s).2
  | bad p body => exact (takeBad_keepsQueue p body s).2
  | block _ h => exact gated _ (State.Evolves.block h (.refl s)).2.2
  | line _ h => exact gated _ (h.keepsQueue s).2
  | messageEnd p => exact gated _ (s.txMessageEnd p).restartApply_keepsQueue.2
  | restartApply => exact gated _ s.restartApply_keepsQueue.2
  | powerOnAssert => rfl
  | powerOnRelease =>
    unfold State.powerOnRelease
    split <;> rfl

/-! ### A step -/

/-- What a property has to survive to be kept by every step: the takes, the events of the blocks and of
the lines, and the resets. -/
structure Survives (P : State → Prop) : Prop where
  queue : ∀ s n cs, P s → P { s with freeCtr := n, pending := cs }
  request : ∀ s p tag q, P s → P (takeRequest p tag q (q.owner tag) s)
  bad : ∀ s p body, P s → P (takeBad p body s)
  block : ∀ s f, BlockEvent f → s.por = false → P s → P (f s)
  line : ∀ s f, LineEvent f → s.por = false → P s → P (f s)
  restartApply : ∀ s, s.por = false → P s → P s.restartApply
  powerOnAssert : ∀ s, P s → P s.powerOnAssert
  powerOnRelease : ∀ s, P s → P s.powerOnRelease

namespace Survives
variable {P : State → Prop}

theorem command (k : Survives P) {s t : State} {c : Instr} (h : CommandKind s c t) (hs : P s) : P t := by
  have gated : ∀ f : State → State, (s.por = false → P (f s)) → P (unlessReset f s) := by
    intro f hf
    cases hpor : s.por with
    | true => rwa [unlessReset_of_held hpor]
    | false =>
      rw [unlessReset_of_free hpor]
      exact hf hpor
  cases h with
  | request p tag q => exact k.request s p tag q hs
  | bad p body => exact k.bad s p body hs
  | block _ h => exact gated _ fun hpor => k.block s _ h hpor hs
  | line _ h => exact gated _ fun hpor => k.line s _ h hpor hs
  | messageEnd p =>
    exact gated _ fun hpor => k.restartApply (s.txMessageEnd p)
      (((LineEvent.txMessageEnd p).keepsQueue s).1.trans hpor)
      (k.line s _ (.txMessageEnd p) hpor hs)
  | restartApply => exact gated _ fun hpor => k.restartApply s hpor hs
  | powerOnAssert => exact k.powerOnAssert s hs
  | powerOnRelease => exact k.powerOnRelease s hs

/-- The property while the reset input is not asserted: what the part keeps by itself. -/
def Free (P : State → Prop) (s : State) : Prop := s.por = false ∧ P s

theorem freeBlock (k : Survives P) {s : State} {f : State → State} (h : BlockEvent f) (hs : Free P s) :
    Free P (f s) :=
  ⟨(State.Evolves.block h (.refl s)).2.1.trans hs.1, k.block s f h hs.1 hs.2⟩

theorem freeLine (k : Survives P) {s : State} {f : State → State} (h : LineEvent f) (hs : Free P s) :
    Free P (f s) :=
  ⟨(h.keepsQueue s).1.trans hs.1, k.line s f h hs.1 hs.2⟩

theorem freeRestart (k : Survives P) {s : State} (hs : Free P s) : Free P s.restartApply :=
  ⟨s.restartApply_keepsQueue.1.trans hs.1, k.restartApply s hs.1 hs.2⟩

theorem freeTakeCommand (k : Survives P) (p : Port) {s : State} (u : State) (hs : Free P s) :
    Free P (s.runs (u.takeCommand p)) := by
  unfold State.takeCommand
  split
  · exact hs
  · split
    · next q _ =>
      simp only [State.runs, exec_toInstr]
      exact ⟨(takeRequest_keepsQueue p _ q s).1.trans hs.1, k.request s p _ q hs.2⟩
    · exact ⟨(takeBad_keepsQueue p _ s).1.trans hs.1, k.bad s p _ hs.2⟩

theorem freeTakeWaiting (k : Survives P) {s : State} (hs : Free P s) : Free P s.takeWaiting := by
  unfold State.takeWaiting
  split
  · exact hs
  · exact k.freeTakeCommand _ s hs
  · exact k.freeTakeCommand _ s ⟨hs.1, k.queue s _ _ hs.2⟩

theorem freeLinkExpiries (k : Survives P) {s : State} (hs : Free P s) : Free P s.linkExpiries := by
  unfold State.linkExpiries
  split
  · split
    · exact k.freeBlock .coldStartExpiry hs
    · exact hs
  · split
    · exact k.freeBlock .wakeDeferralExpiry hs
    · exact hs
  · split
    · exact k.freeBlock .wakingExpiry hs
    · exact hs
  · split
    · exact k.freeBlock .frameLossExpiry hs
    · exact hs
  all_goals exact hs

theorem freeRxExpiry (k : Survives P) (p : Port) {s : State} (hs : Free P s) :
    Free P (s.rxExpiry p) := by
  unfold State.rxExpiry
  split
  · exact k.freeLine (.rxTimeout p) hs
  · exact hs

theorem freeBeginMessages (k : Survives P) {s : State} (hs : Free P s) : Free P s.beginMessages := by
  unfold State.beginMessages
  exact k.freeLine (.noticeSendStart .p2) <| k.freeLine (.replySendStart .p2) <|
    k.freeLine (.noticeSendStart .p1) <| k.freeLine (.replySendStart .p1) <|
    k.freeLine (.noticeSendStart .p0) <| k.freeLine (.replySendStart .p0) hs

/-- What the part does by itself in a microsecond (entry 3). -/
theorem idle (k : Survives P) {s : State} (hs : P s) : P s.idle := by
  unfold State.idle
  split
  · exact hs
  · next hpor =>
    have free : Free P s := ⟨by simpa using hpor, hs⟩
    exact (k.freeRxExpiry .p2 <| k.freeRxExpiry .p1 <| k.freeRxExpiry .p0 <| k.freeLinkExpiries <|
      k.freeBlock (.elapse 1) <| k.freeTakeWaiting <| k.freeRestart <| k.freeBeginMessages <|
      k.freeBlock .finishPass <| k.freeBlock .settle free).2

/-- A property that survives every kind of event is kept by every step. -/
theorem step (k : Survives P) {s t : State} (hs : P s) (h : step s = .next t) : P t := by
  unfold Machine.step at h
  split at h
  · cases h
    exact k.idle hs
  · next c rest _ =>
    obtain ⟨u, hu, kind⟩ := exec_kind c { s with pending := rest }
    obtain rfl : u = t := by simpa [hu] using h
    exact k.command kind (k.queue s s.freeCtr rest hs)

end Survives

end Sys2Proof.Machine

/-!
The ports stay within their bounds (R188, R191, R193 to R196).

The reply queue's bounds say that the send order lists exactly the filled entries and that the line
sends exactly the entry being sent (`RepliesSound`); each change of an entry moves it along FREE,
RESERVED, filled, being sent, FREE, and the order and the line follow it.
-/
namespace Sys2Proof.Machine

/-! ### The bounds, said as propositions -/

/-- The entry at a place of a reply queue is filled. -/
def FilledAt (es : List ReplyEntry) (i : Nat) : Prop := (es[i]?).any ReplyEntry.isFilled = true

/-- The entry at a place of a reply queue is being sent. -/
def SendingAt (es : List ReplyEntry) (i : Nat) : Prop := (es[i]?).any ReplyEntry.isSending = true

/-- `PortState.repliesOk`, by entry. -/
structure RepliesSound (ps : PortState) : Prop where
  length : ps.replies.length = 8
  nodup : ps.order.Nodup
  order : ∀ i, i ∈ ps.order ↔ FilledAt ps.replies i
  line : ∀ i, ps.tx.entry = some i ↔ SendingAt ps.replies i

theorem not_filledAt_of_length_le {es : List ReplyEntry} {i : Nat} (h : es.length ≤ i) :
    ¬ FilledAt es i := by
  simp [FilledAt, List.getElem?_eq_none h]

theorem not_sendingAt_of_length_le {es : List ReplyEntry} {i : Nat} (h : es.length ≤ i) :
    ¬ SendingAt es i := by
  simp [SendingAt, List.getElem?_eq_none h]

theorem repliesOk_iff (ps : PortState) : ps.repliesOk = true ↔ RepliesSound ps := by
  simp only [PortState.repliesOk, Bool.and_eq_true, decide_eq_true_eq, List.all_eq_true,
    List.mem_range, Bool.or_eq_true, Bool.not_eq_true', List.contains_iff_mem, beq_iff_eq]
  constructor
  · rintro ⟨⟨⟨⟨length, nodup⟩, listed⟩, places⟩, inside⟩
    refine ⟨length, nodup, fun i => ⟨listed i, fun filled => ?_⟩, fun i => ⟨fun sent => ?_, fun sending => ?_⟩⟩
    · by_contra unlisted
      have hi : i < 8 := by
        by_contra far
        exact not_filledAt_of_length_le (by omega) filled
      rcases (places i hi).1 with empty | mem
      · rw [FilledAt, empty] at filled
        exact absurd filled (by decide)
      · exact unlisted mem
    · have hi : i < 8 := by simpa [sent] using inside
      have same := (places i hi).2
      rw [SendingAt, ← same, sent]
      exact decide_eq_true rfl
    · have hi : i < 8 := by
        by_contra far
        exact not_sendingAt_of_length_le (by omega) sending
      have same := (places i hi).2
      rw [sending] at same
      exact of_decide_eq_true same
  · rintro ⟨length, nodup, order, line⟩
    refine ⟨⟨⟨⟨length, nodup⟩, fun i hi => (order i).1 hi⟩, fun i _ => ⟨?_, ?_⟩⟩, ?_⟩
    · by_cases filled : FilledAt ps.replies i
      · exact .inr ((order i).2 filled)
      · exact .inl (by simpa [FilledAt] using filled)
    · rw [Bool.eq_iff_iff, decide_eq_true_eq]
      exact line i
    · cases sent : ps.tx.entry with
      | none => rfl
      | some i =>
        have : i < ps.replies.length := by
          by_contra far
          exact not_sendingAt_of_length_le (by omega) ((line i).1 sent)
        simp only [Option.all_some, decide_eq_true_eq]
        omega

/-- `PortState.noticesOk`, by its three limits. -/
theorem noticesOk_iff (ps : PortState) : ps.noticesOk = true ↔
    ps.notices.length ≤ 16 ∧ (∀ c ∈ ps.notices.map Notice.cls, subscribed ps.subs c = true) ∧
      (latestClasses ps.notices).Nodup := by
  simp [PortState.noticesOk, latestClasses, and_assoc]

/-! ### An entry changes -/

theorem filledAt_set {es : List ReplyEntry} {e : Nat} {x : ReplyEntry} (he : e < es.length) (i : Nat) :
    FilledAt (es.set e x) i ↔ if i = e then x.isFilled = true else FilledAt es i := by
  by_cases hi : i = e
  · subst hi
    simp [FilledAt, he]
  · simp [FilledAt, hi, List.getElem?_set_ne (Ne.symm hi)]

theorem sendingAt_set {es : List ReplyEntry} {e : Nat} {x : ReplyEntry} (he : e < es.length) (i : Nat) :
    SendingAt (es.set e x) i ↔ if i = e then x.isSending = true else SendingAt es i := by
  by_cases hi : i = e
  · subst hi
    simp [SendingAt, he]
  · simp [SendingAt, hi, List.getElem?_set_ne (Ne.symm hi)]

section
variable {ps : PortState} {e : Nat} {x y : ReplyEntry}

/-- An entry that is neither filled nor being sent can take any such content. -/
theorem RepliesSound.setQuiet (h : RepliesSound ps) (at_e : ps.replies[e]? = some x)
    (quiet : x.isFilled = false ∧ x.isSending = false) (quiet' : y.isFilled = false ∧ y.isSending = false) :
    RepliesSound { ps with replies := ps.replies.set e y } := by
  obtain ⟨he, -⟩ := List.getElem?_eq_some_iff.1 at_e
  refine ⟨by simpa using h.length, h.nodup, fun i => ?_, fun i => ?_⟩
  · rw [filledAt_set he, h.order]
    split
    · next hi => simp [hi, FilledAt, at_e, quiet, quiet']
    · rfl
  · rw [sendingAt_set he, h.line]
    split
    · next hi => simp [hi, SendingAt, at_e, quiet, quiet']
    · rfl

/-- A reserved entry is filled and joins the order. -/
theorem RepliesSound.setFilled (h : RepliesSound ps) (at_e : ps.replies[e]? = some x)
    (quiet : x.isFilled = false ∧ x.isSending = false) (filled : y.isFilled = true ∧ y.isSending = false) :
    RepliesSound { ps with replies := ps.replies.set e y, order := ps.order ++ [e] } := by
  obtain ⟨he, -⟩ := List.getElem?_eq_some_iff.1 at_e
  have unlisted : e ∉ ps.order := by
    rw [h.order]
    simp [FilledAt, at_e, quiet]
  refine ⟨by simpa using h.length, ?_, fun i => ?_, fun i => ?_⟩
  · simpa using h.nodup.concat unlisted
  · rw [filledAt_set he, List.mem_append, List.mem_singleton, h.order]
    split
    · next hi => simp [hi, filled]
    · next hi => simp [hi]
  · rw [sendingAt_set he, h.line]
    split
    · next hi => simp [hi, SendingAt, at_e, quiet, filled]
    · rfl

/-- A filled entry leaves the order as an idle line begins to send it. -/
theorem RepliesSound.setSending (h : RepliesSound ps) (at_e : ps.replies[e]? = some x)
    (sending : y.isFilled = false ∧ y.isSending = true) (idle : ps.tx = .idle) (b o : Bool) :
    RepliesSound { ps with
      replies := ps.replies.set e y, order := ps.order.erase e, tx := .reply e b o } := by
  obtain ⟨he, -⟩ := List.getElem?_eq_some_iff.1 at_e
  refine ⟨by simpa using h.length, h.nodup.erase e, fun i => ?_, fun i => ?_⟩
  · rw [filledAt_set he, h.nodup.mem_erase_iff, h.order]
    split
    · next hi => simp [hi, sending]
    · next hi => simp [hi]
  · have none_sent : ¬ SendingAt ps.replies i := by
      rw [← h.line, idle]
      exact nofun
    rw [sendingAt_set he]
    split
    · next hi => simp [hi, TxLine.entry, sending]
    · next hi => simpa [TxLine.entry, none_sent] using Ne.symm hi

/-- The entry being sent is freed as its message ends. -/
theorem RepliesSound.setSent (h : RepliesSound ps) {b o : Bool} (line : ps.tx = .reply e b o) :
    RepliesSound { ps with replies := ps.replies.set e .free, tx := .idle } := by
  have sent : SendingAt ps.replies e := (h.line e).1 (by rw [line]; rfl)
  have he : e < ps.replies.length := by
    by_contra far
    exact not_sendingAt_of_length_le (by omega) sent
  refine ⟨by simpa using h.length, h.nodup, fun i => ?_, fun i => ?_⟩
  · rw [filledAt_set he, h.order]
    split
    · next hi =>
      subst hi
      obtain ⟨y, at_i, sending⟩ := Option.any_eq_true _ _ |>.1 sent
      cases y <;> simp_all [FilledAt, ReplyEntry.isFilled, ReplyEntry.isSending]
    · rfl
  · rw [sendingAt_set he]
    split
    · simp [TxLine.entry, ReplyEntry.isSending]
    · next hi =>
      have other : ps.tx.entry ≠ some i := by
        rw [line]
        simpa [TxLine.entry] using Ne.symm hi
      rw [← h.line]
      exact iff_of_false nofun other

end

/-! ### What the blocks do keeps a port within its bounds -/

section
variable {por : Bool} {ps : PortState}

theorem PortState.ok_iff : ps.ok por = true ↔
    ps.requests.length ≤ 4 ∧ ps.rdy = (!por && decide (ps.requests.length < 4)) ∧ RepliesSound ps ∧
      ps.noticesOk = true := by
  simp [PortState.ok, repliesOk_iff, and_assoc]

theorem PortState.offer_noticesOk {n : Notice} (h : ps.noticesOk = true)
    (sub : subscribed ps.subs n.cls = true) :
    (ps.offer n).noticesOk = true := by
  obtain ⟨length, classes, latest⟩ := (noticesOk_iff ps).1 h
  have same_subs : (ps.offer n).subs = ps.subs := by
    obtain ⟨ns, h⟩ | h := ps.offer_cases n <;> rw [h]
  refine (noticesOk_iff _).2
    ⟨PortState.offer_length_le length, ?_, PortState.offer_latestClasses_nodup latest⟩
  rw [same_subs]
  obtain same | ⟨kept, sub_kept, -, -, placed⟩ := ps.offer_notices n
  · rwa [same]
  · rw [placed, List.map_append]
    intro c hc
    rcases List.mem_append.1 hc with old | new
    · exact classes c ((sub_kept.map _).subset old)
    · obtain rfl : c = n.cls := by simpa using new
      exact sub

theorem PortState.notify_ok {n : Notice} (h : ps.ok por = true) : (ps.notify n).ok por = true := by
  obtain ⟨requests, rdy, replies, notices⟩ := PortState.ok_iff.1 h
  refine PortState.ok_iff.2 ⟨by simpa using requests, by simpa using rdy, ⟨?_, ?_, ?_, ?_⟩, ?_⟩
  · simpa using replies.length
  · simpa using replies.nodup
  · simpa using replies.order
  · simpa using replies.line
  · unfold PortState.notify
    split
    · next sub => exact PortState.offer_noticesOk notices sub
    · exact notices

theorem PortState.fill_ok {e : Nat} {st : Status} {x : Fields} (h : ps.ok por = true) :
    (ps.fill e st x).ok por = true := by
  obtain ⟨requests, rdy, replies, notices⟩ := PortState.ok_iff.1 h
  unfold PortState.fill
  split
  · next tag kind at_e =>
    exact PortState.ok_iff.2
      ⟨requests, rdy, replies.setFilled at_e ⟨rfl, rfl⟩ ⟨rfl, rfl⟩, notices⟩
  · exact h

theorem PortState.elapse_ok {d : Nat} (h : ps.ok por = true) : (ps.elapse d).ok por = true := h

theorem PortState.reserve_ok {e : Nat} {tag : Byte} {kind : Nat} {rs : List (List Byte)}
    (h : ps.ok false = true) (free : ps.freeEntry = some e) (fewer : rs.length ≤ 4) :
    (ps.reserve e tag kind rs).ok false = true := by
  obtain ⟨-, -, replies, notices⟩ := PortState.ok_iff.1 h
  have sound := replies.setQuiet (y := .reserved tag kind) (PortState.freeEntry_free free)
    ⟨rfl, rfl⟩ ⟨rfl, rfl⟩
  exact PortState.ok_iff.2
    ⟨fewer, rfl, ⟨sound.length, sound.nodup, sound.order, sound.line⟩, notices⟩

theorem PortState.subscribe_ok {set : Word16} (h : ps.ok por = true) :
    (ps.subscribe set).ok por = true := by
  obtain ⟨requests, rdy, replies, notices⟩ := PortState.ok_iff.1 h
  obtain ⟨length, -, latest⟩ := (noticesOk_iff ps).1 notices
  have sub := List.filter_sublist (p := fun n : Notice => subscribed set n.cls) (l := ps.notices)
  refine PortState.ok_iff.2 ⟨requests, rdy,
    ⟨replies.length, replies.nodup, replies.order, replies.line⟩, (noticesOk_iff _).2 ⟨?_, ?_, ?_⟩⟩
  · exact sub.length_le.trans length
  · intro c hc
    obtain ⟨n, hn, rfl⟩ := List.mem_map.1 hc
    exact (List.mem_filter.1 hn).2
  · exact latest.sublist ((sub.map _).filter _)

/-! ### What the lines do keeps a port within its bounds -/

theorem PortState.accept_ok {body : List Byte} (h : ps.ok false = true) :
    (ps.accept body).ok false = true := by
  unfold PortState.accept
  split
  · next room =>
    obtain ⟨-, -, replies, notices⟩ := PortState.ok_iff.1 h
    refine PortState.ok_iff.2 ⟨?_, rfl,
      ⟨replies.length, replies.nodup, replies.order, replies.line⟩, notices⟩
    simp only [PortState.setRequests, List.length_append, List.length_singleton]
    omega
  · exact h

theorem scan_ok {expired : Bool} (fuel : Nat) :
    ∀ {ps : PortState} {bytes : List RxByte}, ps.ok false = true →
      (scan expired fuel ps bytes).ok false = true := by
  induction fuel with
  | zero => exact fun h => h
  | succ fuel ih =>
    intro ps bytes h
    have accepted : ∀ body, (ps.accept body).ok false = true := fun body => PortState.accept_ok h
    unfold scan
    split
    · split
      · split
        · exact ih h
        · exact h
      · exact h
    · split
      · exact ih h
      · exact h
    · next body rest _ =>
      split
      · exact ih (accepted body)
      · exact accepted body

theorem PortState.receive_ok {b : Byte} {e : Bool} (h : ps.ok false = true) :
    (ps.receive b e).ok false = true := by
  unfold PortState.receive
  split
  · split <;> exact h
  · exact scan_ok _ h

theorem PortState.sendReply_ok {e : Nat} (h : ps.ok por = true) (idle : ps.tx = .idle) :
    (ps.sendReply e).ok por = true := by
  obtain ⟨requests, rdy, replies, notices⟩ := PortState.ok_iff.1 h
  unfold PortState.sendReply
  split
  · next r at_e =>
    have sound := replies.setSending (y := .sending r) at_e ⟨rfl, rfl⟩ idle ps.badFrame ps.overrun
    exact PortState.ok_iff.2
      ⟨requests, rdy, ⟨sound.length, sound.nodup, sound.order, sound.line⟩, notices⟩
  · exact h

theorem PortState.sendNotice_ok (h : ps.ok por = true) (idle : ps.tx = .idle) :
    ps.sendNotice.ok por = true := by
  obtain ⟨requests, rdy, replies, notices⟩ := PortState.ok_iff.1 h
  unfold PortState.sendNotice
  split
  · exact h
  · next n ns queue =>
    obtain ⟨length, classes, latest⟩ := (noticesOk_iff ps).1 notices
    have sub : ns.Sublist ps.notices := by
      rw [queue]
      exact List.sublist_cons_self n ns
    refine PortState.ok_iff.2 ⟨requests, rdy,
      ⟨replies.length, replies.nodup, replies.order, fun i => ?_⟩, (noticesOk_iff _).2 ⟨?_, ?_, ?_⟩⟩
    · rw [← replies.line, idle]
      rfl
    · exact sub.length_le.trans length
    · exact fun c hc => classes c ((sub.map _).subset hc)
    · exact latest.sublist ((sub.map _).filter _)

theorem PortState.endMessage_ok (h : ps.ok por = true) : ps.endMessage.ok por = true := by
  obtain ⟨requests, rdy, replies, notices⟩ := PortState.ok_iff.1 h
  unfold PortState.endMessage
  split
  · exact h
  · next line => exact PortState.ok_iff.2 ⟨requests, rdy, replies.setSent line, notices⟩
  · next line =>
    refine PortState.ok_iff.2 ⟨requests, rdy,
      ⟨replies.length, replies.nodup, replies.order, fun i => ?_⟩, notices⟩
    rw [← replies.line, line]
    rfl

end

theorem PortState.fresh_ok : PortState.fresh.ok false = true := by decide

theorem PortState.held_ok : PortState.held.ok true = true := by decide

/-! ### All three ports -/

/-- Every port is within its bounds. -/
def Pif.ok (por : Bool) (f : Pif) : Prop := ∀ p, (f.port p).ok por = true

theorem portsOk_iff (s : State) : s.portsOk = true ↔ s.pif.ok s.por := by
  simp only [State.portsOk, Bool.and_eq_true]
  constructor
  · rintro ⟨⟨h0, h1⟩, h2⟩ p
    cases p
    · exact h0
    · exact h1
    · exact h2
  · exact fun h => ⟨⟨h .p0, h .p1⟩, h .p2⟩

theorem Pif.setPort_ok {por : Bool} {f : Pif} {p : Port} {x : PortState} (h : f.ok por)
    (hx : x.ok por = true) : (f.setPort p x).ok por := by
  intro p'
  by_cases same : p' = p
  · subst same
    rwa [Pif.port_setPort]
  · rw [Pif.port_setPort_ne f x same]
    exact h p'

theorem Pif.Serves.ok {por : Bool} {f g : Pif} (h : f.Serves g) (hf : f.ok por) : g.ok por := by
  refine h.keeps hf (fun f n hf p => ?_) (fun f t st x hf => ?_) (fun f d hf p => ?_)
  · rw [Pif.raise_port]
    exact PortState.notify_ok (hf p)
  · exact Pif.setPort_ok hf (PortState.fill_ok (hf _))
  · have := hf p
    cases p <;> exact PortState.elapse_ok this

theorem State.Evolves.portsOk {o s : State} (h : o.Evolves s) (ho : o.portsOk = true) :
    s.portsOk = true := by
  rw [portsOk_iff, h.2.1]
  exact h.1.ok ((portsOk_iff o).1 ho)

theorem setPort_portsOk {s : State} {p : Port} {x : PortState} (h : s.portsOk = true)
    (hx : x.ok s.por = true) : (s.setPort p x).portsOk = true :=
  (portsOk_iff _).2 (Pif.setPort_ok ((portsOk_iff s).1 h) hx)

theorem port_ok {s : State} (h : s.portsOk = true) (p : Port) : (s.port p).ok s.por = true :=
  (portsOk_iff s).1 h p

/-! ### Takes and lines -/

theorem afterTake_length_le {tag : Byte} {q : Request} {bs rs : List (List Byte)}
    (h : afterTake tag q bs = some rs) : rs.length ≤ bs.length := by
  unfold afterTake at h
  split at h
  · cases h
    exact Nat.le_refl _
  · split at h
    · cases h
      exact Nat.le_succ _
    · cases h

theorem afterTakeBad_length_le {body : List Byte} {bs rs : List (List Byte)}
    (h : afterTakeBad body bs = some rs) : rs.length ≤ bs.length := by
  unfold afterTakeBad at h
  split at h
  · cases h
    exact Nat.le_refl _
  · split at h
    · cases h
      exact Nat.le_succ _
    · cases h

theorem reserve_portsOk {s : State} {p : Port} {e kind : Nat} {tag : Byte} {rs : List (List Byte)}
    (h : s.portsOk = true) (free : s.por = false) (entry : (s.port p).freeEntry = some e)
    (fewer : rs.length ≤ (s.port p).requests.length) :
    (s.setPort p ((s.port p).reserve e tag kind rs)).portsOk = true := by
  have ok := port_ok h p
  rw [free] at ok
  refine setPort_portsOk h ?_
  rw [free]
  exact PortState.reserve_ok ok entry (fewer.trans (PortState.ok_iff.1 ok).1)

theorem owner_portsOk {s : State} (tag : Byte) (q : Request) (t : Ticket) (h : s.portsOk = true) :
    (q.owner tag t s).portsOk = true := by
  by_cases isSubscribe : ∃ r, q = .subscribe r
  · obtain ⟨r, rfl⟩ := isSubscribe
    show (ownSubscribe r t s).portsOk = true
    unfold ownSubscribe
    split
    · exact (State.Evolves.refl s).answer.portsOk h
    · exact (State.Evolves.refl _).answer.portsOk
        (setPort_portsOk h (PortState.subscribe_ok (port_ok h _)))
  · by_cases isRestart : q = .restart
    · subst isRestart
      exact ((State.Evolves.refl s).answer (t := t) (st := .done)
        (f := .restartCount (s.pif.restartCount + 1))).portsOk h
    · exact (State.Evolves.owner (.refl s) (fun r hr => isSubscribe ⟨r, hr⟩) isRestart).portsOk h

theorem takeRequest_portsOk {s : State} (p : Port) (tag : Byte) (q : Request) (h : s.portsOk = true) :
    (takeRequest p tag q (q.owner tag) s).portsOk = true := by
  obtain held | ⟨rs, e, free, -, hrs, entry, taken⟩ := takeRequest_cases p tag q (q.owner tag) s
  · rwa [held]
  · rw [taken]
    exact owner_portsOk tag q _ (reserve_portsOk h free entry (afterTake_length_le hrs))

theorem takeBad_portsOk {s : State} (p : Port) (body : List Byte) (h : s.portsOk = true) :
    (takeBad p body s).portsOk = true := by
  obtain held | ⟨tag, kind, item, rs, e, free, -, -, hrs, entry, taken⟩ := takeBad_cases p body s
  · rwa [held]
  · rw [taken]
    exact (State.Evolves.refl _).answer.portsOk
      (reserve_portsOk h free entry (afterTakeBad_length_le hrs))

theorem LineEvent.portsOk {f : State → State} (e : LineEvent f) {s : State} (free : s.por = false)
    (h : s.portsOk = true) : (f s).portsOk = true := by
  have ok : ∀ {u : State}, u.por = false → u.portsOk = true → ∀ p, (u.port p).ok false = true :=
    fun {u} hu hp p => hu ▸ port_ok hp p
  cases e with
  | receive p b fe =>
    refine setPort_portsOk h ?_
    rw [free]
    exact PortState.receive_ok (ok free h p)
  | rxTimeout p =>
    unfold State.rxTimeout
    split
    · exact h
    · have later : (s.elapse (1001 - (s.port p).rx.since)).portsOk = true :=
        (State.Evolves.refl s).elapse.portsOk h
      refine setPort_portsOk later ?_
      rw [State.elapse_por, free]
      have portOk := port_ok later p
      rw [State.elapse_por, free] at portOk
      exact scan_ok _ portOk
  | replySendStart p =>
    unfold State.replySendStart
    split
    · next idle =>
      split
      · exact setPort_portsOk h (PortState.sendReply_ok (port_ok h p) idle)
      · exact h
    · exact h
  | noticeSendStart p =>
    unfold State.noticeSendStart
    split
    · next start =>
      exact setPort_portsOk h (PortState.sendNotice_ok (port_ok h p) start.1)
    · exact h
  | txMessageEnd p => exact setPort_portsOk h (PortState.endMessage_ok (port_ok h p))

theorem survives_portsOk : Survives (fun s => s.portsOk = true) where
  queue _ _ _ h := h
  request _ p tag q h := takeRequest_portsOk p tag q h
  bad _ p body h := takeBad_portsOk p body h
  block s _ e _ h := (State.Evolves.block e (.refl s)).portsOk h
  line _ _ e free h := e.portsOk free h
  restartApply s free h := by
    unfold State.restartApply
    split
    · rw [portsOk_iff]
      show Pif.ok s.por _
      rw [free]
      intro p
      cases p <;> exact PortState.fresh_ok
    · exact h
  powerOnAssert s _ := by
    rw [portsOk_iff]
    intro p
    cases p <;> exact PortState.held_ok
  powerOnRelease s h := by
    unfold State.powerOnRelease
    split
    · rw [portsOk_iff]
      intro p
      cases p <;> exact PortState.fresh_ok
    · exact h

end Sys2Proof.Machine

namespace Sys2Proof
open Machine

/-- Settles O57: the blocks only serve the ports (`State.Evolves`), and each change of a reply entry, of
the notice queue and of the request queue keeps the bounds of its port. -/
theorem stepKeepsThePorts : Obligations.StepKeepsThePorts :=
  fun _ _ h stepped => survives_portsOk.step h stepped

end Sys2Proof

/-!
The step, the queue of commands and the reset input (R200).
-/
namespace Sys2Proof
open Machine

/-- Settles O1. -/
theorem stepRunsFrontCommand : Obligations.StepRunsFrontCommand := fun _ _ => rfl

/-- Settles O2: every command is of a kind (`exec_kind`), and no kind touches the queue of commands. -/
theorem everyCommandAnswersNextState : Obligations.EveryCommandAnswersNextState := fun c s =>
  let ⟨t, answered, kind⟩ := exec_kind c s
  ⟨t, answered, kind.pending_eq⟩

/-- Settles O3: takes and events test the reset input first. -/
theorem resetInputHoldsThePart : Obligations.ResetInputHoldsThePart := by
  intro c s held notAssert notRelease
  obtain ⟨t, answered, kind⟩ := exec_kind c s
  rw [answered]
  congr
  cases kind with
  | request p tag q => exact takeRequest_held (.inl held) p tag q _
  | bad p body => simp [takeBad, held]
  | block _ _ => exact unlessReset_of_held held _
  | line _ _ => exact unlessReset_of_held held _
  | messageEnd p => exact unlessReset_of_held held _
  | restartApply => exact unlessReset_of_held held _
  | powerOnAssert => exact absurd rfl notAssert
  | powerOnRelease => exact absurd rfl notRelease

theorem Machine.getD_replicate_none {α : Type} (m n : Nat) :
    (List.replicate m (none : Option α)).getD n none = none := by
  rw [List.getD_eq_getElem?_getD, List.getElem?_replicate]
  split <;> rfl

/-- Beyond slot 0 a shape library after power-on holds nothing. -/
theorem Machine.Lib.powerOn_unloaded {n : Nat} (hn : 1 ≤ n) :
    Lib.powerOn.curve n = none ∧ Lib.powerOn.impulse n = none := by
  have nonzero : n ≠ 0 := by omega
  exact ⟨(if_neg nonzero).trans (getD_replicate_none 7 _),
    (if_neg nonzero).trans (getD_replicate_none 3 _)⟩

/-- Settles O4: both states are written out, and every item is read off. -/
theorem powerOnLeavesTheSpecValues : Obligations.PowerOnLeavesTheSpecValues := by
  refine ⟨fun s => ⟨_, rfl, rfl, rfl, rfl, rfl, rfl, rfl, rfl⟩, fun s held => ?_⟩
  refine ⟨{ State.reset with freeCtr := s.freeCtr, pending := s.pending }, ?_, rfl, rfl, ?_, ?_⟩
  · show Host.Outcome.next s.powerOnRelease = _
    rw [State.powerOnRelease, if_pos held]
  · intro p
    cases p <;> exact ⟨rfl, rfl, rfl, rfl, rfl, rfl, rfl, rfl, rfl⟩
  · refine ⟨rfl, rfl, rfl, rfl, rfl, rfl, rfl, rfl, rfl, rfl, rfl, rfl, rfl, rfl, rfl, rfl, rfl, rfl,
      rfl, fun n hn => Lib.powerOn_unloaded hn, rfl, rfl, ?_⟩
    repeat' constructor

/-- Settles O56: the four invariants of one state, computed. -/
theorem resetMeetsTheInvariants : Obligations.ResetMeetsTheInvariants := by
  unfold Obligations.ResetMeetsTheInvariants
  refine ⟨by decide, by decide, by decide, by decide +kernel, reset_mem_wf⟩

end Sys2Proof

/-!
The ranges of the blocks' registers, block by block (R24, R73, R84, R116, R134, R182).

Each block's test is read once as a proposition (`Tgn.ok_iff` and the like); each operation of the
block keeps it.
-/
namespace Sys2Proof.Machine

theorem within_iff {lo hi v : Nat} : within lo hi v = true ↔ lo ≤ v ∧ v ≤ hi := by
  simp [within]

theorem clampTo_range {lo hi v : Int} (h : lo ≤ hi) : lo ≤ clampTo lo hi v ∧ clampTo lo hi v ≤ hi := by
  unfold clampTo
  split
  · omega
  · split <;> omega

theorem clampNat_within {lo hi : Nat} (h : lo ≤ hi) (v : Int) :
    lo ≤ clampNat lo hi v ∧ clampNat lo hi v ≤ hi := by
  obtain ⟨low, high⟩ := clampTo_range (v := v) (Int.ofNat_le.2 h)
  unfold clampNat
  omega

theorem optSetting_within {lo hi now : Nat} (h : lo ≤ hi) (v : Option Int) (hnow : lo ≤ now ∧ now ≤ hi) :
    lo ≤ optSetting lo hi v now ∧ optSetting lo hi v now ≤ hi := by
  cases v with
  | none => exact hnow
  | some v => exact clampNat_within h v

/-! ### The tempo generator (R116 to R127) -/

/-- A beat length lies in R116's range. -/
def BeatRange (v : Nat) : Prop := 12000 ≤ v ∧ v ≤ 144000

theorem Tgn.ok_iff (t : Tgn) : t.ok = true ↔
    BeatRange t.period ∧ BeatRange t.inForce ∧ t.counter ≤ t.inForce ∧
    (t.taps.length ≤ 4 ∧ (∀ x ∈ t.taps, BeatRange x) ∧
      (t.source = .tap ∨ t.taps = [] ∧ t.tapStamp = none)) ∧
    ((1 ≤ t.n ∧ t.n ≤ 96) ∧ t.pulseCount < t.n) ∧ t.age ≤ 288000 ∧
    (t.pulse.isSome = true ↔ t.source = .pulse) := by
  have agree : (t.pulse.isSome == decide (t.source = .pulse)) = true ↔
      (t.pulse.isSome = true ↔ t.source = .pulse) := by
    rw [beq_iff_eq, Bool.eq_iff_iff, decide_eq_true_eq]
  simp only [Tgn.ok, Bool.and_eq_true, agree]
  simp [BeatRange, within, and_assoc]

namespace Tgn
variable {t : Tgn}

theorem countFrame_ok (h : t.ok = true) : t.countFrame.ok = true := by
  obtain ⟨period, inForce, counter, taps, pulses, -, source⟩ := (ok_iff t).1 h
  refine (ok_iff _).2 ⟨period, inForce, ?_, taps, pulses, Nat.min_le_left _ _, source⟩
  exact (Nat.sub_le _ _).trans counter

theorem beat_ok (h : t.ok = true) : t.beat.ok = true := by
  obtain ⟨period, -, -, taps, pulses, -, source⟩ := (ok_iff t).1 h
  exact (ok_iff _).2 ⟨period, period, Nat.le_refl _, taps, pulses, Nat.zero_le _, source⟩

theorem emptyTaps_ok (h : t.ok = true) : t.emptyTaps.ok = true := by
  obtain ⟨period, inForce, counter, -, pulses, age, source⟩ := (ok_iff t).1 h
  exact (ok_iff _).2 ⟨period, inForce, counter,
    ⟨Nat.zero_le _, nofun, .inr ⟨rfl, rfl⟩⟩, pulses, age, source⟩

theorem emptyTapsInTap_ok (h : t.ok = true) : t.emptyTapsInTap.ok = true := by
  unfold emptyTapsInTap
  split
  · exact emptyTaps_ok h
  · exact h

theorem setPeriod_ok (h : t.ok = true) {v : Nat} (hv : BeatRange v) :
    ({ t with period := v } : Tgn).ok = true := by
  obtain ⟨-, rest⟩ := (ok_iff t).1 h
  exact (ok_iff _).2 ⟨hv, rest⟩

theorem lampOff_ok (h : t.ok = true) : ({ t with lamp := false } : Tgn).ok = true :=
  (ok_iff _).2 ((ok_iff t).1 h)

/-- Under PULSE the pulse state changes with an emptied count. -/
theorem setPulse_ok (h : t.ok = true) (pulsed : t.pulse.isSome = true) (p : PulseState)
    (stamp : Option Word32) :
    ({ t with pulse := some p, pulseCount := 0, pulseStamp := stamp } : Tgn).ok = true := by
  obtain ⟨period, inForce, counter, taps, ⟨n, -⟩, age, source⟩ := (ok_iff t).1 h
  exact (ok_iff _).2 ⟨period, inForce, counter, taps, ⟨n, n.1⟩, age, by simpa [pulsed] using source⟩

/-- One more counted edge, below the count that makes a beat. -/
theorem countEdge_ok (h : t.ok = true) (below : t.pulseCount + 1 < t.n) :
    ({ t with pulseCount := t.pulseCount + 1 } : Tgn).ok = true := by
  obtain ⟨period, inForce, counter, taps, ⟨n, -⟩, age, source⟩ := (ok_iff t).1 h
  exact (ok_iff _).2 ⟨period, inForce, counter, taps, ⟨n, below⟩, age, source⟩

/-- The registers of a pulse beat (R126). -/
theorem measured_ok (h : t.ok = true) {v : Nat} (hv : BeatRange v) (stamp : Option Word32) :
    ({ t with pulseCount := 0, period := v, pulseStamp := stamp } : Tgn).ok = true := by
  obtain ⟨-, inForce, counter, taps, ⟨n, -⟩, age, source⟩ := (ok_iff t).1 h
  exact (ok_iff _).2 ⟨hv, inForce, counter, taps, ⟨n, n.1⟩, age, source⟩

theorem select_ok (h : t.ok = true) (src : TempoSource) (edge : Option PulseEdge) (n : Option Int) :
    (t.select src edge n).ok = true := by
  obtain ⟨period, inForce, counter, -, ⟨hn, -⟩, age, -⟩ := (ok_iff t).1 h
  have count : 1 ≤ (t.select src edge n).n ∧ (t.select src edge n).n ≤ 96 := by
    cases n with
    | none => exact hn
    | some v => exact clampNat_within (by decide) v
  refine (ok_iff _).2 ⟨period, inForce, counter,
    ⟨Nat.zero_le _, nofun, .inr ⟨rfl, rfl⟩⟩, ⟨count, count.1⟩, age, ?_⟩
  show (if src = TempoSource.pulse then some PulseState.waiting else none).isSome = true ↔
    src = TempoSource.pulse
  split
  · next isPulse => simp [isPulse]
  · next other => simp [other]

theorem pushTap_length (xs : List Nat) (i : Nat) : (pushTap xs i).length ≤ 4 := by
  simp only [pushTap, List.length_drop, List.length_append, List.length_singleton]
  omega

theorem mem_pushTap {xs : List Nat} {i x : Nat} (h : x ∈ pushTap xs i) : x ∈ xs ∨ x = i := by
  simpa using List.mem_of_mem_drop h

/-- The rounded mean of values in a range is in the range. -/
theorem meanInterval_range {xs : List Nat} {lo hi : Nat} (some : xs ≠ [])
    (h : ∀ x ∈ xs, lo ≤ x ∧ x ≤ hi) : lo ≤ meanInterval xs ∧ meanInterval xs ≤ hi := by
  have low := List.card_nsmul_le_sum xs lo fun x hx => (h x hx).1
  have high := List.sum_le_card_nsmul xs hi fun x hx => (h x hx).2
  have pos : 0 < xs.length := List.length_pos_iff.2 some
  rw [smul_eq_mul] at low high
  unfold meanInterval
  constructor
  · rw [Nat.le_div_iff_mul_le (by omega)]
    calc lo * (2 * xs.length) = 2 * (xs.length * lo) := by ring
      _ ≤ 2 * xs.sum + xs.length := by omega
  · rw [← Nat.lt_succ_iff, Nat.div_lt_iff_lt_mul (by omega)]
    calc 2 * xs.sum + xs.length < 2 * (xs.length * hi) + 2 * xs.length := by omega
      _ = (hi + 1) * (2 * xs.length) := by ring

theorem tap_ok (h : t.ok = true) (tapping : t.source = .tap) : t.tap.1.ok = true := by
  obtain ⟨period, inForce, counter, ⟨-, taps, -⟩, pulses, age, source⟩ := (ok_iff t).1 h
  unfold Tgn.tap
  split
  · exact (ok_iff _).2
      ⟨period, inForce, counter, ⟨Nat.zero_le _, nofun, .inl tapping⟩, pulses, age, source⟩
  · dsimp only
    split
    · exact (ok_iff _).2
        ⟨period, inForce, counter, ⟨Nat.zero_le _, nofun, .inl tapping⟩, pulses, age, source⟩
    · next last _ valid =>
      have each : ∀ x ∈ pushTap t.taps (t.frameCount - last).toNat, BeatRange x := by
        intro x hx
        rcases mem_pushTap hx with old | rfl
        · exact taps x old
        · unfold BeatRange
          omega
      have nonempty : pushTap t.taps (t.frameCount - last).toNat ≠ [] := by
        have : 0 < (pushTap t.taps (t.frameCount - last).toNat).length := by
          simp only [pushTap, List.length_drop, List.length_append, List.length_singleton]
          omega
        exact List.length_pos_iff.1 this
      exact (ok_iff _).2 ⟨meanInterval_range nonempty each, inForce, counter,
        ⟨pushTap_length _ _, each, .inl tapping⟩, pulses, age, source⟩

end Tgn

/-! ### The tuner (R134 to R150) -/

theorem Tun.ok_iff (t : Tun) : t.ok = true ↔
    (4000 ≤ t.reference ∧ t.reference ≤ 4800) ∧ (t.k = 4 ∨ t.k = 8 ∨ t.k = 16) ∧
    (64 ≤ t.floor ∧ t.floor ≤ 1048576) ∧
    (t.timebase < 65536 ∧ t.timebase % 64 = 0 ∧ t.wraps ≤ 3) ∧
    (t.series.length < t.k ∧ ∀ p ∈ t.series, 1536 ≤ p ∧ p ≤ 131072) ∧
    t.sinceReading ≤ 300 ∧ t.table = noteTable t.reference ∧
    (t.returned = true → t.prevSample = none) := by
  have implication : ∀ b c : Bool, ((!b || c) = true ↔ (b = true → c = true)) := by decide
  simp only [Tun.ok, Bool.and_eq_true, Bool.or_eq_true, within_iff, decide_eq_true_eq,
    List.all_eq_true, implication, Option.isNone_iff_eq_none, and_assoc, or_assoc]

namespace Tun
variable {t : Tun}

theorem k_pos (h : t.ok = true) : 0 < t.k := by
  obtain ⟨-, k, -⟩ := (ok_iff t).1 h
  omega

theorem periodValid_range {p : Int} (h : periodValid p = true) : 1536 ≤ p.toNat ∧ p.toNat ≤ 131072 := by
  simp only [periodValid, Bool.and_eq_true, decide_eq_true_eq] at h
  omega

/-- A period adds one to the series at most, and only a valid one (R138, R139). -/
theorem seriesAfter_range {xs : List Nat} {p : Int} (h : ∀ q ∈ xs, 1536 ≤ q ∧ q ≤ 131072) :
    (seriesAfter xs p).length ≤ xs.length + 1 ∧
      (∀ q ∈ seriesAfter xs p, 1536 ≤ q ∧ q ≤ 131072) ∧
      (periodValid p = false → seriesAfter xs p = []) := by
  unfold seriesAfter
  split
  · next valid =>
    have range := periodValid_range valid
    split
    · exact ⟨by simp, by simpa using range, by simp [valid]⟩
    · split
      · exact ⟨by simp, by simpa using range, by simp [valid]⟩
      · refine ⟨by simp, ?_, by simp [valid]⟩
        intro q hq
        rcases List.mem_append.1 hq with old | new
        · exact h q old
        · obtain rfl : q = p.toNat := by simpa using new
          exact range
  · exact ⟨Nat.zero_le _, nofun, fun _ => rfl⟩

/-- After a capture the series is in range, and is full only when the capture completes it. -/
theorem captured_series (h : t.ok = true) (x : Int) :
    (∀ q ∈ (t.captured x).series, 1536 ≤ q ∧ q ≤ 131072) ∧
      (t.completes x = true ∨ (t.captured x).series.length < t.k) := by
  obtain ⟨-, -, -, -, ⟨short, series⟩, -⟩ := (ok_iff t).1 h
  have k := k_pos h
  cases hp : t.period x with
  | none =>
    have same : (t.captured x).series = t.series := by simp [captured, hp]
    rw [same]
    exact ⟨series, .inr short⟩
  | some p =>
    have after : (t.captured x).series = seriesAfter t.series p := by simp [captured, hp]
    obtain ⟨length, range, invalid⟩ := seriesAfter_range (p := p) series
    rw [completes, hp, after]
    refine ⟨range, ?_⟩
    cases valid : periodValid p with
    | true =>
      rcases Nat.lt_or_ge (seriesAfter t.series p).length t.k with lt | ge
      · exact .inr lt
      · exact .inl (by simp [valid, show (seriesAfter t.series p).length = t.k by omega])
    | false =>
      rw [invalid valid]
      exact .inr k

theorem crossing_ok (h : t.ok = true) (x : Int) : (t.crossing x).ok = true := by
  obtain ⟨reference, k, floor, ticks, -, since, table, returned⟩ := (ok_iff t).1 h
  obtain ⟨range, full⟩ := captured_series h x
  have pos := k_pos h
  have wraps : (0 : Nat) ≤ 3 := by decide
  unfold crossing
  split
  · split
    · exact (ok_iff _).2 ⟨reference, k, floor, ⟨ticks.1, ticks.2.1, wraps⟩, ⟨pos, nofun⟩,
        Nat.zero_le _, table, returned⟩
    · next incomplete =>
      exact (ok_iff _).2 ⟨reference, k, floor, ⟨ticks.1, ticks.2.1, wraps⟩,
        ⟨full.resolve_left incomplete, range⟩, since, table, returned⟩
  · exact h

theorem arming_ok (h : t.ok = true) (x : Int) : (t.arming x).ok = true := by
  unfold arming
  split
  · exact (ok_iff _).2 ((ok_iff t).1 h)
  · exact h

theorem advance_ok (h : t.ok = true) (carried : Bool) : (t.advance carried).ok = true := by
  obtain ⟨reference, k, floor, ⟨low, mult, wraps⟩, rest⟩ := (ok_iff t).1 h
  unfold advance
  split
  · next room =>
    exact (ok_iff _).2 ⟨reference, k, floor, ⟨by dsimp only; omega, by dsimp only; omega, wraps⟩, rest⟩
  · refine (ok_iff _).2 ⟨reference, k, floor, ⟨Nat.succ_pos _, Nat.zero_mod 64, ?_⟩, rest⟩
    dsimp only
    split
    · exact wraps
    · exact Nat.min_le_left _ _

theorem peak_ok (h : t.ok = true) (x : Int) : (t.peak x).ok = true := by
  unfold peak
  split
  · exact (ok_iff _).2 ((ok_iff t).1 h)
  · exact h

/-- The previous sample of a frame that follows no gap. -/
theorem nextPrev_ok (h : t.ok = true) (here : t.returned = false) (x : Int) :
    ({ t with prevSample := some x } : Tun).ok = true := by
  obtain ⟨reference, k, floor, ticks, series, since, table, -⟩ := (ok_iff t).1 h
  exact (ok_iff _).2 ⟨reference, k, floor, ticks, series, since, table,
    fun returned => absurd returned (by simp [here])⟩

/-- The first frame after a gap only sets the previous sample (R150). -/
theorem setPrev_ok (h : t.ok = true) (x : Int) :
    ({ t with prevSample := some x, returned := false } : Tun).ok = true := by
  obtain ⟨reference, k, floor, ticks, series, since, table, -⟩ := (ok_iff t).1 h
  exact (ok_iff _).2 ⟨reference, k, floor, ticks, series, since, table, nofun⟩

theorem measure_returned (x : Int) : (t.measure x).returned = t.returned := by
  have advance : ∀ (u : Tun) b, (u.advance b).returned = u.returned := by
    intro u b
    unfold Tun.advance
    split <;> rfl
  have arming : ∀ u : Tun, (u.arming x).returned = u.returned := by
    intro u
    unfold Tun.arming
    split <;> rfl
  have crossing : (t.crossing x).returned = t.returned := by
    unfold Tun.crossing
    split
    · split <;> rfl
    · rfl
  have peak : ∀ u : Tun, (u.peak x).returned = u.returned := by
    intro u
    unfold Tun.peak
    split <;> rfl
  rw [measure, peak, advance, arming, crossing]

theorem frame_ok (h : t.ok = true) (x : Int) : (t.frame x).ok = true := by
  unfold frame
  split
  · exact setPrev_ok h x
  · next here =>
    have measured := peak_ok (advance_ok (arming_ok (crossing_ok h x) x) (t.fires x && t.carries x)) x
    exact nextPrev_ok measured ((measure_returned x).trans (by simpa using here)) x

theorem blockTests_ok (h : t.ok = true) : t.blockTests.ok = true := by
  obtain ⟨reference, k, floor, ticks, series, -, table, returned⟩ := (ok_iff t).1 h
  have pos := k_pos h
  unfold blockTests
  split
  · exact h
  · refine (ok_iff _).2 ⟨reference, k, floor, ticks, ?_, Nat.min_le_left _ _, table, returned⟩
    dsimp only
    split
    · exact ⟨pos, nofun⟩
    · exact series

theorem linkDown_ok (h : t.ok = true) : t.linkDown.ok = true := by
  obtain ⟨reference, k, floor, ticks, -, since, table, -⟩ := (ok_iff t).1 h
  have pos := k_pos h
  exact (ok_iff _).2 ⟨reference, k, floor, ticks, ⟨pos, nofun⟩, since, table, fun _ => rfl⟩

theorem setState_ok (h : t.ok = true) (st : TunerState) : ({ t with state := st } : Tun).ok = true :=
  (ok_iff _).2 ((ok_iff t).1 h)

theorem setMode_ok (h : t.ok = true) (m : TunerMode) : (t.setMode m).ok = true := by
  obtain ⟨reference, k, floor, ticks, series, since, table, returned⟩ := (ok_iff t).1 h
  have pos := k_pos h
  unfold setMode
  split
  · exact (ok_iff _).2 ⟨reference, k, floor, ticks, ⟨pos, nofun⟩, Nat.zero_le _, table, returned⟩
  · split
    · exact (ok_iff _).2 ⟨reference, k, floor, ticks, ⟨pos, nofun⟩, since, table, returned⟩
    · exact (ok_iff _).2 ⟨reference, k, floor, ticks, series, since, table, returned⟩

theorem setReference_ok (h : t.ok = true) (v : Option Int) : (t.setReference v).ok = true := by
  obtain ⟨-, k, floor, ticks, series, since, -, returned⟩ := (ok_iff t).1 h
  unfold setReference
  split
  · exact h
  · dsimp only
    split
    · exact h
    · exact (ok_iff _).2
        ⟨clampNat_within (by decide) _, k, floor, ticks, series, since, rfl, returned⟩

theorem setK_ok (h : t.ok = true) {k : Option Nat} (hk : ∀ n ∈ k, n = 4 ∨ n = 8 ∨ n = 16) :
    (t.setK k).ok = true := by
  obtain ⟨reference, -, floor, ticks, -, since, table, returned⟩ := (ok_iff t).1 h
  unfold setK
  split
  · exact h
  · next n =>
    split
    · exact h
    · have count := hk n rfl
      exact (ok_iff _).2
        ⟨reference, count, floor, ticks, ⟨by show 0 < n; omega, nofun⟩, since, table, returned⟩

theorem setFloor_ok (h : t.ok = true) (v : Option Int) : (t.setFloor v).ok = true := by
  obtain ⟨reference, k, -, rest⟩ := (ok_iff t).1 h
  unfold setFloor
  split
  · exact h
  · exact (ok_iff _).2 ⟨reference, k, clampNat_within (by decide) _, rest⟩

theorem averagingOf_values {v : Int} {n : Nat} (h : averagingOf v = some n) :
    n = 4 ∨ n = 8 ∨ n = 16 := by
  unfold averagingOf at h
  split at h
  · simp_all
  · split at h
    · simp_all
    · split at h
      · simp_all
      · cases h

theorem optAveraging_values {v : Option Int} {k : Option Nat}
    (h : optChoice averagingOf v = some k) : ∀ n ∈ k, n = 4 ∨ n = 8 ∨ n = 16 := by
  cases v with
  | none =>
    obtain rfl : k = none := by simpa [optChoice] using h.symm
    exact nofun
  | some v =>
    obtain ⟨n, hn, rfl⟩ : ∃ n, averagingOf v = some n ∧ some n = k := by
      simpa [optChoice] using h
    rintro m ⟨⟩
    exact averagingOf_values hn

end Tun

/-! ### The converter command queue (R182 to R184) -/

/-- The queue's bounds with a bound on the frames that a SENT read has waited. -/
def QueueWithin (w : Nat) (q : List Access) : Prop :=
  q.length ≤ 4 ∧ (∀ a ∈ q.drop 1, a.sent = false) ∧
    ∀ a ∈ q, (a.sent = true → a.data = none ∧ a.waited ≤ w) ∧ a.index < 128

theorem Lnk.queueOk_iff (k : Lnk) : k.queueOk = true ↔ QueueWithin 8 k.queue := by
  have implication : ∀ (b : Bool) (p : Prop), ((b = false ∨ p) ↔ (b = true → p)) := by
    intro b p
    cases b <;> simp
  simp only [Lnk.queueOk, QueueWithin, Bool.and_eq_true, decide_eq_true_eq, List.all_eq_true,
    Bool.or_eq_true, Bool.not_eq_true', Option.isNone_iff_eq_none, implication, and_assoc]

namespace QueueWithin
variable {w : Nat} {q q' : List Access}

theorem mono {w' : Nat} (h : QueueWithin w q) (hw : w ≤ w') : QueueWithin w' q := by
  obtain ⟨length, rest, each⟩ := h
  refine ⟨length, rest, fun a ha => ⟨fun sent => ?_, (each a ha).2⟩⟩
  obtain ⟨data, waited⟩ := (each a ha).1 sent
  exact ⟨data, waited.trans hw⟩

theorem nil : QueueWithin w [] := ⟨Nat.zero_le _, nofun, nofun⟩

theorem sublist (h : QueueWithin w q) (sub : q'.Sublist q) : QueueWithin w q' := by
  obtain ⟨length, rest, each⟩ := h
  exact ⟨sub.length_le.trans length, fun a ha => rest a ((sub.drop 1).subset ha),
    fun a ha => each a (sub.subset ha)⟩

/-- An access that is not SENT joins the end. -/
theorem concat (h : QueueWithin w q) {a : Access} (room : q.length < 4) (unsent : a.sent = false)
    (index : a.index < 128) : QueueWithin w (q ++ [a]) := by
  obtain ⟨-, rest, each⟩ := h
  refine ⟨by simpa using room, fun b hb => ?_, fun b hb => ?_⟩
  · rw [List.drop_append] at hb
    rcases List.mem_append.1 hb with old | new
    · exact rest b old
    · obtain rfl : b = a := by simpa using List.mem_of_mem_drop new
      exact unsent
  · rcases List.mem_append.1 hb with old | new
    · exact each b old
    · obtain rfl : b = a := by simpa using new
      exact ⟨fun sent => absurd sent (by simp [unsent]), index⟩

theorem countFrame (h : QueueWithin w q) : QueueWithin (w + 1) (q.map (·.countFrame)) := by
  obtain ⟨length, rest, each⟩ := h
  have sent_eq : ∀ a : Access, a.countFrame.sent = a.sent := by
    intro a
    unfold Access.countFrame
    split
    · split <;> rfl
    · rfl
  refine ⟨by simpa using length, fun b hb => ?_, fun b hb => ?_⟩
  · rw [← List.map_drop] at hb
    obtain ⟨a, ha, rfl⟩ := List.mem_map.1 hb
    rw [sent_eq]
    exact rest a ha
  · obtain ⟨a, ha, rfl⟩ := List.mem_map.1 hb
    obtain ⟨bound, index⟩ := each a ha
    unfold Access.countFrame
    split
    · next sent =>
      obtain ⟨data, waited⟩ := bound sent
      split
      · exact ⟨fun _ => ⟨data, waited.trans (Nat.le_succ w)⟩, index⟩
      · exact ⟨fun _ => ⟨data, Nat.succ_le_succ waited⟩, index⟩
    · next unsent => exact ⟨fun sent => absurd sent unsent, index⟩

end QueueWithin

theorem Lnk.handLevel_within {w : Nat} {k : Lnk} (h : QueueWithin w k.queue) (level : Nat) :
    QueueWithin w (k.handLevel level).queue := by
  unfold Lnk.handLevel
  split
  · next room => exact h.concat room rfl (by show 64 < 128; decide)
  · exact h

theorem Lnk.dropFirst_within {w : Nat} {k : Lnk} (h : QueueWithin w k.queue) :
    QueueWithin w k.dropFirst.queue := h.sublist (List.drop_sublist 1 _)

theorem Lnk.afterCommand_within {w : Nat} {k : Lnk} (h : QueueWithin w k.queue) :
    QueueWithin w k.afterCommand.queue := by
  unfold Lnk.afterCommand
  split
  · exact h
  · next a command =>
    split
    · exact Lnk.dropFirst_within h
    · next read =>
      obtain ⟨rest, hq⟩ : ∃ rest, k.queue = a :: rest := by
        unfold Lnk.command at command
        split at command
        · cases command
        · exact List.head?_eq_some_iff.1 command
      obtain ⟨length, tail, each⟩ := h
      rw [hq] at length tail each
      simp only [hq, List.drop_one, List.tail_cons]
      refine ⟨length, tail, fun b hb => ?_⟩
      rcases List.mem_cons.1 hb with rfl | old
      · exact ⟨fun _ => ⟨by simpa using read, Nat.zero_le _⟩, (each a List.mem_cons_self).2⟩
      · exact each b (List.mem_cons_of_mem _ old)

end Sys2Proof.Machine

/-!
The records of the library and the live scene (R24, R73, R74, R84, R93).
-/
namespace Sys2Proof.Machine

/-! ### The scene controller's record -/

/-- The ranges of a switch record: its preset tempo and its fade. -/
def SwitchRange (r : SwitchRec) : Prop := (∀ v ∈ r.tempo, BeatRange v) ∧ r.fade ≤ 255

theorem Scn.ok_iff (c : Scn) : c.ok = true ↔
    (c.library.length = 128 ∧ ∀ r ∈ c.library, ∀ p ∈ r, p.ok = true) ∧ c.live.ok = true ∧
    c.safeIdx < 128 ∧ c.defaultFade ≤ 255 ∧ (∀ r ∈ c.switch, SwitchRange r) ∧
    ∀ q ∈ c.pendingRecall, recallInRange q.req = true := by
  simp only [Scn.ok, Bool.and_eq_true, decide_eq_true_eq, List.all_eq_true, Option.all_eq_true,
    within_iff, SwitchRange, BeatRange, Nat.zero_le, true_and, and_assoc, Option.mem_def]

namespace Scn
variable {c : Scn}

/-- The registers that no range is about. -/
theorem setPhase_ok (h : c.ok = true) (g : Word16) (d : Bool) (og : Option Nat) (ph : SwitchPhase)
    (l : Word16) :
    ({ c with generation := g, dirty := d, origin := og, phase := ph, latch := l } : Scn).ok = true :=
  (ok_iff _).2 ((ok_iff c).1 h)

theorem setSwitch_ok (h : c.ok = true) {w : Option SwitchRec} (hw : ∀ r ∈ w, SwitchRange r) :
    ({ c with switch := w } : Scn).ok = true := by
  obtain ⟨library, live, safe, fade, -, pending⟩ := (ok_iff c).1 h
  exact (ok_iff _).2 ⟨library, live, safe, fade, hw, pending⟩

/-- A change of the switch record that leaves its tempo and its fade alone. -/
theorem mapSwitch_ok (h : c.ok = true) (f : SwitchRec → SwitchRec)
    (tempo : ∀ r, (f r).tempo = r.tempo := by exact fun _ => rfl)
    (fade : ∀ r, (f r).fade = r.fade := by exact fun _ => rfl) :
    ({ c with switch := c.switch.map f } : Scn).ok = true := by
  obtain ⟨-, -, -, -, range, -⟩ := (ok_iff c).1 h
  refine setSwitch_ok h fun r hr => ?_
  obtain ⟨r', hr', rfl⟩ := Option.map_eq_some_iff.1 hr
  rw [SwitchRange, tempo, fade]
  exact range r' hr'

theorem setPending_ok (h : c.ok = true) {w : Option PendingRecall}
    (hw : ∀ q ∈ w, recallInRange q.req = true) :
    ({ c with pendingRecall := w } : Scn).ok = true := by
  obtain ⟨library, live, safe, fade, switch, -⟩ := (ok_iff c).1 h
  exact (ok_iff _).2 ⟨library, live, safe, fade, switch, hw⟩

theorem setLive_ok (h : c.ok = true) {p : Preset} (hp : p.ok = true) :
    ({ c with live := p } : Scn).ok = true := by
  obtain ⟨library, -, rest⟩ := (ok_iff c).1 h
  exact (ok_iff _).2 ⟨library, hp, rest⟩

theorem setLibrary_ok (h : c.ok = true) (n : Nat) {p : Option Preset} (hp : ∀ r ∈ p, r.ok = true) :
    ({ c with library := c.library.set n p } : Scn).ok = true := by
  obtain ⟨⟨length, records⟩, rest⟩ := (ok_iff c).1 h
  refine (ok_iff _).2 ⟨⟨by simpa using length, fun r hr => ?_⟩, rest⟩
  rcases List.mem_or_eq_of_mem_set hr with old | rfl
  · exact records r old
  · exact hp

theorem setOptions_ok (h : c.ok = true) {safe fade : Nat} (hsafe : safe ≤ 127) (hfade : fade ≤ 255) :
    ({ c with safeIdx := safe, defaultFade := fade } : Scn).ok = true := by
  obtain ⟨library, live, -, -, rest⟩ := (ok_iff c).1 h
  exact (ok_iff _).2 ⟨library, live, Nat.lt_succ_of_le hsafe, hfade, rest⟩

/-- A record of the library. -/
theorem library_ok (h : c.ok = true) {n : Nat} {p : Preset} (hp : c.library.getD n none = some p) :
    p.ok = true := by
  obtain ⟨⟨-, records⟩, -⟩ := (ok_iff c).1 h
  rw [List.getD_eq_getElem?_getD] at hp
  cases at_n : c.library[n]? with
  | none => simp [at_n] at hp
  | some r =>
    obtain rfl : r = some p := by simpa [at_n] using hp
    exact records _ (List.mem_of_getElem? at_n) p rfl

theorem live_ok (h : c.ok = true) : c.live.ok = true := ((ok_iff c).1 h).2.1

theorem switch_range (h : c.ok = true) {r : SwitchRec} (hr : c.switch = some r) : SwitchRange r :=
  ((ok_iff c).1 h).2.2.2.2.1 r hr

theorem pending_range (h : c.ok = true) {q : PendingRecall} (hq : c.pendingRecall = some q) :
    recallInRange q.req = true := ((ok_iff c).1 h).2.2.2.2.2 q hq

theorem setBlocksLeft_ok (h : c.ok = true) (n : Nat) : (c.setBlocksLeft n).ok = true :=
  mapSwitch_ok h _

theorem committed_ok (h : c.ok = true) {r : SwitchRec} (hr : c.switch = some r) :
    (c.committed r).ok = true := by
  have range := switch_range h hr
  unfold committed
  split
  · exact setSwitch_ok (setPhase_ok h c.generation false (some r.slot) .gapIn c.latch)
      (w := some { r with blocksLeft := r.fade, selected := false, commitDue := false })
      (by rintro _ ⟨⟩; exact range)
  · exact setSwitch_ok (setPhase_ok h c.generation false (some r.slot) .steady c.latch) nofun

end Scn

/-! ### Stage entries and records (R73 to R77) -/

theorem StageEntry.ok_iff (e : StageEntry) : e.ok = true ↔
    e.params.length = e.kind.paramCount ∧
    (∀ id < e.params.length, paramOk e.kind id (e.params.getD id 0) = true) ∧
    (e.spill = .cut ∨ e.kind.mayHold = true) ∧ syncAllowed e.kind e.sync = true := by
  simp only [StageEntry.ok, Bool.and_eq_true, Bool.or_eq_true, decide_eq_true_eq, List.all_eq_true,
    List.mem_range, and_assoc]

theorem Preset.ok_iff (r : Preset) : r.ok = true ↔
    nameOk r.name = true ∧ (1 ≤ r.chain.length ∧ r.chain.length ≤ 10) ∧ (∀ e ∈ r.chain, e.ok = true) ∧
    (r.chain.filter fun e => decide (e.kind = .loop)).length ≤ 1 ∧ chainCost r.chain ≤ 1200 ∧
    chainDemand r.chain ≤ 24 ∧ (∀ v ∈ r.tempo, BeatRange v) ∧ (∀ f ∈ r.fade, f ≤ 255) ∧
    r.level ≤ 65535 := by
  simp only [Preset.ok, Bool.and_eq_true, decide_eq_true_eq, List.all_eq_true, Option.all_eq_true,
    within_iff, BeatRange, Nat.zero_le, true_and, and_assoc, Option.mem_def]

/-- Every parameter of a kind has a range (R24). -/
theorem range_isSome (k : StageKind) : ∀ id < k.paramCount, ∃ lo hi, k.range id = some (lo, hi) ∧ lo ≤ hi := by
  cases k
  case tone =>
    intro id hid
    exact ⟨_, _, if_pos hid, by decide⟩
  all_goals
    intro id hid
    simp only [StageKind.paramCount] at hid
    interval_cases id <;> exact ⟨_, _, rfl, by decide⟩

/-- The two ends of a parameter's range stand in order (R24). -/
theorem range_le {k : StageKind} {id : Nat} {lo hi : Int} (h : k.range id = some (lo, hi)) : lo ≤ hi := by
  unfold StageKind.range at h
  split at h
  all_goals simp at h <;> omega

/-- A value clamped to its range is a value the library may hold. -/
theorem paramOk_clampTo {k : StageKind} {id : Nat} {lo hi : Int} (h : k.range id = some (lo, hi))
    (le : lo ≤ hi) (v : Int) : paramOk k id (clampTo lo hi v) = true := by
  obtain ⟨low, high⟩ := clampTo_range (v := v) le
  simp [paramOk, h, low, high]

theorem paramOk_storedValue {k : StageKind} {id : Nat} (hid : id < k.paramCount) (v : Int) :
    paramOk k id (storedValue k id v) = true := by
  obtain ⟨lo, hi, h, le⟩ := range_isSome k id hid
  simpa [storedValue, h] using paramOk_clampTo h le v

theorem storedParams_length (k : StageKind) (vs : List Int) :
    ∀ id, (storedParams k id vs).length = vs.length := by
  induction vs with
  | nil => exact fun _ => rfl
  | cons v vs ih => exact fun id => congrArg Nat.succ (ih (id + 1))

theorem storedParams_getD (k : StageKind) (vs : List Int) :
    ∀ id n, n < vs.length → (storedParams k id vs).getD n 0 = storedValue k (id + n) (vs.getD n 0) := by
  induction vs with
  | nil => exact fun _ _ h => absurd h (Nat.not_lt_zero _)
  | cons v vs ih =>
    intro id n hn
    cases n with
    | zero => rfl
    | succ n =>
      have := ih (id + 1) n (Nat.lt_of_succ_lt_succ hn)
      rwa [Nat.add_right_comm] at this

/-- An entry that passed checks 4 to 8 is one the library may hold once it is clamped (R75, R77). -/
theorem storedEntry_ok {e : EntryReq} (h : entryFault e = none) : (storedEntry e).ok = true := by
  unfold entryFault at h
  split at h
  · cases h
  · next k hk =>
    have kind : entryKind e = k := by simp [entryKind, hk]
    split at h
    · cases h
    · next count =>
      split at h
      · cases h
      · next spill =>
        split at h
        · cases h
        · next sync =>
          have count : e.params.length = k.paramCount := by simpa using count
          have spill : spillAllowed k e.spill = true := by simpa using spill
          have sync : syncAllowed k e.sync = true := by simpa using sync
          refine (StageEntry.ok_iff _).2 ⟨?_, ?_, ?_, ?_⟩
          · simp [storedEntry, storedParams_length, kind, count]
          · intro id hid
            have hid : id < e.params.length := by
              simpa [storedEntry, storedParams_length] using hid
            simp only [storedEntry, storedParams_getD _ _ _ _ hid, kind, Nat.zero_add]
            exact paramOk_storedValue (by omega) _
          · simp only [storedEntry, kind]
            by_cases hold : e.spill = 1
            · right
              simpa [spillAllowed, hold] using spill
            · left
              simp [hold]
          · simpa [storedEntry, kind] using sync

theorem firstEntryFault_none {es : List EntryReq} :
    ∀ n, firstEntryFault n es = none → ∀ e ∈ es, entryFault e = none := by
  induction es with
  | nil => exact fun _ _ => nofun
  | cons e es ih =>
    intro n h
    unfold firstEntryFault at h
    split at h
    · cases h
    · next clean =>
      rintro d hd
      rcases List.mem_cons.1 hd with rfl | old
      · exact clean
      · exact ih (n + 1) h d old

/-- The LOOP entries of a request are those of the record stored. -/
theorem loopIndices_length {es : List EntryReq} :
    ∀ n, (∀ e ∈ es, entryFault e = none) → (loopIndices n es).length =
      ((es.map storedEntry).filter fun e => decide (e.kind = .loop)).length := by
  induction es with
  | nil => exact fun _ _ => rfl
  | cons e es ih =>
    intro n h
    have rest := ih (n + 1) fun d hd => h d (List.mem_cons_of_mem _ hd)
    have kind : kindOfCode e.kind = some (storedEntry e).kind := by
      have clean := h e List.mem_cons_self
      unfold entryFault at clean
      split at clean
      · cases clean
      · next k hk => simp [storedEntry, entryKind, hk]
    unfold loopIndices
    rw [kind, List.map_cons, List.filter_cons]
    by_cases loop : (storedEntry e).kind = .loop
    · simp [loop, rest]
    · simp [loop, rest]

/-- What the nine checks of R75 leave. -/
theorem presetFault_none {r : WritePresetReq} (h : presetFault r = none) :
    (slotOf r.slot).isSome = true ∧ nameOk r.name = true ∧
    (1 ≤ r.entries.length ∧ r.entries.length ≤ 10) ∧ (∀ e ∈ r.entries, entryFault e = none) ∧
    (loopIndices 0 r.entries).length ≤ 1 := by
  unfold presetFault at h
  split at h
  · cases h
  · next slot =>
    split at h
    · cases h
    · next name =>
      split at h
      · cases h
      · next count =>
        split at h
        · cases h
        · next clean =>
          split at h
          · cases h
          · next few =>
            refine ⟨by simpa [Option.isSome_iff_ne_none] using slot, by simpa using name, by omega,
              firstEntryFault_none 0 clean, ?_⟩
            cases hl : loopIndices 0 r.entries with
            | nil => exact Nat.zero_le _
            | cons a as =>
              cases as with
              | nil => exact Nat.le_refl _
              | cons b bs => exact absurd hl (few a b bs)

/-- A request that passes every check of R75 and R76 is stored as a record of R73 and R74. -/
theorem storedPreset_ok {r : WritePresetReq} (h : presetFault r = none)
    (cost : chainCost (storedPreset r).chain ≤ 1200) (demand : chainDemand (storedPreset r).chain ≤ 24) :
    (storedPreset r).ok = true := by
  obtain ⟨-, name, count, clean, loops⟩ := presetFault_none h
  refine (Preset.ok_iff _).2 ⟨name, by simpa [storedPreset] using count, ?_, ?_, cost, demand, ?_, ?_, ?_⟩
  · intro e he
    obtain ⟨d, hd, rfl⟩ := List.mem_map.1 he
    exact storedEntry_ok (clean d hd)
  · rwa [loopIndices_length 0 clean] at loops
  · intro v hv
    obtain ⟨x, -, rfl⟩ := Option.map_eq_some_iff.1 hv
    exact clampNat_within (by decide) x
  · intro v hv
    obtain ⟨x, -, rfl⟩ := Option.map_eq_some_iff.1 hv
    exact (clampNat_within (by decide) x).2
  · exact (clampNat_within (by decide) r.level).2

theorem Preset.named_ok {r : Preset} (h : r.ok = true) {name : Option (List Byte)}
    (hn : ∀ n ∈ name, nameOk n = true) : (r.named name).ok = true := by
  obtain ⟨old, rest⟩ := (Preset.ok_iff r).1 h
  refine (Preset.ok_iff _).2 ⟨?_, rest⟩
  cases name with
  | none => exact old
  | some n => exact hn n rfl

theorem cleanScene_ok : cleanScene.ok = true := by decide

/-! ### Edits (R110, R112) -/

theorem chainCost_modify {f : StageEntry → StageEntry} (kind : ∀ e, (f e).kind = e.kind) (es : List StageEntry) :
    ∀ n, chainCost (es.modify n f) = chainCost es := by
  induction es with
  | nil => exact fun n => by cases n <;> rfl
  | cons e es ih =>
    intro n
    cases n with
    | zero => simp [chainCost, kind]
    | succ n => simp [chainCost, ih]

/-- A change of the entry at an index that leaves its kind and its need alone, and keeps it a stage entry
the library may hold. -/
theorem Preset.modify_ok {r : Preset} (h : r.ok = true) {n : Nat} {e : StageEntry} {f : StageEntry → StageEntry}
    (at_n : r.chain[n]? = some e) (kind : ∀ d, (f d).kind = d.kind) (need : (f e).need = e.need)
    (entry : (f e).ok = true) : ({ r with chain := r.chain.modify n f } : Preset).ok = true := by
  obtain ⟨name, count, entries, loops, cost, demand, rest⟩ := (Preset.ok_iff r).1 h
  have set_eq : r.chain.modify n f = r.chain.set n (f e) := by
    rw [List.modify_eq_set_getElem?, at_n]
    rfl
  have demand_eq : ∀ (es : List StageEntry) (n : Nat), es[n]? = some e →
      chainDemand (es.modify n f) = chainDemand es := by
    intro es
    induction es with
    | nil => exact fun n h => by simp at h
    | cons d es ih =>
      intro n h
      cases n with
      | zero =>
        obtain rfl : d = e := by simpa using h
        simp [chainDemand, need]
      | succ n => simp [chainDemand, ih n (by simpa using h)]
  have loops_eq : ∀ (es : List StageEntry) (n : Nat),
      ((es.modify n f).filter fun e => decide (e.kind = .loop)).length =
        (es.filter fun e => decide (e.kind = .loop)).length := by
    intro es
    induction es with
    | nil => exact fun n => by cases n <;> rfl
    | cons d es ih =>
      intro n
      cases n with
      | zero => simp [List.filter_cons, kind, apply_ite List.length]
      | succ n => simp [List.filter_cons, ih, apply_ite List.length]
  refine (Preset.ok_iff _).2 ⟨name, by simpa using count, fun d hd => ?_, ?_, ?_, ?_, rest⟩
  · simp only [set_eq] at hd
    rcases List.mem_or_eq_of_mem_set hd with old | rfl
    · exact entries d old
    · exact entry
  · rw [loops_eq]
    exact loops
  · rw [chainCost_modify kind]
    exact cost
  · rw [demand_eq _ _ at_n]
    exact demand

end Sys2Proof.Machine

/-!
Every register stays in its range (R1, R24, R73, R84, R116, R134, R182).

`Ranged g w r` bounds, beside the ranges of the blocks, the three counts that one frame raises and
what falls due in it lowers: the frames of the block under way by `g`, the frames that a SENT read has
waited by `w`, the runaway count by `r`.  Every event keeps all three bounds; a frame raises the first
two from 15 and 7 or the third from 2,047, and `State.settle` brings them back.
-/
namespace Sys2Proof.Machine


/-- The tail settings of R70. -/
def TailSettings (p : Spl) : Prop :=
  (1 ≤ p.drainSetting ∧ p.drainSetting ≤ 255) ∧ 1 ≤ p.lifeSetting ∧ p.lifeSetting ≤ 60

/-- The ranges of every block, with bounds on the three counts of a frame. -/
def Ranged (g w r : Nat) (s : State) : Prop :=
  s.scn.ok = true ∧ s.tgn.ok = true ∧ s.tun.ok = true ∧ QueueWithin w s.lnk.queue ∧
    TailSettings s.spl ∧ s.opu.limit ≤ 7 ∧ s.sen.runaway ≤ r ∧ s.sen.gathered.length ≤ g

theorem rangesOk_iff (s : State) : s.rangesOk = true ↔ Ranged 15 8 2048 s := by
  simp only [State.rangesOk, Ranged, TailSettings, Bool.and_eq_true, decide_eq_true_eq, within_iff,
    Lnk.queueOk_iff, and_assoc]

namespace Ranged
variable {g w r : Nat} {s : State}

theorem mono {g' w' r' : Nat} (h : Ranged g w r s) (hg : g ≤ g') (hw : w ≤ w') (hr : r ≤ r') :
    Ranged g' w' r' s := by
  obtain ⟨scn, tgn, tun, queue, tails, limit, runaway, block⟩ := h
  exact ⟨scn, tgn, tun, queue.mono hw, tails, limit, runaway.trans hr, block.trans hg⟩

/-- An update keeps the ranges when each block it changes keeps its own. -/
theorem update {t : State} (h : Ranged g w r s)
    (scn : s.scn.ok = true → t.scn.ok = true)
    (tgn : s.tgn.ok = true → t.tgn.ok = true)
    (tun : s.tun.ok = true → t.tun.ok = true)
    (queue : QueueWithin w s.lnk.queue → QueueWithin w t.lnk.queue)
    (tails : TailSettings s.spl → TailSettings t.spl)
    (limit : s.opu.limit ≤ 7 → t.opu.limit ≤ 7)
    (runaway : s.sen.runaway ≤ r → t.sen.runaway ≤ r)
    (block : s.sen.gathered.length ≤ g → t.sen.gathered.length ≤ g) :
    Ranged g w r t := by
  obtain ⟨hscn, htgn, htun, hqueue, htails, hlimit, hrunaway, hblock⟩ := h
  exact ⟨scn hscn, tgn htgn, tun htun, queue hqueue, tails htails, limit hlimit, runaway hrunaway,
    block hblock⟩

/-- What the ranges are about. -/
def part (s : State) :=
  (s.scn, s.tgn, s.tun, s.lnk.queue, s.spl.drainSetting, s.spl.lifeSetting, s.opu.limit,
    s.sen.runaway, s.sen.gathered)

theorem same {t : State} (h : Ranged g w r s) (kept : part t = part s) : Ranged g w r t := by
  simp only [part, Prod.mk.injEq] at kept
  obtain ⟨scn, tgn, tun, queue, drain, life, limit, runaway, block⟩ := kept
  simpa only [Ranged, TailSettings, scn, tgn, tun, queue, drain, life, limit, runaway, block] using h

theorem scn (h : Ranged g w r s) : s.scn.ok = true := h.1

theorem raise {n : Notice} (h : Ranged g w r s) : Ranged g w r (s.raise n) := h.same rfl

theorem answer {t : Ticket} {st : Status} {f : Fields} (h : Ranged g w r s) :
    Ranged g w r (s.answer t st f) := h.same rfl

theorem elapse {d : Nat} (h : Ranged g w r s) : Ranged g w r (s.elapse d) := h.same rfl

theorem addReason {x : Reason} (h : Ranged g w r s) : Ranged g w r (s.addReason x) := h.same rfl

theorem removeReason {x : Reason} (h : Ranged g w r s) : Ranged g w r (s.removeReason x) := h.same rfl

theorem setOpu {o : Opu} (h : Ranged g w r s) (limit : o.limit = s.opu.limit) :
    Ranged g w r { s with opu := o } :=
  h.update (limit := fun hl => by rw [limit]; exact hl) id id id id id id id

theorem setScn {c : Scn} (h : Ranged g w r s) (scn : s.scn.ok = true → c.ok = true) :
    Ranged g w r { s with scn := c } :=
  h.update scn id id id id id id id

theorem nextFree {n : Nat} (h : Ranged g w r s) : Ranged g w r { s with freeCtr := n } := h.same rfl

/-! ### The tempo generator -/

theorem setTgn {t : Tgn} (h : Ranged g w r s) (ht : s.tgn.ok = true → t.ok = true) :
    Ranged g w r { s with tgn := t } := h.update (tgn := ht) id id id id id id id

theorem beatEvent {c : BeatCause} (h : Ranged g w r s) : Ranged g w r (s.beatEvent c) :=
  .raise <| h.update (t := { s with tgn := s.tgn.beat, sen := { s.sen with
    front := s.sen.front.handBeat s.tgn.beat.inForce
    back := s.sen.back.handBeat s.tgn.beat.inForce } }) (tgn := Tgn.beat_ok) id id id id id id id

theorem noticeWrite {b : Nat} {x : TempoWriter} {p : Option Port} (h : Ranged g w r s) :
    Ranged g w r (s.noticeWrite b x p) := by
  unfold State.noticeWrite
  split
  · exact h
  · exact .raise h

theorem presetTempo {p : Option Port} {v : Option Nat} (h : Ranged g w r s)
    (hv : ∀ n ∈ v, BeatRange n) : Ranged g w r (s.presetTempo p v) := by
  unfold State.presetTempo
  split
  · exact h
  · next n =>
    split
    · exact h
    · exact .noticeWrite <| h.setTgn fun ht => Tgn.emptyTapsInTap_ok (Tgn.setPeriod_ok ht (hv n rfl))

theorem beatUnderflow (h : Ranged g w r s) : Ranged g w r s.beatUnderflow := by
  unfold State.beatUnderflow
  split
  · exact .beatEvent h
  · exact h

theorem beatLampOff (h : Ranged g w r s) : Ranged g w r s.beatLampOff := by
  unfold State.beatLampOff
  split
  · exact h.setTgn Tgn.lampOff_ok
  · exact h

theorem tapTimeout (h : Ranged g w r s) : Ranged g w r s.tapTimeout := by
  unfold State.tapTimeout
  split
  · exact h.setTgn Tgn.emptyTaps_ok
  · exact h

theorem firstEdge (h : Ranged g w r s) (pulsed : s.tgn.pulse.isSome = true) :
    Ranged g w r s.firstEdge :=
  .raise <| .beatEvent <| h.setTgn fun ht => Tgn.setPulse_ok ht pulsed .following _

theorem pulseBeat (h : Ranged g w r s) : Ranged g w r s.pulseBeat := by
  have beat : Ranged g w r (State.beatEvent { s with tgn := { s.tgn with
      pulseCount := 0, period := clampNat 12000 144000 s.tgn.pulseInterval
      pulseStamp := some s.tgn.frameCount } } .pulse) :=
    .beatEvent <| h.setTgn fun ht => Tgn.measured_ok ht (clampNat_within (by decide) _) _
  unfold State.pulseBeat
  dsimp only
  split
  · exact beat
  · exact .raise beat

theorem countedEdge (h : Ranged g w r s) : Ranged g w r s.countedEdge := by
  unfold State.countedEdge
  split
  · exact h
  · next pulse => exact .firstEdge h (by simp [pulse])
  · split
    · next below => exact h.setTgn fun ht => Tgn.countEdge_ok ht below
    · exact .pulseBeat h
  · next pulse => exact .raise <| h.setTgn fun ht => Tgn.setPulse_ok ht (by simp [pulse]) .waiting _

theorem pulseEdge {d : EdgeDir} (h : Ranged g w r s) : Ranged g w r (s.pulseEdge d) := by
  unfold State.pulseEdge
  split
  · exact .countedEdge h
  · exact h

theorem pulseLost (h : Ranged g w r s) : Ranged g w r s.pulseLost := by
  unfold State.pulseLost
  split
  · next lost =>
    exact .raise <| .beatEvent <| h.setTgn fun ht =>
      Tgn.setPulse_ok ht (by simp [lost.2.1]) .holding _
  · exact h

theorem tempoFrame (h : Ranged g w r s) : Ranged g w r s.tempoFrame :=
  .pulseLost <| .tapTimeout <| .beatLampOff <| .beatUnderflow <| h.setTgn Tgn.countFrame_ok

/-! ### Passes and switches -/

theorem setSummaryClip (h : Ranged g w r s) : Ranged g w r s.setSummaryClip := by
  unfold State.setSummaryClip
  split
  · exact h
  · exact .raise <| h.same (t := { s with sen := { s.sen with summaryClip := true } }) rfl

theorem passComplete (h : Ranged g w r s) : Ranged g w r s.passComplete := by
  unfold State.passComplete
  split
  · exact h
  · have clipped : ∀ (b : Bool) (u : State), Ranged g w r u →
        Ranged g w r (if b then u.setSummaryClip else u) := by
      intro b u hu
      cases b
      · exact hu
      · exact .setSummaryClip hu
    dsimp only
    split
    · exact .raise <| clipped _ _ (h.same rfl)
    · exact clipped _ _ (h.same rfl)

theorem tailDrainExpiry (h : Ranged g w r s) : Ranged g w r s.tailDrainExpiry := h.same rfl

theorem tailLifeExpiry (h : Ranged g w r s) : Ranged g w r s.tailLifeExpiry := h.same rfl

theorem finishPass (h : Ranged g w r s) : Ranged g w r s.finishPass := by
  unfold State.finishPass
  split
  · exact .tailLifeExpiry <| .tailDrainExpiry <| .passComplete h
  · exact h

theorem beginPass {b : List (Int × Int)} (h : Ranged g w r s) : Ranged g w r (s.beginPass b) :=
  h.same rfl

theorem beginDuePass (h : Ranged g w r s) : Ranged g w r s.beginDuePass := by
  unfold State.beginDuePass
  split
  · exact h
  · split
    · exact h
    · split
      · exact .beginPass h
      · exact h.same rfl

theorem setSwitch {w' : Option SwitchRec} (h : Ranged g w r s) (hw : ∀ x ∈ w', SwitchRange x) :
    Ranged g w r { s with scn := { s.scn with switch := w' } } :=
  h.setScn (fun hs => Scn.setSwitch_ok hs hw)

theorem setBlocksLeft {n : Nat} (h : Ranged g w r s) :
    Ranged g w r { s with scn := s.scn.setBlocksLeft n } :=
  h.setScn (fun hs => Scn.setBlocksLeft_ok hs n)

theorem selectFor {n : Nat} (h : Ranged g w r s) : Ranged g w r (s.selectFor n) := h.same rfl

theorem select (h : Ranged g w r s) : Ranged g w r s.select :=
  (selectFor h).setScn (fun hs => Scn.mapSwitch_ok hs _)

theorem lastBlock (h : Ranged g w r s) : Ranged g w r s.lastBlock := by
  unfold State.lastBlock
  split
  · exact .addReason <| .select h
  · exact .select h

theorem enterFade {ph : SwitchPhase} {k : SwitchKind} {f : Nat} (h : Ranged g w r s) :
    Ranged g w r (s.enterFade ph k f) := by
  have entered : Ranged g w r { s with scn := { s.scn with
      phase := ph
      switch := s.scn.switch.map fun x => { x with kind := k, blocksLeft := f, budget := false } } } :=
    h.setScn (fun hs => Scn.setPhase_ok
      (Scn.mapSwitch_ok hs fun x => { x with kind := k, blocksLeft := f, budget := false })
      s.scn.generation s.scn.dirty s.scn.origin ph s.scn.latch)
  unfold State.enterFade
  dsimp only
  split
  · exact .lastBlock entered
  · exact entered

theorem afterBuild (h : Ranged g w r s) : Ranged g w r s.afterBuild := by
  unfold State.afterBuild
  split
  · split
    · exact .lastBlock h
    · exact h
  · exact h

theorem makeCommitDue (h : Ranged g w r s) : Ranged g w r s.makeCommitDue :=
  h.setScn (fun hs => Scn.mapSwitch_ok hs _)

theorem fadeBoundary {x : SwitchRec} (h : Ranged g w r s) : Ranged g w r (s.fadeBoundary x) := by
  unfold State.fadeBoundary
  dsimp only
  split
  · exact .makeCommitDue <| .setBlocksLeft h
  · split
    · exact .lastBlock <| .setBlocksLeft h
    · exact .setBlocksLeft h

theorem markGrant (h : Ranged g w r s) : Ranged g w r { s with spl := s.spl.markGrant } := by
  unfold Spl.markGrant
  split
  · exact h
  · exact h.same rfl

theorem waitBoundary {x : SwitchRec} (h : Ranged g w r s) : Ranged g w r (s.waitBoundary x) := by
  unfold State.waitBoundary
  dsimp only
  split
  · exact .markGrant h
  · exact .setBlocksLeft (s := { s with spl := s.spl.markGrant }) <| .markGrant h

theorem buildBack (h : Ranged g w r s) : Ranged g w r s.buildBack :=
  h.setScn (fun hs => Scn.mapSwitch_ok hs _)

theorem grantBack (h : Ranged g w r s) : Ranged g w r s.grantBack :=
  h.setScn (fun hs => Scn.mapSwitch_ok hs _)

theorem prepareBoundary {x : SwitchRec} (h : Ranged g w r s) : Ranged g w r (s.prepareBoundary x) := by
  unfold State.prepareBoundary
  split
  · exact .waitBoundary h
  · split
    · exact .afterBuild <| .buildBack h
    · split
      · exact .enterFade h
      · exact .makeCommitDue h

theorem switchBoundary (h : Ranged g w r s) : Ranged g w r s.switchBoundary := by
  unfold State.switchBoundary
  split
  · exact h
  · split
    · exact h
    · exact .prepareBoundary h
    · exact .fadeBoundary h
    · exact .fadeBoundary h
    · exact .removeReason <| .setBlocksLeft h

theorem grantAfterReclaim (h : Ranged g w r s) : Ranged g w r s.grantAfterReclaim := by
  unfold State.grantAfterReclaim
  split
  · exact .beginDuePass <| .afterBuild <| .buildBack <| .grantBack h
  · exact h

theorem budgetCheck {x : SwitchRec} (h : Ranged g w r s) (hx : s.scn.switch = some x) :
    Ranged g w r (s.budgetCheck x) := by
  unfold State.budgetCheck
  dsimp only
  split
  · exact .enterFade h
  · split
    · exact .enterFade h
    · exact h.setScn (fun hs => Scn.setSwitch_ok hs (by
        rintro _ ⟨⟩
        exact (Scn.switch_range hs hx : SwitchRange x)))

theorem zeroFadeEnd {x : SwitchRec} (h : Ranged g w r s) : Ranged g w r (s.zeroFadeEnd x) := by
  unfold State.zeroFadeEnd
  split
  · exact .makeCommitDue h
  · exact .lastBlock <| .setBlocksLeft h

theorem endOfPrepare (h : Ranged g w r s) : Ranged g w r s.endOfPrepare := by
  unfold State.endOfPrepare
  split
  · split
    · exact h
    · next x hx =>
      have live : Ranged g w r
          { s with sen := { s.sen with back := { s.sen.back with state := .live } } } := h.same rfl
      refine .beginDuePass ?_
      split
      · exact .zeroFadeEnd live
      · exact .budgetCheck live hx
  · exact h

theorem exchange (h : Ranged g w r s) : Ranged g w r s.exchange := h.same rfl

theorem handLevel (h : Ranged g w r s) : Ranged g w r s.handLevel :=
  h.update (queue := fun hq => Lnk.handLevel_within hq _) id id id id id id id

theorem commit (h : Ranged g w r s) : Ranged g w r s.commit := by
  unfold State.commit
  split
  · exact h
  · next x hx =>
    split
    · have committed : Ranged g w r { s.exchange with scn := s.exchange.scn.committed x } :=
        (exchange h).setScn (fun hs => Scn.committed_ok hs hx)
      exact .beginDuePass <| .raise <| .answer <| .handLevel <|
        committed.presetTempo (Scn.switch_range h.scn hx).1
    · exact h

theorem steady (h : Ranged g w r s) :
    Ranged g w r { s with scn := { s.scn with phase := .steady, switch := none } } :=
  h.setScn (fun hs => Scn.setSwitch_ok
    (Scn.setPhase_ok hs s.scn.generation s.scn.dirty s.scn.origin .steady s.scn.latch) nofun)

theorem gapInEnd (h : Ranged g w r s) : Ranged g w r s.gapInEnd := by
  unfold State.gapInEnd
  split
  · exact .beginDuePass <| .raise <| .steady h
  · exact h

theorem abortTaken {c : AbortCause} (h : Ranged g w r s) : Ranged g w r (s.abortTaken c) := by
  unfold State.abortTaken
  split
  · split
    · exact h
    · exact .answer h
  · exact h

theorem dropPending (h : Ranged g w r s) :
    Ranged g w r { s with scn := { s.scn with pendingRecall := none } } :=
  h.setScn (fun hs => Scn.setPending_ok hs nofun)

theorem abortPending {c : AbortCause} (h : Ranged g w r s) : Ranged g w r (s.abortPending c) := by
  unfold State.abortPending
  split
  · exact .answer <| .dropPending h
  · exact h

theorem abandonSwitch {c : AbortCause} {p : Option Port} (h : Ranged g w r s) :
    Ranged g w r (s.abandonSwitch c p) := by
  unfold State.abandonSwitch
  split
  · exact .abortPending h
  · exact .raise <| .steady <| .abortPending <| .abortTaken <| .removeReason h

/-! ### Recalls -/

theorem setLatch {l : Word16} {p : Port} (h : Ranged g w r s) : Ranged g w r (s.setLatch l p) := by
  unfold State.setLatch
  split
  · exact h
  · exact .raise <| h.setScn (fun hs =>
      Scn.setPhase_ok hs s.scn.generation s.scn.dirty s.scn.origin s.scn.phase l)

theorem toggleAfter {x : RecallReq} {p : Port} (h : Ranged g w r s) :
    Ranged g w r (s.toggleAfter x p) := by
  unfold State.toggleAfter
  split
  · split
    · exact .setLatch h
    · exact h
  · exact h

theorem emptyBack (h : Ranged g w r s) : Ranged g w r s.emptyBack := h.same rfl

theorem supersede {p : Port} (h : Ranged g w r s) : Ranged g w r (s.supersede p) := by
  unfold State.supersede
  split
  · exact .answer <| .emptyBack h
  · exact h

theorem requestGrant (h : Ranged g w r s) : Ranged g w r s.requestGrant := by
  unfold State.requestGrant
  dsimp only
  split
  · exact .grantBack h
  · exact h.setScn (fun hs => Scn.setBlocksLeft_ok hs _)

theorem switchKind_fade {b : Bool} {n : Nat} (hn : n ≤ 255) : (switchKind b n).2 ≤ 255 := by
  unfold switchKind
  split
  · exact Nat.zero_le _
  · split
    · exact Nat.zero_le _
    · exact hn

theorem beginSwitch {t : Ticket} {n : Nat} {x : Preset} {f : Nat} (h : Ranged g w r s)
    (hx : x.ok = true) (hf : f ≤ 255) : Ranged g w r (s.beginSwitch t n x f) := by
  obtain ⟨-, -, -, -, -, -, tempo, -⟩ := (Preset.ok_iff x).1 hx
  refine .raise <| .requestGrant <| h.setScn (fun hs => ?_)
  exact Scn.setSwitch_ok
    (Scn.setPhase_ok (Scn.setLive_ok hs hx) (nextGeneration s.scn.generation) s.scn.dirty
      s.scn.origin .prepare s.scn.latch)
    (by rintro _ ⟨⟩; exact ⟨tempo, switchKind_fade hf⟩)

/-- A recall within its ranges resolves a fade of at most 255 blocks (R94, step 6). -/
theorem resolveFade_le {c : Scn} (h : c.ok = true) {x : RecallReq} (hx : recallInRange x = true)
    {p : Preset} (hp : p.ok = true) : resolveFade x p c.defaultFade ≤ 255 := by
  obtain ⟨-, -, -, fade, -⟩ := (Scn.ok_iff c).1 h
  obtain ⟨-, -, -, -, -, -, -, record, -⟩ := (Preset.ok_iff p).1 hp
  unfold resolveFade
  split
  · next f hf =>
    have : (inRange 0 255 f).isSome = true := by
      unfold recallInRange at hx
      rw [hf] at hx
      exact (Bool.and_eq_true_iff.1 hx).2
    unfold inRange at this
    split at this
    · omega
    · cases this
  · next f _ hf => exact record f hf
  · exact fade

theorem takeRecall {t : Ticket} {x : RecallReq} (h : Ranged g w r s) (hx : recallInRange x = true) :
    Ranged g w r (s.takeRecall t x) := by
  unfold State.takeRecall
  dsimp only
  split
  · exact .answer h
  · next p hp =>
    have record := Scn.library_ok h.scn hp
    exact (supersede (toggleAfter h)).beginSwitch record (resolveFade_le h.scn hx record)

theorem pendingTake (h : Ranged g w r s) : Ranged g w r s.pendingTake := by
  unfold State.pendingTake
  split
  · next q hq =>
    split
    · exact (dropPending h).takeRecall (Scn.pending_range h.scn hq)
    · exact h
  · exact h

theorem arrive {t : Ticket} {x : RecallReq} (h : Ranged g w r s) (hx : recallInRange x = true) :
    Ranged g w r (s.arrive t x) := by
  have pending : Ranged g w r
      { s with scn := { s.scn with pendingRecall := some { ticket := t, req := x } } } :=
    h.setScn (fun hs => Scn.setPending_ok hs (by rintro _ ⟨⟩; exact hx))
  unfold State.arrive State.leavePending
  split
  · exact h.takeRecall hx
  · dsimp only
    split
    · exact .answer pending
    · exact pending

/-! ### Protection -/

theorem relayTakesTarget (h : Ranged g w r s) : Ranged g w r s.relayTakesTarget := by
  obtain same | ⟨_, _, _, moved⟩ := s.relayTakesTarget_cases
  · rwa [same]
  · rw [moved]
    exact h.same rfl

theorem gainMuted (h : Ranged g w r s) : Ranged g w r s.gainMuted := by
  unfold State.gainMuted
  split
  · exact .relayTakesTarget (h.same rfl)
  · exact h

theorem gainOpen (h : Ranged g w r s) : Ranged g w r s.gainOpen := by
  unfold State.gainOpen
  split
  · exact h.same rfl
  · exact h

theorem endHold_limit (o : Opu) (m : RelayMove) : (o.endHold m).limit = o.limit := by
  unfold Opu.endHold
  split
  · split <;> rfl
  · rfl

theorem ordinaryMove_limit (o : Opu) (x : Relay) : (o.ordinaryMove x).limit = o.limit := by
  unfold Opu.ordinaryMove
  split
  · split <;> rfl
  · split
    · split <;> rfl
    · rfl

theorem relayHoldEnd (h : Ranged g w r s) : Ranged g w r s.relayHoldEnd := by
  unfold State.relayHoldEnd
  split
  · exact h
  · split
    · exact .relayTakesTarget <| h.setOpu (endHold_limit _ _)
    · exact h

theorem stopEngine {d : EngineState} (h : Ranged g w r s) : Ranged g w r (s.stopEngine d) :=
  h.update (runaway := fun _ => Nat.zero_le r) id id id id id id id

theorem abortResume {c : AbortCause} (h : Ranged g w r s) : Ranged g w r (s.abortResume c) := by
  unfold State.abortResume
  split
  · exact .answer (h.same rfl)
  · exact h

theorem enterFault {c : Cause} (h : Ranged g w r s) : Ranged g w r (s.enterFault c) :=
  .raise <| .abandonSwitch <| .stopEngine <| .abortResume <|
    h.same (t := { s with opu := _, lnk := _ }) rfl

theorem handCause {c : Cause} (h : Ranged g w r s) : Ranged g w r (s.handCause c) := by
  unfold State.handCause State.addCause
  split
  · exact .enterFault h
  · split
    · exact h
    · exact .raise (h.same rfl)

/-- The runaway event brings the count below the one at which it falls due. -/
theorem runaway (h : Ranged g w 2048 s) : Ranged g w 2047 s.runaway := by
  unfold State.runaway
  split
  · refine .handCause ?_
    obtain ⟨hscn, htgn, htun, hqueue, htails, hlimit, -, hblock⟩ := h
    exact ⟨hscn, htgn, htun, hqueue, htails, hlimit, Nat.zero_le _, hblock⟩
  · next below =>
    obtain ⟨hscn, htgn, htun, hqueue, htails, hlimit, -, hblock⟩ := h
    exact ⟨hscn, htgn, htun, hqueue, htails, hlimit, by omega, hblock⟩

theorem startEngine {x : Reason} (h : Ranged g w r s) : Ranged g w r (s.startEngine x) := h.same rfl

theorem engineAutoStart (h : Ranged g w r s) : Ranged g w r s.engineAutoStart := by
  unfold State.engineAutoStart
  split
  · exact .startEngine h
  · exact h

theorem answerResume (h : Ranged g w r s) : Ranged g w r s.answerResume := by
  unfold State.answerResume
  split
  · exact .answer (h.same rfl)
  · exact h

theorem startingComplete (h : Ranged g w r s) : Ranged g w r s.startingComplete := by
  unfold State.startingComplete
  split
  · refine .beginDuePass <| .answerResume <| .handLevel <| .relayTakesTarget ?_
    exact h.update (limit := fun hl => by
      show ((s.opu.ordinaryMove .engaged).removeReason .starting).limit ≤ 7
      rw [show ((s.opu.ordinaryMove .engaged).removeReason .starting).limit = _ from
        ordinaryMove_limit s.opu .engaged]
      exact hl) id id id id id id id
  · exact h

/-! ### The tuner -/

theorem setTun {t : Tun} (h : Ranged g w r s) (ht : s.tun.ok = true → t.ok = true) :
    Ranged g w r { s with tun := t } := h.update (tun := ht) id id id id id id id

theorem tunerFrame {x : Int} (h : Ranged g w r s) : Ranged g w r (s.tunerFrame x) := by
  have framed : Ranged g w r { s with tun := s.tun.frame x } := h.setTun fun ht => Tun.frame_ok ht x
  unfold State.tunerFrame
  dsimp only
  split
  · exact .raise framed
  · exact framed

theorem tunerTimeout (h : Ranged g w r s) : Ranged g w r s.tunerTimeout := by
  unfold State.tunerTimeout
  split
  · exact .raise <| h.setTun fun ht => Tun.setState_ok ht .noSignal
  · exact h

theorem tunerLinkDown (h : Ranged g w r s) : Ranged g w r s.tunerLinkDown := by
  have down : Ranged g w r { s with tun := s.tun.linkDown } := h.setTun Tun.linkDown_ok
  unfold State.tunerLinkDown
  dsimp only
  split
  · exact down
  · exact .raise down

/-! ### The converter link -/

theorem linkTo {d : LinkState} {c : Option Departure} (h : Ranged g w r s) :
    Ranged g w r (s.linkTo d c) := by
  have moved : Ranged g w r { s with
      lnk := { s.lnk with state := d, time := 0 }, opu := { s.opu with elapsed := 0 } } := h.same rfl
  unfold State.linkTo
  dsimp only
  split
  · exact moved
  · exact .raise moved

theorem setPrimary {b : Bool} (h : Ranged g w r s) : Ranged g w r (s.setPrimary b) := by
  unfold State.setPrimary
  split
  · exact h
  · exact .raise (h.same rfl)

theorem setSecondary {b : Bool} (h : Ranged g w r s) : Ranged g w r (s.setSecondary b) := by
  unfold State.setSecondary
  split
  · exact h
  · exact .raise (h.same rfl)

theorem setAuxValid {b : Bool} (h : Ranged g w r s) : Ranged g w r (s.setAuxValid b) := by
  unfold State.setAuxValid
  split
  · exact h
  · exact .raise (h.same rfl)

theorem clearReady (h : Ranged g w r s) : Ranged g w r s.clearReady := .setSecondary <| .setPrimary h

theorem endAccess {c : ReadEnd} {a : Access} (h : Ranged g w r s) :
    Ranged g w r (State.endAccess c s a) := by
  unfold State.endAccess
  split
  · exact .answer h
  · exact h

theorem foldl_endAccess {c : ReadEnd} (as : List Access) :
    ∀ {s : State}, Ranged g w r s → Ranged g w r (as.foldl (State.endAccess c) s) := by
  induction as with
  | nil => exact id
  | cons a as ih => exact fun h => ih h.endAccess

theorem endAccesses {f : Access → Bool} {c : ReadEnd} (h : Ranged g w r s) :
    Ranged g w r (s.endAccesses f c) :=
  foldl_endAccess _ <| h.update (queue := fun hq => hq.sublist List.filter_sublist) id id id id id id id

theorem endQueue (h : Ranged g w r s) : Ranged g w r s.endQueue := .endAccesses (h.same rfl)

theorem answerOwner {a : Access} {st : Status} {f : Fields} (h : Ranged g w r s) :
    Ranged g w r (s.answerOwner a st f) := by
  unfold State.answerOwner
  split
  · exact .answer h
  · exact h

theorem dropFirst (h : Ranged g w r s) : Ranged g w r { s with lnk := s.lnk.dropFirst } :=
  h.update (queue := Lnk.dropFirst_within) id id id id id id id

theorem convReadCompletion (h : Ranged g w r s) : Ranged g w r s.convReadCompletion := by
  unfold State.convReadCompletion
  split
  · exact h
  · split
    · exact .answerOwner <| .dropFirst h
    · exact h

theorem convReadTimeout (h : Ranged g w r s) : Ranged g w r s.convReadTimeout := by
  unfold State.convReadTimeout
  split
  · exact h
  · split
    · exact .answerOwner <| .dropFirst h
    · exact h

theorem levelWriteJoin (h : Ranged g w r s) : Ranged g w r s.levelWriteJoin := by
  unfold State.levelWriteJoin
  split
  · next v _ =>
    split
    · exact h.update (queue := fun hq => Lnk.handLevel_within hq v) id id id id id id id
    · exact h
  · exact h

theorem engineLinkStop {p : Option Port} (h : Ranged g w r s) : Ranged g w r (s.engineLinkStop p) := by
  unfold State.engineLinkStop
  split
  · exact .abandonSwitch <| .stopEngine <| .abortResume (h.same rfl)
  · exact h

theorem forceBypass (h : Ranged g w r s) : Ranged g w r { s with opu := s.opu.forceBypass } := h.same rfl

theorem departEngine {c : Option Cause} {p : Option Port} (h : Ranged g w r s) :
    Ranged g w r (s.departEngine c p) := by
  unfold State.departEngine
  split
  · exact .handCause h
  · exact .forceBypass <| .engineLinkStop h

theorem dropBlock (h : Ranged g w r s) : Ranged g w r s.dropBlock :=
  h.update (block := fun _ => Nat.zero_le g) id id id id id id id

theorem leaveRunning {d : LinkState} {x : Departure} {c : Option Cause} {p : Option Port}
    (h : Ranged g w r s) : Ranged g w r (s.leaveRunning d x c p) :=
  .linkTo <| .departEngine <| .tunerLinkDown <| .dropBlock <| .endQueue h

theorem abortRest {c : RestEnd} (h : Ranged g w r s) : Ranged g w r (s.abortRest c) := by
  unfold State.abortRest
  split
  · exact .answer (h.same rfl)
  · exact h

theorem linkRestFinal (h : Ranged g w r s) : Ranged g w r s.linkRestFinal := by
  obtain same | ⟨_, _, _, _, _, final⟩ := s.linkRestFinal_cases
  · rwa [same]
  · rw [final]
    exact .answer <| .clearReady <| .leaveRunning (h.same rfl)

theorem linkStarted (h : Ranged g w r s) : Ranged g w r s.linkStarted :=
  .setAuxValid <| .clearReady h

theorem coldStart {p : Port} (h : Ranged g w r s) : Ranged g w r (s.coldStart p) := by
  unfold State.coldStart
  split
  · exact .leaveRunning h
  · exact .linkTo h

theorem coldStartExpiry (h : Ranged g w r s) : Ranged g w r s.coldStartExpiry := by
  unfold State.coldStartExpiry
  split
  · exact .linkTo <| .elapse h
  · exact h

theorem enterWaking (h : Ranged g w r s) : Ranged g w r s.enterWaking :=
  .linkStarted <| .linkTo (h.same rfl)

theorem wake (h : Ranged g w r s) : Ranged g w r s.wake := by
  unfold State.wake
  split
  · exact .enterWaking h
  · exact h.same rfl

theorem converterWake (h : Ranged g w r s) : Ranged g w r s.converterWake := by
  unfold State.converterWake
  split
  · exact .wake h
  · exact h

theorem wakeDeferralExpiry (h : Ranged g w r s) : Ranged g w r s.wakeDeferralExpiry := by
  unfold State.wakeDeferralExpiry
  split
  · exact .enterWaking <| .elapse h
  · exact h

theorem wakingExpiry (h : Ranged g w r s) : Ranged g w r s.wakingExpiry := by
  unfold State.wakingExpiry
  split
  · exact .linkTo <| .elapse h
  · exact h

theorem departBy {d : LinkState} {x : Departure} {c : Cause} (h : Ranged g w r s) :
    Ranged g w r (s.departBy d x c) := by
  have left : Ranged g w r ((s.abortRest .link).leaveRunning d x (some c) none) :=
    .leaveRunning <| .abortRest h
  unfold State.departBy
  dsimp only
  split
  · exact .removeReason left
  · exact left

theorem failOver (h : Ranged g w r s) : Ranged g w r { s with opu := s.opu.failOver } := by
  unfold Opu.failOver
  split
  · exact h.same rfl
  · exact h

theorem frameLossExpiry (h : Ranged g w r s) : Ranged g w r s.frameLossExpiry := by
  unfold State.frameLossExpiry
  split
  · exact .clearReady <| .departBy <| .failOver <| .elapse h
  · exact h

/-! ### The boundary and what falls due -/

theorem boundarySteps (h : Ranged g w r s) : Ranged g w r s.boundarySteps :=
  .gapInEnd <| .commit <| .endOfPrepare <| .grantAfterReclaim <| .startingComplete h

theorem buildFront (h : Ranged g w r s) : Ranged g w r s.buildFront := h.same rfl

theorem engineBoundary (h : Ranged g w r s) : Ranged g w r s.engineBoundary := by
  unfold State.engineBoundary
  split
  · split
    · exact .buildFront h
    · exact h
  · exact .switchBoundary h
  · exact h
  · exact h

/-- A boundary takes its sixteen frames out of the block under way. -/
theorem boundary (h : Ranged 31 w r s) : Ranged 15 w r s.boundary := by
  refine .beginDuePass <| .engineBoundary ?_
  obtain ⟨hscn, htgn, htun, hqueue, htails, hlimit, hrunaway, hblock⟩ := h
  refine ⟨hscn, htgn, Tun.blockTests_ok htun, hqueue, htails, hlimit, hrunaway, ?_⟩
  simp only [Sen.boundary, List.length_drop]
  omega

theorem blockBoundary (h : Ranged 31 w r s) : Ranged 15 w r s.blockBoundary := by
  unfold State.blockBoundary
  split
  · exact .boundary <| .finishPass <| .pendingTake <| .boundarySteps h
  · next short =>
    obtain ⟨hscn, htgn, htun, hqueue, htails, hlimit, hrunaway, -⟩ := h
    exact ⟨hscn, htgn, htun, hqueue, htails, hlimit, hrunaway, by omega⟩

/-- A SENT read ends by its eighth frame (R183). -/
theorem convReadEnds (h : Ranged g 8 r s) : Ranged g 7 r s.convReadCompletion.convReadTimeout := by
  have ended : ∀ {u : State}, Ranged g 8 r u → (∀ a ∈ u.lnk.queue, a.sent = false) →
      Ranged g 7 r u := by
    rintro u ⟨hscn, htgn, htun, ⟨length, rest, each⟩, hothers⟩ unsent
    exact ⟨hscn, htgn, htun, ⟨length, rest, fun a ha =>
      ⟨fun sent => absurd sent (by simp [unsent a ha]), (each a ha).2⟩⟩, hothers⟩
  have dropped : ∀ {u : State} {a : Access} {st : Status} {f : Fields}, Ranged g 8 r u →
      Ranged g 7 r (State.answerOwner { u with lnk := u.lnk.dropFirst } a st f) := by
    intro u a st f hu
    exact .answerOwner <| ended (dropFirst hu) hu.2.2.2.1.2.1
  unfold State.convReadCompletion
  split
  · next empty =>
    refine .convReadTimeout <| ended h ?_
    simp [empty]
  · next a as queue =>
    split
    · exact .convReadTimeout <| dropped h
    · next incomplete =>
      unfold State.convReadTimeout
      rw [queue]
      dsimp only
      split
      · exact dropped h
      · next inTime =>
        obtain ⟨hscn, htgn, htun, ⟨length, rest, each⟩, hothers⟩ := h
        rw [queue] at length rest each
        refine ⟨hscn, htgn, htun, ?_, hothers⟩
        rw [queue]
        refine ⟨length, rest, fun b hb => ⟨fun sent => ?_, (each b hb).2⟩⟩
        obtain ⟨data, waited⟩ := (each b hb).1 sent
        refine ⟨data, ?_⟩
        rcases List.mem_cons.1 hb with rfl | tail
        · have : ¬ 8 ≤ b.waited := fun late => inTime ⟨sent, late, by simp [incomplete]⟩
          omega
        · exact absurd sent (by simp [rest b tail])

theorem settleLink (h : Ranged g 8 2048 s) : Ranged g 7 2047 s.settleLink :=
  .runaway <| .engineAutoStart <| .levelWriteJoin <| .convReadEnds h

theorem settleBlock (h : Ranged 31 w r s) : Ranged 15 w r s.settleBlock :=
  .pendingTake <| .boundarySteps <| .relayHoldEnd <| .tunerTimeout <| .blockBoundary h

theorem settleOutput (h : Ranged g w r s) : Ranged g w r s.settleOutput :=
  .linkRestFinal <| .relayTakesTarget <| .gainOpen <| .gainMuted h

/-- Everything due brings the three counts of a frame back. -/
theorem settle (h : Ranged 31 8 2048 s) : Ranged 15 7 2047 s.settle :=
  .settleOutput <| .settleBlock <| .settleLink h

theorem wholeBlock (h : Ranged 31 w r s) : Ranged 31 w r s.wholeBlock := by
  unfold State.wholeBlock
  split
  · exact (settleBlock h).mono (by decide) (Nat.le_refl _) (Nat.le_refl _)
  · exact h

/-! ### Frames -/

theorem auxInput {f : InFrame} (h : Ranged g w r s) : Ranged g w r (s.auxInput f) := by
  unfold State.auxInput State.storeAux
  split
  · exact h
  · split
    · exact h
    · dsimp only
      split
      · exact .handCause <| .raise (h.same rfl)
      · exact .raise (h.same rfl)

theorem storeEchoes {f0 f1 : InFrame} (h : Ranged g w r s) : Ranged g w r (s.storeEchoes f0 f1) :=
  (h.same rfl)

theorem secondaryBit {b : Bool} (h : Ranged g w r s) : Ranged g w r (s.secondaryBit b) := by
  unfold State.secondaryBit
  dsimp only
  split
  · exact .endAccesses <| .setSecondary h
  · exact .setSecondary h

theorem syncingFrame {f0 f1 : InFrame} (h : Ranged g w r s) : Ranged g w r (s.syncingFrame f0 f1) := by
  have stored : Ranged g w r ((((s.setPrimary (readyBit f0.tag)).setSecondary
      (readyBit f1.tag)).auxInput f0).storeEchoes f0 f1) :=
    .storeEchoes <| .auxInput <| .setSecondary <| .setPrimary h
  unfold State.syncingFrame
  dsimp only
  split
  · exact .removeReason <| .linkTo stored
  · exact stored

/-- A counted frame adds one to the block and to what a SENT read has waited. -/
theorem countFrame {f0 f1 : InFrame} (h : Ranged g w r s) :
    Ranged (g + 1) (w + 1) r (s.countFrame f0 f1) := by
  refine .tempoFrame <| .tunerFrame ?_
  obtain ⟨hscn, htgn, htun, hqueue, htails, hlimit, hrunaway, hblock⟩ := h
  refine ⟨hscn, htgn, htun, hqueue.countFrame, htails, hlimit, hrunaway, ?_⟩
  simpa using hblock

theorem converterLost (h : Ranged g w r s) : Ranged g w r s.converterLost :=
  .departBy <| .setPrimary h

theorem lossFrame {f0 f1 : InFrame} (h : Ranged 30 w r s) : Ranged 31 (w + 1) r (s.lossFrame f0 f1) := by
  have whole : Ranged 31 (w + 1) r
      (((s.secondaryBit (readyBit f1.tag)).countFrame f0 f1).wholeBlock) :=
    .wholeBlock <| .countFrame <| .secondaryBit h
  simp only [State.lossFrame]
  split
  · split
    · exact .storeEchoes <| .converterLost <| .auxInput <| .nextFree whole
    · exact .storeEchoes <| .auxInput <| .converterLost <| .nextFree whole
  · exact .storeEchoes <| .auxInput <| .converterLost whole

theorem runningFrame {f0 f1 : InFrame} (h : Ranged 30 w r s) :
    Ranged 31 (w + 1) r (s.runningFrame f0 f1) := by
  unfold State.runningFrame
  split
  · exact .countFrame <| .storeEchoes <| .auxInput <| .secondaryBit h
  · exact .lossFrame h

theorem frameIn {f0 f1 : InFrame} (h : Ranged 30 w r s) : Ranged 31 (w + 1) r (s.frameIn f0 f1) := by
  have more : ∀ {u : State}, Ranged 30 w r u → Ranged 31 (w + 1) r u := fun hu =>
    hu.mono (by decide) (Nat.le_succ w) (Nat.le_refl r)
  unfold State.frameIn
  split
  · exact more h.syncingFrame
  · exact .runningFrame h
  · exact more h.linkTo.syncingFrame
  all_goals exact more h

theorem frameReceived {f0 f1 : InFrame} (h : Ranged 31 8 2048 s) :
    Ranged 15 7 2047 (s.frameReceived f0 f1) :=
  .settle <| ((settle h).mono (g' := 30) (by decide) (Nat.le_refl _) (Nat.le_succ _)).frameIn

theorem runawayAfter_le (h : Ranged g w r s) : s.runawayAfter ≤ r + 1 := by
  obtain ⟨-, -, -, -, -, -, hrunaway, -⟩ := h
  unfold State.runawayAfter
  split
  · split <;> omega
  · omega

theorem sendRunning (h : Ranged g w r s) : Ranged g w (r + 1) s.sendRunning := by
  have sent : ∀ {u : State} {n : Nat} {o : OutFrame}, Ranged g w r u → n ≤ r + 1 →
      Ranged g w (r + 1) { u with
        sen := { u.sen with outQueue := u.sen.outQueue.drop 1, runaway := n }
        lnk := { u.lnk.afterCommand with lastOut := o, restHeld := false } } := by
    rintro u n o ⟨hscn, htgn, htun, hqueue, htails, hlimit, -, hblock⟩ hn
    exact ⟨hscn, htgn, htun, Lnk.afterCommand_within hqueue, htails, hlimit, hn, hblock⟩
  unfold State.sendRunning
  dsimp only
  split
  · exact sent (setSummaryClip h) h.runawayAfter_le
  · exact sent h h.runawayAfter_le

theorem gainFrame (h : Ranged g w r s) : Ranged g w r s.gainFrame := by
  refine h.setOpu ?_
  unfold Opu.advanceGain
  split <;> rfl

theorem frameOut (h : Ranged g w r s) : Ranged g w (r + 1) s.frameOut := by
  have more : ∀ {u : State}, Ranged g w r u → Ranged g w (r + 1) u := fun hu =>
    hu.mono (Nat.le_refl g) (Nat.le_refl w) (Nat.le_succ r)
  unfold State.frameOut
  split
  · exact .sendRunning <| .gainFrame h
  · exact more ((gainFrame h).same rfl)
  · exact more <| .nextFree <| (gainFrame h).same rfl
  all_goals exact more h

theorem frameSent (h : Ranged 31 8 2048 s) : Ranged 15 7 2047 s.frameSent :=
  .settle <| (settle h).frameOut.mono (by decide) (by decide) (Nat.le_refl _)

end Ranged

end Sys2Proof.Machine

/-!
Every request's owner, every event and every step keeps the ranges.
-/
namespace Sys2Proof.Machine


namespace Ranged
variable {g w r : Nat} {s : State} {t : Ticket}

theorem setDirty {p : Port} (h : Ranged g w r s) : Ranged g w r (s.setDirty p) := by
  unfold State.setDirty
  split
  · exact h
  · exact .raise <| h.update (t := { s with scn := { s.scn with dirty := true } }) (scn := fun hs =>
      Scn.setPhase_ok hs s.scn.generation true s.scn.origin s.scn.phase s.scn.latch) id id id id id id id

theorem editInst {n : Nat} {f : StageInst → StageInst} (h : Ranged g w r s) :
    Ranged g w r (s.editInst n f) := by
  unfold State.editInst
  split
  · exact h.same rfl
  · exact h.same rfl
  · exact h

theorem editEntry {n : Nat} {e : StageEntry} {f : StageEntry → StageEntry} (h : Ranged g w r s)
    (at_n : s.scn.live.chain[n]? = some e) (kind : ∀ d, (f d).kind = d.kind)
    (need : (f e).need = e.need) (entry : e.ok = true → (f e).ok = true) :
    Ranged g w r (s.editEntry n f) := by
  refine h.setScn (fun hs => ?_)
  have live := Scn.live_ok hs
  obtain ⟨-, -, entries, -⟩ := (Preset.ok_iff _).1 live
  exact Scn.setLive_ok hs
    (Preset.modify_ok live at_n kind need (entry (entries e (List.mem_of_getElem? at_n))))

theorem entryAt_some {c : Scn} {n : Int} {e : StageEntry} (h : c.entryAt n = some e) :
    c.live.chain[n.toNat]? = some e := by
  unfold Scn.entryAt at h
  split at h
  · cases h
  · exact h

/-- What R25's judgement lets an EDIT store: a value in the parameter's range, and never a DELAY's
longest time. -/
theorem editValue_some {k : StageKind} {id v x : Int} {b : Bool} (h : editValue k id v = some (x, b)) :
    paramOk k id.toNat x = true ∧ ¬(k = .delay ∧ id.toNat = 0) := by
  unfold editValue at h
  split at h
  · cases h
  · next nonneg =>
    split at h
    · cases h
    · next lo hi range =>
      split at h
      · cases h
      · next reach =>
        split at h
        · cases h
        · obtain ⟨rfl, -⟩ : clampTo lo hi v = x ∧ _ := by simpa using h
          exact ⟨paramOk_clampTo range (range_le range) v, fun zero => reach ⟨zero.1, by omega⟩⟩

theorem setParam_entry_ok {e : StageEntry} (h : e.ok = true) {id : Nat} {v : Int}
    (hv : paramOk e.kind id v = true) : ({ e with params := e.params.set id v } : StageEntry).ok = true := by
  obtain ⟨count, params, spill, sync⟩ := (StageEntry.ok_iff e).1 h
  refine (StageEntry.ok_iff _).2 ⟨by simpa using count, fun n hn => ?_, spill, sync⟩
  have hn : n < e.params.length := by simpa using hn
  by_cases same : id = n
  · subst same
    simpa [List.getD_eq_getElem?_getD, hn] using hv
  · simpa [List.getD_eq_getElem?_getD, List.getElem?_set_ne same] using params n hn

theorem setParam_need {e : StageEntry} {id : Nat} {v : Int} (reach : ¬(e.kind = .delay ∧ id = 0)) :
    ({ e with params := e.params.set id v } : StageEntry).need = e.need := by
  unfold StageEntry.need StageKind.need
  cases hk : e.kind with
  | delay =>
    have other : id ≠ 0 := fun zero => reach ⟨hk, zero⟩
    simp [List.getD_eq_getElem?_getD, List.getElem?_set_ne other]
  | _ => rfl

theorem ownRecall {x : RecallReq} (h : Ranged g w r s) : Ranged g w r (ownRecall x t s) := by
  unfold Machine.ownRecall
  split
  · next inRange =>
    split
    · exact h.pendingTake.arrive inRange
    · exact .answer h
  · exact .answer h

theorem ownEdit {x : EditReq} (h : Ranged g w r s) : Ranged g w r (ownEdit x t s) := by
  unfold Machine.ownEdit
  split
  · exact .answer h
  · split
    · exact .answer h
    · next e he =>
      split
      · exact .answer h
      · next v b value =>
        obtain ⟨range, reach⟩ := editValue_some value
        exact .answer <| .setDirty <| .editInst <| h.editEntry (entryAt_some he) (fun _ => rfl)
          (setParam_need reach) fun entry => setParam_entry_ok entry range

theorem ownBypassStage {x : BypassReq} (h : Ranged g w r s) : Ranged g w r (ownBypassStage x t s) := by
  unfold Machine.ownBypassStage
  split
  · exact .answer h
  · split
    · exact .answer h
    · next e he =>
      exact .answer <| .setDirty <| .editInst <| h.editEntry (entryAt_some he) (fun _ => rfl) rfl
        fun entry => (StageEntry.ok_iff _).2 ((StageEntry.ok_iff e).1 entry)

theorem setSlot {n : Nat} {p : Option Preset} (h : Ranged g w r s) (hp : ∀ x ∈ p, x.ok = true) :
    Ranged g w r (s.setSlot n p) := h.setScn (fun hs => Scn.setLibrary_ok hs n hp)

theorem ownStore {x : StoreReq} (h : Ranged g w r s) : Ranged g w r (ownStore x t s) := by
  unfold Machine.ownStore
  split
  · exact .answer h
  · next n _ =>
    split
    · exact .answer h
    · next name =>
      split
      · exact .answer h
      · have named : (s.scn.live.named x.name).ok = true := by
          refine Preset.named_ok (Scn.live_ok h.scn) fun y hy => ?_
          by_contra bad
          exact name (Option.any_eq_true _ _ |>.2 ⟨y, hy, by simpa using bad⟩)
        refine .answer <| .raise <| setSlot ?_ (by rintro _ ⟨⟩; exact named)
        exact h.setScn (fun hs => Scn.setLive_ok
          (Scn.setPhase_ok hs s.scn.generation false (some n) s.scn.phase s.scn.latch) named)

theorem ownWritePreset {x : WritePresetReq} (h : Ranged g w r s) :
    Ranged g w r (ownWritePreset x t s) := by
  unfold Machine.ownWritePreset
  split
  · exact .answer h
  · next clean =>
    dsimp only
    split
    · exact .answer h
    · next cost =>
      split
      · exact .answer h
      · next demand =>
        exact .answer <| h.setSlot <| by
          rintro _ ⟨⟩
          exact storedPreset_ok clean (by omega) (by omega)

theorem ownReadPreset {x : ReadPresetReq} (h : Ranged g w r s) : Ranged g w r (ownReadPreset x t s) := by
  unfold Machine.ownReadPreset
  split
  · exact .answer h
  · split <;> exact .answer h

theorem ownErasePreset {x : ErasePresetReq} (h : Ranged g w r s) :
    Ranged g w r (ownErasePreset x t s) := by
  unfold Machine.ownErasePreset
  split
  · exact .answer h
  · exact .answer <| h.setSlot nofun

theorem ownLatch {x : LatchReq} (h : Ranged g w r s) : Ranged g w r (ownLatch x t s) :=
  .answer <| .setAuxValid <| .setLatch h

theorem ownSetSceneOptions {x : SceneOptionsReq} (h : Ranged g w r s) :
    Ranged g w r (ownSetSceneOptions x t s) := by
  obtain ⟨-, -, safe, fade, -⟩ := (Scn.ok_iff _).1 h.scn
  refine .answer <| h.setScn (fun hs => Scn.setOptions_ok hs ?_ ?_)
  · exact (optSetting_within (by decide) x.safe ⟨Nat.zero_le _, Nat.le_of_lt_succ safe⟩).2
  · exact (optSetting_within (by decide) x.fade ⟨Nat.zero_le _, fade⟩).2

theorem ownWriteCurve {x : WriteCurveReq} (h : Ranged g w r s) : Ranged g w r (ownWriteCurve x t s) := by
  unfold Machine.ownWriteCurve
  split
  · exact .answer h
  · split
    · exact .answer h
    · exact .answer (h.same rfl)

theorem ownWriteImpulse {x : WriteImpulseReq} (h : Ranged g w r s) :
    Ranged g w r (ownWriteImpulse x t s) := by
  unfold Machine.ownWriteImpulse
  split
  · exact .answer h
  · split
    · exact .answer h
    · exact .answer (h.same rfl)

theorem clearMeters (h : Ranged g w r s) : Ranged g w r s.clearMeters := h.same rfl

theorem ownMeters {x : MetersReq} (h : Ranged g w r s) : Ranged g w r (ownMeters x t s) := by
  unfold Machine.ownMeters
  split
  · exact .answer <| .clearMeters h
  · exact .answer h

theorem ownSetTails {x : SetTailsReq} (h : Ranged g w r s) : Ranged g w r (ownSetTails x t s) :=
  .answer <| h.update (tails := fun ht =>
    ⟨optSetting_within (by decide) x.drain ht.1, optSetting_within (by decide) x.life ht.2⟩) id id id id id id id

theorem ownTempoSource {x : TempoSourceReq} (h : Ranged g w r s) :
    Ranged g w r (ownTempoSource x t s) := by
  unfold Machine.ownTempoSource
  split
  · next src edge _ _ =>
    have selected : Ranged g w r { s with tgn := s.tgn.select src edge x.n } :=
      h.setTgn fun ht => Tgn.select_ok ht src edge x.n
    dsimp only
    split
    · exact .answer <| .raise <| .beatEvent selected
    · exact .answer <| .raise selected
  · exact .answer h

theorem ownTempoSet {x : TempoSetReq} (h : Ranged g w r s) : Ranged g w r (ownTempoSet x t s) := by
  unfold Machine.ownTempoSet
  split
  · exact .answer h
  · have written : Ranged g w r { s with tgn :=
        { s.tgn with period := clampNat 12000 144000 x.period }.emptyTapsInTap } :=
      h.setTgn fun ht => Tgn.emptyTapsInTap_ok (Tgn.setPeriod_ok ht (clampNat_within (by decide) _))
    dsimp only
    split
    · exact .answer <| .noticeWrite <| .beatEvent written
    · exact .answer <| .noticeWrite written

theorem ownTap (h : Ranged g w r s) : Ranged g w r (ownTap t s) := by
  unfold Machine.ownTap
  split
  · exact .answer h
  · next source =>
    split
    · exact .answer h
    · have tapped : Ranged g w r { s with tgn := s.tgn.tap.1 } :=
        h.setTgn fun ht => Tgn.tap_ok ht (by simpa using source)
      dsimp only
      split
      · exact .answer <| .noticeWrite <| .beatEvent tapped
      · exact .answer <| .noticeWrite tapped

theorem setTunerMode {m : TunerMode} (h : Ranged g w r s) : Ranged g w r (s.setTunerMode m) := by
  have set : Ranged g w r { s with tun := s.tun.setMode m } := h.setTun fun ht => Tun.setMode_ok ht m
  unfold State.setTunerMode
  dsimp only
  split
  · exact .addReason set
  · exact .removeReason set

theorem ownTunerMode {x : TunerModeReq} (h : Ranged g w r s) : Ranged g w r (ownTunerMode x t s) := by
  unfold Machine.ownTunerMode
  split
  · exact .answer h
  · dsimp only
    split
    · exact .answer h
    · exact .answer <| .raise <| .setTunerMode h

theorem ownTunerSet {x : TunerSetReq} (h : Ranged g w r s) : Ranged g w r (ownTunerSet x t s) := by
  unfold Machine.ownTunerSet
  split
  · exact .answer h
  · next k hk =>
    exact .answer <| h.setTun fun ht => Tun.setFloor_ok
      (Tun.setK_ok (Tun.setReference_ok ht x.reference) (Tun.optAveraging_values hk)) x.floor

theorem ownTunerRead {x : TunerReadReq} (h : Ranged g w r s) : Ranged g w r (ownTunerRead x t s) := by
  unfold Machine.ownTunerRead
  split <;> exact .answer h

theorem ownMute {x : MuteReq} (h : Ranged g w r s) : Ranged g w r (ownMute x t s) := by
  unfold Machine.ownMute
  split
  · exact .answer h
  · dsimp only
    split
    · exact .answer <| .addReason h
    · exact .answer <| .removeReason h

theorem loadSafe {p : Port} (h : Ranged g w r s) : Ranged g w r (s.loadSafe p) := by
  have record : ((s.scn.library.getD s.scn.safeIdx none).getD cleanScene).ok = true := by
    cases hslot : s.scn.library.getD s.scn.safeIdx none with
    | none => exact cleanScene_ok
    | some p => exact Scn.library_ok h.scn hslot
  obtain ⟨-, -, -, -, -, -, tempo, -⟩ := (Preset.ok_iff _).1 record
  have loaded : Ranged g w r { s with scn := { s.scn with
      live := (s.scn.library.getD s.scn.safeIdx none).getD cleanScene
      origin := if (s.scn.library.getD s.scn.safeIdx none).isSome then some s.scn.safeIdx else none
      dirty := false } } :=
    h.setScn (fun hs => Scn.setPhase_ok (Scn.setLive_ok hs record) s.scn.generation false _
      s.scn.phase s.scn.latch)
  exact (raise loaded).presetTempo tempo

theorem releaseTails {f : Tail → Bool} (h : Ranged g w r s) :
    Ranged g w r { s with spl := s.spl.releaseTails f } := h.same rfl

theorem awaitStart {m : ResumeMode} {b : Option Bool} (h : Ranged g w r s) :
    Ranged g w r (s.awaitStart t m b) := h.same rfl

theorem resumeBypass (h : Ranged g w r s) : Ranged g w r s.resumeBypass := by
  refine .relayTakesTarget <| h.update (limit := fun hl => ?_) id id id id id id id
  rw [show ((s.opu.swapReason .stopped .fault).ordinaryMove .bypass).limit = _ from
    ordinaryMove_limit _ _]
  exact hl

theorem resumeIn {m : ResumeMode} (h : Ranged g w r s) : Ranged g w r (s.resumeIn t m) := by
  cases m with
  | scene => exact .awaitStart <| .startEngine h
  | safe => exact .awaitStart <| .startEngine <| .loadSafe h
  | bypass => exact .answer <| .resumeBypass h

theorem acceptResume {m : ResumeMode} (h : Ranged g w r s) : Ranged g w r (s.acceptResume t m) :=
  .resumeIn <| .raise <| h.same (t := { s with opu := _, spl := _ }) rfl

theorem ownResume {x : ResumeReq} (h : Ranged g w r s) : Ranged g w r (ownResume x t s) := by
  unfold Machine.ownResume
  split
  · exact .answer h
  · split
    · exact .answer h
    · split
      · exact .answer h
      · exact .acceptResume h

theorem ownFailoverRead (h : Ranged g w r s) : Ranged g w r (ownFailoverRead t s) := by
  unfold Machine.ownFailoverRead
  split
  · refine .answer <| h.setOpu ?_
    cases t.port <;> rfl
  · exact .answer h

theorem ownFailoverClear (h : Ranged g w r s) : Ranged g w r (ownFailoverClear t s) := by
  unfold Machine.ownFailoverClear
  split
  · exact .answer (h.same rfl)
  · exact .answer h

theorem ownSetProtection {x : ProtectionReq} (h : Ranged g w r s) :
    Ranged g w r (ownSetProtection x t s) := by
  unfold Machine.ownSetProtection
  split
  · exact .answer <| h.update (limit := fun hl =>
      (optSetting_within (by decide) x.limit ⟨Nat.zero_le _, hl⟩).2) id id id id id id id
  · exact .answer h

theorem ownLinkStart (h : Ranged g w r s) : Ranged g w r (ownLinkStart t s) := by
  refine .answer <| .removeReason <| .linkStarted <| .coldStart ?_
  exact (abortRest h).same rfl

theorem ownLinkRest (h : Ranged g w r s) : Ranged g w r (ownLinkRest t s) := by
  unfold Machine.ownLinkRest
  split
  · exact .answer h
  · exact .linkRestFinal (h.same rfl)

theorem ownLinkWake (h : Ranged g w r s) : Ranged g w r (ownLinkWake t s) := by
  unfold Machine.ownLinkWake
  split
  · exact .answer <| .wake h
  · split
    · exact .answer <| .removeReason <| .abortRest h
    · exact .answer h
  all_goals exact .answer h

theorem joinQueue {a : Access} (h : Ranged g w r s) (room : s.lnk.queue.length < 4)
    (unsent : a.sent = false) (index : a.index < 128) : Ranged g w r (s.joinQueue a) :=
  h.update (queue := fun hq => hq.concat room unsent index) id id id id id id id

theorem registerOf_lt {v : Int} {n : Nat} (h : registerOf v = some n) : n < 128 := by
  unfold registerOf inRange at h
  split at h
  · obtain rfl : v.toNat = n := by simpa using h
    omega
  · cases h

theorem convRefusal_none {k : Lnk} {x : Target} (h : k.convRefusal x = none) : k.queue.length < 4 := by
  unfold Lnk.convRefusal at h
  split at h
  · cases h
  · split at h
    · cases h
    · omega

theorem ownConvRead {tag : Byte} {x : ConvReadReq} (h : Ranged g w r s) :
    Ranged g w r (ownConvRead tag x t s) := by
  unfold Machine.ownConvRead
  split
  · next index =>
    split
    · exact .answer h
    · next open_ => exact h.joinQueue (convRefusal_none open_) rfl (registerOf_lt index)
  · exact .answer h

theorem ownConvWrite {tag : Byte} {x : ConvWriteReq} (h : Ranged g w r s) :
    Ranged g w r (ownConvWrite tag x t s) := by
  unfold Machine.ownConvWrite
  split
  · next index _ =>
    split
    · exact .answer h
    · next open_ =>
      exact .answer <| h.joinQueue (convRefusal_none open_) rfl (registerOf_lt index)
  · exact .answer h

theorem ownSubscribe {x : SubscribeReq} (h : Ranged g w r s) : Ranged g w r (ownSubscribe x t s) := by
  unfold Machine.ownSubscribe
  split
  · exact .answer h
  · exact .answer (h.same rfl)

theorem ownRestart (h : Ranged g w r s) : Ranged g w r (ownRestart t s) := h.same rfl

theorem owner {tag : Byte} {q : Request} (h : Ranged g w r s) : Ranged g w r (q.owner tag t s) := by
  cases q with
  | edit r => exact .ownEdit h
  | bypassStage r => exact .ownBypassStage h
  | store r => exact .ownStore h
  | writePreset r => exact .ownWritePreset h
  | readPreset r => exact .ownReadPreset h
  | erasePreset r => exact .ownErasePreset h
  | latch r => exact .ownLatch h
  | sceneRead => exact .answer h
  | setSceneOptions r => exact .ownSetSceneOptions h
  | writeCurve r => exact .ownWriteCurve h
  | writeImpulse r => exact .ownWriteImpulse h
  | meters r => exact .ownMeters h
  | setTails r => exact .ownSetTails h
  | tempoSource r => exact .ownTempoSource h
  | tempoSet r => exact .ownTempoSet h
  | tap => exact .ownTap h
  | tempoRead => exact .answer h
  | tunerMode r => exact .ownTunerMode h
  | tunerSet r => exact .ownTunerSet h
  | tunerRead r => exact .ownTunerRead h
  | mute r => exact .ownMute h
  | resume r => exact .ownResume h
  | faultRead => exact .answer h
  | failoverRead => exact .ownFailoverRead h
  | failoverClear => exact .ownFailoverClear h
  | setProtection r => exact .ownSetProtection h
  | linkStart => exact .ownLinkStart h
  | linkRest => exact .ownLinkRest h
  | linkWake => exact .ownLinkWake h
  | convRead r => exact .ownConvRead h
  | convWrite r => exact .ownConvWrite h
  | auxRead => exact .answer h
  | subscribe r => exact .ownSubscribe h
  | identify => exact .answer h
  | restart => exact .ownRestart h
  -- RECALL stands last: its constructor's name is a keyword of Mathlib's.
  | _ r => exact .ownRecall h

/-- Every event of the blocks keeps the ranges of a state between frames. -/
theorem block {f : State → State} (e : BlockEvent f) (h : Ranged 15 8 2048 s) :
    Ranged 15 8 2048 (f s) := by
  have wide : Ranged 31 8 2048 s := h.mono (by decide) (Nat.le_refl _) (Nat.le_refl _)
  have narrow : ∀ {u : State}, Ranged 15 7 2047 u → Ranged 15 8 2048 u := fun hu =>
    hu.mono (Nat.le_refl _) (Nat.le_succ _) (Nat.le_succ _)
  cases e with
  | frameReceived f0 f1 => exact narrow wide.frameReceived
  | frameSent => exact narrow wide.frameSent
  | blockBoundary => exact .blockBoundary wide
  | finishPass => exact .finishPass h
  | tailDrainExpiry => exact .tailDrainExpiry h
  | tailLifeExpiry => exact .tailLifeExpiry h
  | grantAfterReclaim => exact .grantAfterReclaim h
  | startingComplete => exact .startingComplete h
  | engineAutoStart => exact .engineAutoStart h
  | endOfPrepare => exact .endOfPrepare h
  | commit => exact .commit h
  | gapInEnd => exact .gapInEnd h
  | pendingTake => exact .pendingTake h
  | beatUnderflow => exact .beatUnderflow h
  | beatLampOff => exact .beatLampOff h
  | tapTimeout => exact .tapTimeout h
  | pulseEdge d => exact .pulseEdge h
  | pulseLost => exact .pulseLost h
  | tunerTimeout => exact .tunerTimeout h
  | runaway => exact (runaway h).mono (Nat.le_refl _) (Nat.le_refl _) (Nat.le_succ _)
  | gainMuted => exact .gainMuted h
  | gainOpen => exact .gainOpen h
  | relayTakesTarget => exact .relayTakesTarget h
  | relayHoldEnd => exact .relayHoldEnd h
  | linkRestFinal => exact .linkRestFinal h
  | frameLossExpiry => exact .frameLossExpiry h
  | coldStartExpiry => exact .coldStartExpiry h
  | converterWake => exact .converterWake h
  | wakeDeferralExpiry => exact .wakeDeferralExpiry h
  | wakingExpiry => exact .wakingExpiry h
  | convReadCompletion => exact .convReadCompletion h
  | convReadTimeout => exact .convReadTimeout h
  | levelWriteJoin => exact .levelWriteJoin h
  | settle => exact narrow wide.settle
  | elapse d => exact .elapse h

/-- No event of a line is about a range. -/
theorem line {f : State → State} (e : LineEvent f) (h : Ranged g w r s) : Ranged g w r (f s) := by
  cases e with
  | receive p b e => exact h.same rfl
  | rxTimeout p =>
    unfold State.rxTimeout
    split
    · exact h
    · exact h.same rfl
  | replySendStart p =>
    unfold State.replySendStart
    split
    · split
      · exact h.same rfl
      · exact h
    · exact h
  | noticeSendStart p =>
    unfold State.noticeSendStart
    split
    · exact h.same rfl
    · exact h
  | txMessageEnd p => exact h.same rfl

theorem restarted (h : Ranged 15 8 2048 s) : Ranged 15 8 2048 s.restarted := by
  have reset := (rangesOk_iff _).1 resetMeetsTheInvariants.2.2.2.1
  obtain ⟨-, tgn, tun, -, tails, limit, runaway, block⟩ := reset
  refine ⟨?_, tgn, tun, .nil, tails, limit, runaway, block⟩
  obtain ⟨library, -, safe, fade, -⟩ := (Scn.ok_iff _).1 h.scn
  exact (Scn.ok_iff _).2 ⟨library, cleanScene_ok, safe, fade, nofun, nofun⟩

theorem survives : Survives (Ranged 15 8 2048) where
  queue _ _ _ h := h.same rfl
  request s p tag q h := by
    obtain held | ⟨rs, e, -, -, -, -, taken⟩ := takeRequest_cases p tag q (q.owner tag) s
    · rwa [held]
    · rw [taken]
      exact .owner (h.same rfl)
  bad s p body h := by
    obtain held | ⟨tag, kind, item, rs, e, -, -, -, -, -, taken⟩ := takeBad_cases p body s
    · rwa [held]
    · rw [taken]
      exact .answer (h.same rfl)
  block _ _ e _ h := .block e h
  line _ _ e _ h := .line e h
  restartApply s _ h := by
    unfold State.restartApply
    split
    · exact .restarted h
    · exact h
  powerOnAssert _ _ := ((rangesOk_iff _).1 resetMeetsTheInvariants.2.2.2.1).same rfl
  powerOnRelease s h := by
    unfold State.powerOnRelease
    split
    · exact ((rangesOk_iff _).1 resetMeetsTheInvariants.2.2.2.1).same rfl
    · exact h

end Ranged

end Sys2Proof.Machine

namespace Sys2Proof
open Machine

/-- Settles O60: `Ranged` is kept by every event, with the counts of a frame brought back by everything
that falls due in it (`Ranged.settle`). -/
theorem stepKeepsTheRanges : Obligations.StepKeepsTheRanges := fun s t h stepped =>
  (rangesOk_iff t).2 (Ranged.survives.step ((rangesOk_iff s).1 h) stepped)

end Sys2Proof

/-!
Where the segments are (R52, R57), as a view of the state.

`State.poolView` shows the places that hold segments and what decides where none may be held.
`PoolView.Ok` is the invariant over it (`poolOk_iff`).  Most operations leave the view as it is; the
others change it as one of the moves below: segments return to the free list, are granted, pass from one
context to the other.
-/
namespace Sys2Proof.Machine

/-! ### What changes no segments -/

/-- The segments of a chain's stages. -/
def chainSegs (is : List StageInst) : List Nat := is.flatMap (·.segs)

theorem chainSegs_map {f : StageInst → StageInst} (hf : ∀ i, (f i).segs = i.segs) (is : List StageInst) :
    chainSegs (is.map f) = chainSegs is := by
  simp [chainSegs, List.flatMap_map, hf]

theorem chainSegs_modify {f : StageInst → StageInst} (hf : ∀ i, (f i).segs = i.segs) :
    ∀ (is : List StageInst) (n : Nat), chainSegs (is.modify n f) = chainSegs is
  | [], _ => by simp
  | i :: is, 0 => by simp [chainSegs, hf]
  | i :: is, n + 1 => by
    have rest := chainSegs_modify hf is n
    unfold chainSegs at rest ⊢
    simp [rest]

theorem setParam_segs (i : StageInst) (id : Nat) (v : Int) : (i.setParam id v).segs = i.segs := by
  unfold StageInst.setParam
  split <;> rfl

theorem Context.handBeat_segs (b : Nat) (c : Context) : (c.handBeat b).segs = c.segs := by
  refine congrArg (· ++ c.granted) (chainSegs_map (fun i => ?_) c.stages)
  split <;> rfl

theorem chainSegs_updateStages : ∀ (is : List StageInst) (rs : List StageReport),
    chainSegs (updateStages is rs) = chainSegs is
  | [], _ => rfl
  | _ :: _, [] => rfl
  | i :: is, _ :: rs => congrArg (i.segs ++ ·) (chainSegs_updateStages is rs)

theorem chainSegs_cutHolds : ∀ (n : Nat) (is : List StageInst), chainSegs (cutHolds n is) = chainSegs is
  | 0, _ => by simp [cutHolds]
  | _ + 1, [] => rfl
  | n + 1, i :: is => by
    unfold cutHolds
    split
    · exact congrArg (i.segs ++ ·) (chainSegs_cutHolds n is)
    · exact congrArg (i.segs ++ ·) (chainSegs_cutHolds (n + 1) is)

theorem startPass_segs (l : Lib) (i : StageInst) : (startPass l i).segs = i.segs := by
  unfold startPass StageInst.mark
  dsimp only
  repeat' split
  all_goals rfl

theorem startTailPass_segs (i : StageInst) : (startTailPass i).segs = i.segs := by
  unfold startTailPass
  split <;> rfl

theorem runStage_segs (l : Lib) (o : Bool) (rs : List Int) (w : WetMode) (i : StageInst)
    (mem : List (Nat × Int)) (xs : List Int) : (runStage l o rs w i mem xs).inst.segs = i.segs := by
  unfold runStage
  dsimp only
  repeat' split
  all_goals rfl

theorem chainSegs_runChain (l : Lib) (o : Bool) (rs : List Int) (g : Option (List Int)) :
    ∀ (is : List StageInst) (mem : List (Nat × Int)) (xs : List Int),
      chainSegs (runChain l o rs g is mem xs).stages = chainSegs is
  | [], _, _ => rfl
  | i :: is, _, _ => congrArg₂ (· ++ ·) ((runStage_segs _ _ _ _ _ _ _).trans (startPass_segs l i))
      (chainSegs_runChain l o rs g is _ _)

/-- Tail by tail the same segments. -/
theorem tailSegs_map {f : Tail → Tail} (hf : ∀ t, (f t).inst.segs = t.inst.segs) (ts : List Tail) :
    tailSegs (ts.map f) = tailSegs ts := by
  simp [tailSegs, List.flatMap_map, hf]

theorem cutNow_segs (t : Tail) : t.cutNow.inst.segs = t.inst.segs := by
  unfold Tail.cutNow
  split <;> rfl

theorem tailSegs_cutOldest : ∀ (n : Nat) (ts : List Tail), tailSegs (cutOldest n ts) = tailSegs ts
  | 0, _ => by simp [cutOldest]
  | _ + 1, [] => rfl
  | n + 1, t :: ts => by
    unfold cutOldest
    split
    · exact congrArg₂ (· ++ ·) (cutNow_segs t) (tailSegs_cutOldest n ts)
    · exact congrArg (t.inst.segs ++ ·) (tailSegs_cutOldest (n + 1) ts)

theorem tailSegs_reclaim (d : Nat) : ∀ (ts : List Tail) (a : Nat), tailSegs (reclaim d a ts) = tailSegs ts
  | [], _ => rfl
  | t :: ts, a => by
    unfold reclaim
    split
    · exact congrArg₂ (· ++ ·) (cutNow_segs t) (tailSegs_reclaim d ts _)
    · exact congrArg (t.inst.segs ++ ·) (tailSegs_reclaim d ts a)

theorem tailSegs_runTails (l : Lib) (xs : List Int) : ∀ (ts : List Tail) (mem : List (Nat × Int)),
    tailSegs (runTails l xs ts mem).tails = tailSegs ts
  | [], _ => rfl
  | t :: ts, _ => congrArg₂ (· ++ ·) ((runStage_segs _ _ _ _ _ _ _).trans (startTailPass_segs t.inst))
      (tailSegs_runTails l xs ts _)

theorem tailSegs_updateTails : ∀ (ts : List Tail) (rs : List StageReport),
    tailSegs (updateTails ts rs) = tailSegs ts
  | [], _ => rfl
  | _ :: _, [] => rfl
  | t :: ts, r :: rs => by
    unfold updateTails
    dsimp only
    refine congrArg₂ (· ++ ·) ?_ (tailSegs_updateTails ts rs)
    dsimp only
    split <;> rfl

theorem expireLife_segs (t : Tail) : (expireLife t).inst.segs = t.inst.segs := by
  unfold expireLife
  split <;> rfl

/-- A built stage holds the segments it is given. -/
theorem buildStage_segs (l : Lib) (n : Nat) (segs : List Nat) (e : StageEntry) :
    (buildStage l n segs e).segs = segs := by
  unfold buildStage
  dsimp only
  split <;> rfl

/-- A build step moves segments within its context (R99). -/
theorem Context.buildStep_segs (l : Lib) (n : Nat) (es : List StageEntry) (c : Context) :
    (c.buildStep (nextStage l n es c)).segs = c.segs := by
  unfold nextStage
  cases es[c.stages.length]? with
  | none => rfl
  | some e =>
    have taken : c.granted.take e.need ++ c.granted.drop (c.granted.take e.need).length = c.granted := by
      rw [List.length_take]
      rcases Nat.le_total e.need c.granted.length with le | ge
      · rw [Nat.min_eq_left le, List.take_append_drop]
      · rw [Nat.min_eq_right ge, List.take_of_length_le ge, List.drop_length, List.append_nil]
    simp only [Option.map_some, Context.buildStep, Context.segs, buildStage_segs, List.flatMap_append,
      List.flatMap_cons, List.flatMap_nil, List.append_nil, List.append_assoc, taken]

/-! ### The view -/

/-- The places that hold segments, and what decides where none may be held. -/
structure PoolView where
  free : List Nat
  front : List Nat
  back : List Nat
  granted : List Nat
  tails : List Nat
  waits : Bool
  faulted : Bool
  pending : Bool
  engine : EngineState
  phase : SwitchPhase
  commit : Option Bool
  canonical : Bool

/-- The view of a state. -/
def State.poolView (s : State) : PoolView where
  free := s.spl.free
  front := s.sen.front.segs
  back := s.sen.back.segs
  granted := s.sen.back.granted
  tails := tailSegs s.spl.tails
  waits := s.spl.grant.isSome
  faulted := s.opu.fault.isSome
  pending := s.scn.pendingRecall.isSome
  engine := s.sen.engine
  phase := s.scn.phase
  commit := s.scn.switch.map (·.commitDue)
  canonical := Memory.wf s.spl.mem

namespace PoolView

/-- Every segment, wherever it is held. -/
def held (v : PoolView) : List Nat := v.free ++ (v.front ++ (v.back ++ v.tails))

/-- Each of the 48 segments is in one place. -/
def Conserved (v : PoolView) : Prop := v.held.Perm (List.range 48) ∧ v.free.Pairwise (· < ·)

/-- Where no segment may be held. -/
structure Placed (v : PoolView) : Prop where
  fault : v.faulted = true → v.engine = .fault
  front : v.engine = .run ∨ v.engine = .starting ∨ v.front = []
  idle : v.engine ≠ .run → v.back = [] ∧ v.waits = false ∧ v.pending = false
  apart : v.back ≠ [] → v.commit.isSome = true ∧ v.phase ≠ .gapIn
  waiting : v.waits = true → v.granted = [] ∧ v.phase = .prepare ∧ v.commit = some false

/-- The pool and the delay memory are sound. -/
structure Ok (v : PoolView) : Prop where
  conserved : v.Conserved
  placed : v.Placed
  canonical : v.canonical = true

/-! ### Moves of segments -/

variable {v : PoolView}

theorem Conserved.nodup (h : v.Conserved) : v.held.Nodup := h.1.nodup_iff.2 List.nodup_range

/-- Segments that leave their places return to the free list. -/
theorem Conserved.returned (h : v.Conserved) {xs rest : List Nat}
    (perm : (xs ++ rest).Perm (v.front ++ (v.back ++ v.tails))) :
    (putSegments xs v.free ++ rest).Perm (List.range 48) ∧
      (putSegments xs v.free).Pairwise (· < ·) := by
  have all : (xs ++ v.free ++ rest).Perm v.held := by
    rw [List.append_assoc]
    refine (List.perm_append_comm_assoc _ _ _).trans ?_
    exact perm.append_left v.free
  refine ⟨((putSegments_perm xs v.free).append_right rest).trans (all.trans h.1),
    putSegments_sorted h.2 ?_⟩
  exact (all.nodup_iff.2 h.nodup).sublist (List.sublist_append_left _ _)

/-- Segments granted from the free list pass to a place. -/
theorem Conserved.granting (h : v.Conserved) {rest : List Nat} (m : Nat)
    (perm : rest.Perm (v.free.take m ++ (v.front ++ (v.back ++ v.tails)))) :
    (v.free.drop m ++ rest).Perm (List.range 48) ∧ (v.free.drop m).Pairwise (· < ·) := by
  refine ⟨?_, h.2.sublist (List.drop_sublist m _)⟩
  refine (perm.append_left _).trans ?_
  rw [← List.append_assoc]
  refine (List.perm_append_comm.append_right _).trans ?_
  rw [List.take_append_drop]
  exact h.1

/-- Tails are released (R57). -/
theorem Ok.release (h : v.Ok) {xs ts : List Nat} (perm : (xs ++ ts).Perm v.tails) :
    Ok { v with free := putSegments xs v.free, tails := ts } := by
  obtain ⟨fault, front, idle, apart, waiting⟩ := h.placed
  refine ⟨?_, ⟨fault, front, idle, apart, waiting⟩, h.canonical⟩
  have := h.conserved.returned (xs := xs) (rest := v.front ++ (v.back ++ ts)) (by
    refine (List.perm_append_comm_assoc _ _ _).trans (.append_left _ ?_)
    exact (List.perm_append_comm_assoc _ _ _).trans (.append_left _ perm))
  exact this

/-- The back context is emptied (R57). -/
theorem Ok.emptyBack (h : v.Ok) :
    Ok { v with free := putSegments v.back v.free, back := [], granted := [] } := by
  obtain ⟨fault, front, idle, -, waiting⟩ := h.placed
  refine ⟨?_, ⟨fault, front, fun stopped => ⟨rfl, (idle stopped).2⟩, fun held => absurd rfl held,
    fun waits => ⟨rfl, (waiting waits).2⟩⟩, h.canonical⟩
  exact h.conserved.returned (rest := v.front ++ ([] ++ v.tails)) (List.perm_append_comm_assoc _ _ _)

/-- Nothing is held but by the free list: the engine has stopped (R8, R57, R71). -/
theorem Ok.halted (free : v.free = List.range 48) (front : v.front = []) (back : v.back = [])
    (tails : v.tails = []) (waits : v.waits = false) (pending : v.pending = false)
    (fault : v.faulted = true → v.engine = .fault) (canonical : v.canonical = true) : v.Ok := by
  refine ⟨⟨?_, ?_⟩, ⟨fault, .inr (.inr front), fun _ => ⟨back, waits, pending⟩,
    fun held => absurd back held, fun waiting => absurd waiting (by simp [waits])⟩, canonical⟩
  · simp [held, free, front, back, tails]
  · rw [free]
    exact List.pairwise_lt_range

/-- The front context is granted its segments as the engine starts (R6). -/
theorem Ok.startFront (h : v.Ok) (m : Nat) (clear : v.faulted = false)
    (still : v.engine = .stopped ∨ v.engine = .fault) :
    Ok { v with free := v.free.drop m, front := v.free.take m, engine := .starting } := by
  obtain ⟨-, front, idle, apart, waiting⟩ := h.placed
  have none : v.front = [] := by
    rcases still with e | e <;> simpa [e] using front
  have stopped : v.engine ≠ .run := by
    rcases still with e | e <;> simp [e]
  refine ⟨?_, ⟨fun faulted => absurd faulted (by simp [clear]), .inr (.inl rfl),
    fun _ => idle stopped, apart, waiting⟩, h.canonical⟩
  exact h.conserved.granting m (by simp [none])

/-- The back context is granted its segments (R54). -/
theorem Ok.grantBack (h : v.Ok) (m : Nat) (run : v.engine = .run)
    (underway : v.commit.isSome = true) (phase : v.phase ≠ .gapIn) {back : List Nat}
    (added : back = v.back ++ v.free.take m) :
    Ok { v with
      free := v.free.drop m, back := back, granted := v.free.take m, waits := false } := by
  obtain ⟨fault, front, -, -, -⟩ := h.placed
  refine ⟨?_, ⟨fault, front, fun stopped => absurd run stopped, fun _ => ⟨underway, phase⟩,
    fun waits => absurd waits (by simp)⟩, h.canonical⟩
  refine h.conserved.granting m ?_
  rw [added]
  refine (List.Perm.append_left _ ?_).trans (List.perm_append_comm_assoc _ _ _)
  rw [List.append_assoc]
  exact List.perm_append_comm_assoc _ _ _

/-- The contexts are exchanged: of what the front held, some passes to the tails and the rest returns
(R13, R63). -/
theorem Ok.exchange (h : v.Ok) {xs ys : List Nat} (perm : (xs ++ ys).Perm v.front)
    (granted : v.waits = false) (phase : SwitchPhase) (commit : Option Bool) :
    Ok { v with
      free := putSegments xs v.free, front := v.back, back := [], granted := []
      tails := v.tails ++ ys, phase := phase, commit := commit } := by
  obtain ⟨fault, -, idle, -, -⟩ := h.placed
  refine ⟨?_, ⟨fault, ?_, fun stopped => ⟨rfl, (idle stopped).2⟩, fun held => absurd rfl held,
    fun waits => absurd waits (by simp [granted])⟩, h.canonical⟩
  · refine h.conserved.returned (rest := v.back ++ ([] ++ (v.tails ++ ys))) ?_
    have order : (v.back ++ (v.tails ++ ys)).Perm (ys ++ (v.back ++ v.tails)) := by
      rw [← List.append_assoc]
      exact List.perm_append_comm
    refine (order.append_left xs).trans ?_
    rw [← List.append_assoc]
    exact perm.append_right _
  · by_cases run : v.engine = .run
    · exact .inl run
    · exact .inr (.inr (idle run).1)

end PoolView

/-- The invariant of the pool is one about the view. -/
def Pooled (s : State) : Prop := s.poolView.Ok

theorem poolOk_iff (s : State) : s.poolOk = true ↔ Pooled s := by
  have conserved : s.segsConserved = true ↔ s.poolView.Conserved := by
    simp [State.segsConserved, PoolView.Conserved, PoolView.held, State.poolView, State.heldSegs,
      List.append_assoc]
  have placed : s.segsPlaced = true ↔ s.poolView.Placed := by
    simp only [State.segsPlaced, Bool.and_eq_true, Bool.or_eq_true, decide_eq_true_eq,
      Option.isNone_iff_eq_none, List.isEmpty_iff, Option.any_eq_true, Bool.not_eq_true']
    constructor
    · rintro ⟨⟨⟨⟨fault, front⟩, idle⟩, apart⟩, waiting⟩
      constructor <;> simp only [State.poolView] <;> grind [Option.isSome_iff_ne_none]
    · rintro ⟨fault, front, idle, apart, waiting⟩
      simp only [State.poolView] at fault front idle apart waiting
      simp only [Option.isSome_iff_ne_none, ne_eq, Option.isSome_eq_false_iff,
        Option.isNone_iff_eq_none, Option.map_eq_some_iff] at fault idle waiting
      refine ⟨⟨⟨⟨?_, ?_⟩, ?_⟩, ?_⟩, ?_⟩ <;> grind
  unfold State.poolOk
  rw [Bool.and_eq_true, Bool.and_eq_true, conserved, placed]
  exact ⟨fun ⟨⟨c, p⟩, m⟩ => ⟨c, p, m⟩, fun ⟨c, p, m⟩ => ⟨⟨c, p⟩, m⟩⟩

end Sys2Proof.Machine

/-!
The segments stay where they belong (R52, R54, R57, R71): every operation of the engine and of the switch
keeps `Pooled`.

Passes change what the stages hold in the delay memory but not their segments; a tail's release, the grant
and the exchange of the contexts are the moves of `PoolView`.  The engine's stop and the abandonment of its
switch are one move (`Pooled.halt`): between the two a recall may stand pending without an engine that runs.
-/
namespace Sys2Proof.Machine

namespace Pooled
variable {s : State}

theorem same {t : State} (h : Pooled s) (kept : t.poolView = s.poolView) : Pooled t := by
  unfold Pooled
  rwa [kept]

theorem raise {n : Notice} (h : Pooled s) : Pooled (s.raise n) := h.same rfl

theorem answer {t : Ticket} {st : Status} {f : Fields} (h : Pooled s) : Pooled (s.answer t st f) :=
  h.same rfl

theorem elapse {d : Nat} (h : Pooled s) : Pooled (s.elapse d) := h.same rfl

theorem addReason {x : Reason} (h : Pooled s) : Pooled (s.addReason x) := h.same rfl

theorem removeReason {x : Reason} (h : Pooled s) : Pooled (s.removeReason x) := h.same rfl

theorem nextFree {n : Nat} (h : Pooled s) : Pooled { s with freeCtr := n } := h.same rfl

/-- The delay memory and what is granted, but not yet built, may change within their bounds. -/
theorem rebuilt {t : State} (h : Pooled s)
    (kept : { t.poolView with granted := s.sen.back.granted, canonical := true } =
      { s.poolView with canonical := true })
    (granted : s.sen.back.granted = [] → t.sen.back.granted = [])
    (canonical : Memory.wf s.spl.mem = true → Memory.wf t.spl.mem = true) : Pooled t := by
  have view : t.poolView = { s.poolView with
      granted := t.sen.back.granted, canonical := Memory.wf t.spl.mem } :=
    congrArg (fun v : PoolView => { v with
      granted := t.sen.back.granted, canonical := Memory.wf t.spl.mem }) kept
  obtain ⟨conserved, ⟨fault, front, idle, apart, waiting⟩, wf⟩ := h
  unfold Pooled
  rw [view]
  exact ⟨conserved, ⟨fault, front, idle, apart, fun waits =>
    ⟨granted (waiting waits).1, (waiting waits).2⟩⟩, canonical wf⟩

/-! ### The tempo generator -/

theorem setTgn {t : Tgn} (h : Pooled s) : Pooled { s with tgn := t } := h.same rfl

theorem beatEvent {c : BeatCause} (h : Pooled s) : Pooled (s.beatEvent c) := by
  refine .raise <| h.same ?_
  simp only [State.poolView, Context.handBeat_segs]
  rfl

theorem noticeWrite {b : Nat} {x : TempoWriter} {p : Option Port} (h : Pooled s) :
    Pooled (s.noticeWrite b x p) := by
  unfold State.noticeWrite
  split
  · exact h
  · exact .raise h

theorem presetTempo {p : Option Port} {v : Option Nat} (h : Pooled s) : Pooled (s.presetTempo p v) := by
  unfold State.presetTempo
  split
  · exact h
  · split
    · exact h
    · exact .noticeWrite h.setTgn

theorem beatUnderflow (h : Pooled s) : Pooled s.beatUnderflow := by
  unfold State.beatUnderflow
  split
  · exact .beatEvent h
  · exact h

theorem beatLampOff (h : Pooled s) : Pooled s.beatLampOff := by
  unfold State.beatLampOff
  split
  · exact h.setTgn
  · exact h

theorem tapTimeout (h : Pooled s) : Pooled s.tapTimeout := by
  unfold State.tapTimeout
  split
  · exact h.setTgn
  · exact h

theorem firstEdge (h : Pooled s) : Pooled s.firstEdge := .raise <| .beatEvent h.setTgn

theorem pulseBeat (h : Pooled s) : Pooled s.pulseBeat := by
  have beat : Pooled (State.beatEvent { s with tgn := { s.tgn with
      pulseCount := 0, period := clampNat 12000 144000 s.tgn.pulseInterval
      pulseStamp := some s.tgn.frameCount } } .pulse) := .beatEvent h.setTgn
  unfold State.pulseBeat
  dsimp only
  split
  · exact beat
  · exact .raise beat

theorem countedEdge (h : Pooled s) : Pooled s.countedEdge := by
  unfold State.countedEdge
  split
  · exact h
  · exact .firstEdge h
  · split
    · exact h.setTgn
    · exact .pulseBeat h
  · exact .raise h.setTgn

theorem pulseEdge {d : EdgeDir} (h : Pooled s) : Pooled (s.pulseEdge d) := by
  unfold State.pulseEdge
  split
  · exact .countedEdge h
  · exact h

theorem pulseLost (h : Pooled s) : Pooled s.pulseLost := by
  unfold State.pulseLost
  split
  · exact .raise <| .beatEvent h.setTgn
  · exact h

theorem tempoFrame (h : Pooled s) : Pooled s.tempoFrame :=
  .pulseLost <| .tapTimeout <| .beatLampOff <| .beatUnderflow h.setTgn

/-! ### Passes -/

theorem setSummaryClip (h : Pooled s) : Pooled s.setSummaryClip := by
  unfold State.setSummaryClip
  split
  · exact h
  · exact .raise <| h.same (t := { s with sen := { s.sen with summaryClip := true } }) rfl

theorem releaseTails {f : Tail → Bool} (h : Pooled s) :
    Pooled { s with spl := s.spl.releaseTails f } :=
  PoolView.Ok.release h <| by
    have split : tailSegs (s.spl.tails.filter f ++ s.spl.tails.filter fun t => !f t) =
        tailSegs (s.spl.tails.filter f) ++ tailSegs (s.spl.tails.filter fun t => !f t) := by
      simp [tailSegs]
    exact split ▸ (List.filter_append_perm f s.spl.tails).flatMap_right _

theorem passComplete (h : Pooled s) : Pooled s.passComplete := by
  have clipped : ∀ (b : Bool) (u : State), Pooled u →
      Pooled (if b then u.setSummaryClip else u) := by
    intro b u hu
    cases b
    · exact hu
    · exact .setSummaryClip hu
  unfold State.passComplete
  split
  · exact h
  · next r _ =>
    have updated : Pooled { s with
        sen := { s.sen with
          pass := none
          ready := r.outs
          lastLoad := s.sen.load
          front := { s.sen.front with stages := updateStages s.sen.front.stages r.front }
          back := { s.sen.back with stages := updateStages s.sen.back.stages r.back } }
        spl := { s.spl with tails := updateTails s.spl.tails r.tails } } := by
      refine h.same ?_
      have front := chainSegs_updateStages s.sen.front.stages r.front
      have back := chainSegs_updateStages s.sen.back.stages r.back
      unfold chainSegs at front back
      simp only [State.poolView, Context.segs, front, back, tailSegs_updateTails]
    have released := releaseTails (f := fun t : Tail =>
      decide (t.state = TailState.cutting) && t.cutRan) updated
    dsimp only
    split
    · exact .raise <| clipped _ _ released
    · exact clipped _ _ released

theorem tailDrainExpiry (h : Pooled s) : Pooled s.tailDrainExpiry := .releaseTails h

theorem tailLifeExpiry (h : Pooled s) : Pooled s.tailLifeExpiry := by
  refine h.same ?_
  simp only [State.poolView, State.tailLifeExpiry, tailSegs_map expireLife_segs]

theorem finishPass (h : Pooled s) : Pooled s.finishPass := by
  unfold State.finishPass
  split
  · exact .tailLifeExpiry <| .tailDrainExpiry <| .passComplete h
  · exact h

theorem beginPass {b : List (Int × Int)} (h : Pooled s) : Pooled (s.beginPass b) := by
  refine h.rebuilt ?_ id (s.beginPass_wf b)
  have run : ∀ (o : Bool) (rs : List Int) (g : Option (List Int)) (is : List StageInst)
      (mem : List (Nat × Int)) (xs : List Int),
      (runChain s.lib o rs g is mem xs).stages.flatMap (·.segs) = is.flatMap (·.segs) :=
    fun o rs g is mem xs => chainSegs_runChain s.lib o rs g is mem xs
  by_cases fade : s.scn.phase = .fade <;>
    simp [State.poolView, State.beginPass, Context.segs, fade, run, tailSegs_runTails]

theorem beginDuePass (h : Pooled s) : Pooled s.beginDuePass := by
  unfold State.beginDuePass
  split
  · exact h
  · split
    · exact h
    · split
      · exact .beginPass h
      · exact h.same rfl

/-! ### The switch -/

/-- A change of the switch record that leaves its mark of a due commit. -/
theorem mapSwitch {f : SwitchRec → SwitchRec} (h : Pooled s)
    (mark : ∀ r, (f r).commitDue = r.commitDue) :
    Pooled { s with scn := { s.scn with switch := s.scn.switch.map f } } := by
  refine h.same ?_
  simp only [State.poolView, Option.map_map, Function.comp_def, mark]

theorem setBlocksLeft {n : Nat} (h : Pooled s) : Pooled { s with scn := s.scn.setBlocksLeft n } :=
  h.mapSwitch fun _ => rfl

theorem selectFor {n : Nat} (h : Pooled s) : Pooled (s.selectFor n) := by
  have held := chainSegs_cutHolds
  unfold chainSegs at held
  refine h.same ?_
  simp only [State.poolView, State.selectFor, Context.segs, held, tailSegs_cutOldest]

theorem select (h : Pooled s) : Pooled s.select := (selectFor h).mapSwitch fun _ => rfl

theorem lastBlock (h : Pooled s) : Pooled s.lastBlock := by
  unfold State.lastBlock
  split
  · exact .addReason <| .select h
  · exact .select h

/-- No grant waits. -/
theorem enterFade {ph : SwitchPhase} {k : SwitchKind} {f : Nat} (h : Pooled s)
    (granted : s.spl.grant = none) (ne : ph ≠ .gapIn) : Pooled (s.enterFade ph k f) := by
  have entered : Pooled { s with scn := { s.scn with
      phase := ph
      switch := s.scn.switch.map fun x => { x with kind := k, blocksLeft := f, budget := false } } } := by
    obtain ⟨conserved, ⟨fault, front, idle, apart, -⟩, wf⟩ :=
      h.mapSwitch (f := fun x => { x with kind := k, blocksLeft := f, budget := false }) fun _ => rfl
    exact ⟨conserved, ⟨fault, front, idle, fun held => ⟨(apart held).1, ne⟩,
      fun waits => absurd waits (by simp [State.poolView, granted])⟩, wf⟩
  unfold State.enterFade
  dsimp only
  split
  · exact .lastBlock entered
  · exact entered

theorem afterBuild (h : Pooled s) : Pooled s.afterBuild := by
  unfold State.afterBuild
  split
  · split
    · exact .lastBlock h
    · exact h
  · exact h

theorem makeCommitDue (h : Pooled s) (granted : s.spl.grant = none) : Pooled s.makeCommitDue := by
  obtain ⟨conserved, ⟨fault, front, idle, apart, -⟩, wf⟩ := h
  refine ⟨conserved, ⟨fault, front, idle, fun held => ⟨?_, (apart held).2⟩,
    fun waits => absurd waits (by simp [State.poolView, State.makeCommitDue, granted])⟩, wf⟩
  have := (apart held).1
  simp only [State.poolView, Option.isSome_map] at this
  simpa [State.poolView, State.makeCommitDue] using this

/-- A grant waits in PREPARE only. -/
theorem granted_of_phase (h : Pooled s) (phase : s.scn.phase ≠ .prepare) : s.spl.grant = none := by
  by_contra waits
  exact phase (h.placed.waiting (Option.isSome_iff_ne_none.2 waits)).2.1

theorem fadeBoundary {x : SwitchRec} (h : Pooled s) (phase : s.scn.phase ≠ .prepare) :
    Pooled (s.fadeBoundary x) := by
  unfold State.fadeBoundary
  dsimp only
  split
  · exact h.setBlocksLeft.makeCommitDue (h.granted_of_phase phase)
  · split
    · exact .lastBlock <| .setBlocksLeft h
    · exact .setBlocksLeft h

theorem markGrant (h : Pooled s) : Pooled { s with spl := s.spl.markGrant } := by
  unfold Spl.markGrant
  split
  · exact h
  · exact h.same (by simp only [State.poolView, Option.isSome_map])

theorem waitBoundary {x : SwitchRec} (h : Pooled s) : Pooled (s.waitBoundary x) := by
  unfold State.waitBoundary
  dsimp only
  split
  · exact .markGrant h
  · exact .setBlocksLeft (s := { s with spl := s.spl.markGrant }) <| .markGrant h

theorem buildStep_granted {c : Context} (i : Option StageInst) (h : c.granted = []) :
    (c.buildStep i).granted = [] := by
  cases i <;> simp [Context.buildStep, h]

theorem buildBack (h : Pooled s) : Pooled s.buildBack := by
  refine h.rebuilt ?_ (buildStep_granted _) (Context.buildMem_wf _ _)
  have segs := Context.buildStep_segs s.lib s.tgn.period s.scn.live.chain s.sen.back
  simp only [State.poolView, State.buildBack, State.nextBack, Option.map_map, Function.comp_def, segs]

theorem buildFront (h : Pooled s) : Pooled s.buildFront := by
  refine h.rebuilt ?_ id (Context.buildMem_wf _ _)
  have segs := Context.buildStep_segs s.lib s.tgn.period s.scn.live.chain s.sen.front
  simp only [State.poolView, State.buildFront, State.nextFront, segs]

/-- The grant of a switch under way in RUN. -/
theorem grantBack (h : Pooled s) (run : s.sen.engine = .run) (empty : s.sen.back.granted = [])
    (underway : s.scn.switch.isSome = true) (phase : s.scn.phase ≠ .gapIn) : Pooled s.grantBack := by
  have moved := PoolView.Ok.grantBack h (chainDemand s.scn.live.chain) run
    (by simpa [State.poolView] using underway) phase
    (back := (s.sen.back.granting (chainDemand s.scn.live.chain)
      (buildLength s.scn.live.chain) s.spl.free).segs)
    (by simp [State.poolView, Context.granting, Context.segs, empty])
  unfold Pooled
  rw [show s.grantBack.poolView = _ from ?_]
  · exact moved
  · simp only [State.poolView, State.grantBack, Option.map_map, Function.comp_def, Option.isSome_none]
    rfl

theorem prepareBoundary {x : SwitchRec} (h : Pooled s) : Pooled (s.prepareBoundary x) := by
  unfold State.prepareBoundary
  split
  · exact .waitBoundary h
  · next granted =>
    have granted : s.spl.grant = none := by simpa using granted
    split
    · exact .afterBuild <| .buildBack h
    · split
      · exact h.enterFade granted (by decide)
      · exact h.makeCommitDue granted

theorem switchBoundary (h : Pooled s) : Pooled s.switchBoundary := by
  unfold State.switchBoundary
  split
  · exact h
  · split
    · exact h
    · exact .prepareBoundary h
    · next phase => exact h.fadeBoundary (by simp [phase])
    · next phase => exact h.fadeBoundary (by simp [phase])
    · exact .removeReason <| .setBlocksLeft h

theorem grantAfterReclaim (h : Pooled s) : Pooled s.grantAfterReclaim := by
  unfold State.grantAfterReclaim
  split
  · next due =>
    have waits : s.spl.grant.isSome = true := by
      obtain ⟨g, hg, -⟩ := Option.any_eq_true _ _ |>.1 due
      simp [hg]
    obtain ⟨empty, phase, commit⟩ := h.placed.waiting waits
    have run : s.sen.engine = .run := by
      by_contra stopped
      exact absurd waits (by simp [show s.spl.grant.isSome = false from (h.placed.idle stopped).2.1])
    have underway : s.scn.switch.isSome = true := by
      have := congrArg Option.isSome commit
      simpa [State.poolView] using this
    exact .beginDuePass <| .afterBuild <| .buildBack <| h.grantBack run empty underway (by
      rw [show s.scn.phase = .prepare from phase]
      decide)
  · exact h

theorem budgetCheck {x : SwitchRec} (h : Pooled s) (hx : s.scn.switch = some x)
    (granted : s.spl.grant = none) : Pooled (s.budgetCheck x) := by
  unfold State.budgetCheck
  dsimp only
  split
  · exact h.enterFade granted (by decide)
  · split
    · exact h.enterFade granted (by decide)
    · exact h.same (by simp only [State.poolView, tailSegs_cutOldest, hx, Option.map_some])

theorem zeroFadeEnd {x : SwitchRec} (h : Pooled s) (granted : s.spl.grant = none) :
    Pooled (s.zeroFadeEnd x) := by
  unfold State.zeroFadeEnd
  split
  · exact h.makeCommitDue granted
  · exact .lastBlock <| .setBlocksLeft h

theorem endOfPrepare (h : Pooled s) : Pooled s.endOfPrepare := by
  unfold State.endOfPrepare
  split
  · next due =>
    have granted : s.spl.grant = none := by
      simp only [State.prepareDue, Bool.and_eq_true, Option.isNone_iff_eq_none] at due
      exact due.1.2
    split
    · exact h
    · next x hx =>
      have live : Pooled { s with sen := { s.sen with back := { s.sen.back with state := .live } } } :=
        h.same rfl
      refine .beginDuePass ?_
      split
      · exact live.zeroFadeEnd granted
      · exact live.budgetCheck hx granted
  · exact h

theorem handLevel (h : Pooled s) : Pooled s.handLevel := h.same rfl

/-- The segments of a numbered chain are those of the chain. -/
theorem numbered_map_snd {α : Type} : ∀ (n : Nat) (xs : List α), (numbered n xs).map (·.2) = xs
  | _, [] => rfl
  | n, x :: xs => congrArg (x :: ·) (numbered_map_snd (n + 1) xs)

theorem admitted_segs (drain life : Nat) (gen : Word16) (is : List StageInst) :
    tailSegs ((admittedStages is).map (admission drain life gen)) =
      (is.filter (·.admitted)).flatMap (·.segs) := by
  have kept : (is.filter (·.admitted)) = (admittedStages is).map (·.2) := by
    conv_lhs => rw [← numbered_map_snd 0 is]
    rw [List.filter_map]
    rfl
  rw [kept, tailSegs, List.flatMap_map, List.flatMap_map]
  rfl

/-- What the outgoing front held becomes tails or returns to the free list (R13, R63). -/
theorem exchange_perm (c : Context) :
    (((c.stages.filter fun i => !i.admitted).flatMap (·.segs) ++ c.granted) ++
      (c.stages.filter (·.admitted)).flatMap (·.segs)).Perm c.segs := by
  have parts : ((c.stages.filter (·.admitted)).flatMap (·.segs) ++
      (c.stages.filter fun i => !i.admitted).flatMap (·.segs)).Perm (c.stages.flatMap (·.segs)) := by
    rw [← List.flatMap_append]
    exact (List.filter_append_perm _ _).flatMap_right _
  refine List.perm_append_comm.trans ?_
  rw [← List.append_assoc]
  exact parts.append_right _

theorem committed (h : Pooled s) {x : SwitchRec} (granted : s.spl.grant = none) :
    Pooled { s.exchange with scn := s.exchange.scn.committed x } := by
  have moved := PoolView.Ok.exchange h (exchange_perm s.sen.front)
    (by simp [State.poolView, granted]) (s.scn.committed x).phase
    ((s.scn.committed x).switch.map (·.commitDue))
  have pending : (s.scn.committed x).pendingRecall = s.scn.pendingRecall := by
    unfold Scn.committed
    split <;> rfl
  unfold Pooled
  rw [show State.poolView { s.exchange with scn := s.exchange.scn.committed x } = _ from ?_]
  · exact moved
  · have admitted := admitted_segs s.spl.drainSetting s.spl.lifeSetting s.sen.front.generation
      s.sen.front.stages
    unfold tailSegs at admitted
    simp only [State.poolView, State.exchange, tailSegs, List.flatMap_append, admitted, pending]
    rfl

theorem commit (h : Pooled s) : Pooled s.commit := by
  unfold State.commit
  split
  · exact h
  · next x hx =>
    split
    · next due =>
      have granted : s.spl.grant = none := by
        by_contra waits
        have := (h.placed.waiting (Option.isSome_iff_ne_none.2 waits)).2.2
        simp [State.poolView, hx, due] at this
      exact .beginDuePass <| .raise <| .answer <| .handLevel <| .presetTempo <| h.committed granted
    · exact h

theorem gapInEnd (h : Pooled s) : Pooled s.gapInEnd := by
  unfold State.gapInEnd
  split
  · next due =>
    simp only [State.gapInDue, Bool.and_eq_true, decide_eq_true_eq] at due
    have granted := h.granted_of_phase (by simp [due.1])
    have back : s.poolView.back = [] := by
      by_contra held
      exact (h.placed.apart held).2 due.1
    obtain ⟨conserved, ⟨fault, front, idle, -, -⟩, wf⟩ := h
    exact .beginDuePass <| .raise ⟨conserved, ⟨fault, front, idle, fun held => absurd back held,
      fun waits => absurd waits (by simp [State.poolView, granted])⟩, wf⟩
  · exact h

end Pooled

end Sys2Proof.Machine

/-!
The segments stay where they belong, continued: recalls, protection, the link and the frames; settles O58.
-/
namespace Sys2Proof.Machine

namespace Pooled
variable {s : State}

/-! ### Recalls -/

theorem setScnLatch {l : Word16} (h : Pooled s) : Pooled { s with scn := { s.scn with latch := l } } :=
  h.same rfl

theorem setLatch {l : Word16} {p : Port} (h : Pooled s) : Pooled (s.setLatch l p) := by
  unfold State.setLatch
  split
  · exact h
  · exact .raise h.setScnLatch

theorem toggleAfter {x : RecallReq} {p : Port} (h : Pooled s) : Pooled (s.toggleAfter x p) := by
  unfold State.toggleAfter
  split
  · split
    · exact .setLatch h
    · exact h
  · exact h

theorem setLatch_sen (s : State) (l : Word16) (p : Port) : (s.setLatch l p).sen = s.sen := by
  unfold State.setLatch
  split <;> rfl

theorem toggleAfter_sen (s : State) (x : RecallReq) (p : Port) : (s.toggleAfter x p).sen = s.sen := by
  unfold State.toggleAfter
  split
  · split
    · exact setLatch_sen _ _ _
    · rfl
  · rfl

theorem supersede_engine (s : State) (p : Port) : (s.supersede p).sen.engine = s.sen.engine := by
  unfold State.supersede
  split <;> rfl

theorem beginSwitch_engine (s : State) (t : Ticket) (n : Nat) (x : Preset) (f : Nat) :
    (s.beginSwitch t n x f).sen.engine = s.sen.engine := by
  unfold State.beginSwitch State.requestGrant
  dsimp only
  split <;> rfl

theorem takeRecall_engine (s : State) (t : Ticket) (x : RecallReq) :
    (s.takeRecall t x).sen.engine = s.sen.engine := by
  unfold State.takeRecall
  dsimp only
  split
  · rfl
  · rw [beginSwitch_engine, supersede_engine, toggleAfter_sen]

theorem pendingTake_engine (s : State) : s.pendingTake.sen.engine = s.sen.engine := by
  unfold State.pendingTake
  split
  · split
    · exact takeRecall_engine _ _ _
    · rfl
  · rfl

theorem emptyBack (h : Pooled s) : Pooled s.emptyBack := PoolView.Ok.emptyBack h

/-- A superseding recall finds the back context empty. -/
theorem supersede {p : Port} (h : Pooled s) :
    Pooled (s.supersede p) ∧ (s.supersede p).sen.back.segs = [] := by
  unfold State.supersede
  split
  · exact ⟨.answer <| .emptyBack h, rfl⟩
  · next none =>
    refine ⟨h, ?_⟩
    by_contra held
    have := (h.placed.apart held).1
    simp [State.poolView, none] at this

theorem requestGrant (h : Pooled s) (run : s.sen.engine = .run) (empty : s.sen.back.granted = [])
    (phase : s.scn.phase = .prepare) (commit : s.scn.switch.map (·.commitDue) = some false) :
    Pooled s.requestGrant := by
  have underway : s.scn.switch.isSome = true := by simpa using congrArg Option.isSome commit
  unfold State.requestGrant
  dsimp only
  split
  · exact h.grantBack run empty underway (by simp [phase])
  · refine setBlocksLeft (s := { s with spl := { s.spl with tails := _, grant := some _ } }) ?_
    obtain ⟨conserved, ⟨fault, front, -, apart, -⟩, wf⟩ := h
    unfold Pooled
    simp only [State.poolView, tailSegs_reclaim]
    exact ⟨conserved, ⟨fault, front, fun stopped => absurd run stopped, apart,
      fun _ => ⟨empty, phase, commit⟩⟩, wf⟩

theorem beginSwitch {t : Ticket} {n : Nat} {x : Preset} {f : Nat} (h : Pooled s)
    (run : s.sen.engine = .run) (back : s.sen.back.segs = []) : Pooled (s.beginSwitch t n x f) := by
  refine .raise <| .requestGrant ?_ run rfl rfl rfl
  obtain ⟨conserved, ⟨fault, front, -, -, -⟩, wf⟩ := h
  refine ⟨?_, ⟨fault, front, fun stopped => absurd run stopped, fun held => absurd rfl held,
    fun _ => ⟨rfl, rfl, rfl⟩⟩, wf⟩
  have back : s.poolView.back = [] := back
  simp only [PoolView.Conserved, PoolView.held, back] at conserved
  exact conserved

theorem takeRecall {t : Ticket} {x : RecallReq} (h : Pooled s) (run : s.sen.engine = .run) :
    Pooled (s.takeRecall t x) := by
  unfold State.takeRecall
  dsimp only
  split
  · exact .answer h
  · obtain ⟨superseded, back⟩ := supersede (p := t.port) (toggleAfter (x := x) (p := t.port) h)
    refine superseded.beginSwitch ?_ back
    rw [supersede_engine, toggleAfter_sen, run]

theorem dropPending (h : Pooled s) :
    Pooled { s with scn := { s.scn with pendingRecall := none } } := by
  obtain ⟨conserved, ⟨fault, front, idle, apart, waiting⟩, wf⟩ := h
  exact ⟨conserved, ⟨fault, front, fun stopped => ⟨(idle stopped).1, (idle stopped).2.1, rfl⟩, apart,
    waiting⟩, wf⟩

theorem pendingTake (h : Pooled s) : Pooled s.pendingTake := by
  unfold State.pendingTake
  split
  · next q hq =>
    split
    · refine (dropPending h).takeRecall ?_
      by_contra stopped
      have := (h.placed.idle stopped).2.2
      simp [State.poolView, hq] at this
    · exact h
  · exact h

theorem arrive {t : Ticket} {x : RecallReq} (h : Pooled s) (run : s.sen.engine = .run) :
    Pooled (s.arrive t x) := by
  have pending : Pooled
      { s with scn := { s.scn with pendingRecall := some { ticket := t, req := x } } } := by
    obtain ⟨conserved, ⟨fault, front, -, apart, waiting⟩, wf⟩ := h
    exact ⟨conserved, ⟨fault, front, fun stopped => absurd run stopped, apart, waiting⟩, wf⟩
  unfold State.arrive State.leavePending
  split
  · exact h.takeRecall run
  · dsimp only
    split
    · exact .answer pending
    · exact pending

/-! ### Protection -/

/-- A change of the protection unit that leaves whether a fault is held. -/
theorem setOpu {o : Opu} (h : Pooled s) (fault : o.fault.isSome = s.opu.fault.isSome) :
    Pooled { s with opu := o } :=
  h.same (by simp only [State.poolView, fault])

theorem relayTakesTarget (h : Pooled s) : Pooled s.relayTakesTarget := by
  obtain same | ⟨_, _, _, moved⟩ := s.relayTakesTarget_cases
  · rwa [same]
  · rw [moved]
    exact h.setOpu rfl

theorem gainMuted (h : Pooled s) : Pooled s.gainMuted := by
  unfold State.gainMuted
  split
  · exact .relayTakesTarget (h.setOpu rfl)
  · exact h

theorem gainOpen (h : Pooled s) : Pooled s.gainOpen := by
  unfold State.gainOpen
  split
  · exact h.setOpu rfl
  · exact h

theorem endHold_fault (o : Opu) (m : RelayMove) : (o.endHold m).fault = o.fault := by
  unfold Opu.endHold
  split
  · split <;> rfl
  · rfl

theorem ordinaryMove_fault (o : Opu) (x : Relay) : (o.ordinaryMove x).fault = o.fault := by
  unfold Opu.ordinaryMove
  split
  · split <;> rfl
  · split
    · split <;> rfl
    · rfl

theorem relayHoldEnd (h : Pooled s) : Pooled s.relayHoldEnd := by
  unfold State.relayHoldEnd
  split
  · exact h
  · split
    · exact .relayTakesTarget <| h.setOpu (by rw [endHold_fault])
    · exact h

theorem abortResume {c : AbortCause} (h : Pooled s) : Pooled (s.abortResume c) := by
  unfold State.abortResume
  split
  · exact .answer (h.setOpu rfl)
  · exact h

/-- An abandoned switch leaves no recall pending, and of the view at most the phase and the switch
change beside. -/
theorem abandonSwitch_view (s : State) (c : AbortCause) (p : Option Port) :
    ∃ phase commit, (s.abandonSwitch c p).poolView =
      { s.poolView with pending := false, phase := phase, commit := commit } := by
  have pending : ∀ u : State, (u.abortPending c).poolView = { u.poolView with pending := false } := by
    intro u
    unfold State.abortPending
    split
    · rfl
    · next none => simp [State.poolView, none]
  have taken : ∀ u : State, (u.abortTaken c).poolView = u.poolView := by
    intro u
    unfold State.abortTaken
    split
    · split <;> rfl
    · rfl
  unfold State.abandonSwitch
  split
  · exact ⟨_, _, pending s⟩
  · refine ⟨.steady, none, ?_⟩
    have before := (pending ((s.removeReason .switchGap).abortTaken c)).trans
      (congrArg (fun v : PoolView => { v with pending := false }) (taken (s.removeReason .switchGap)))
    exact congrArg (fun v : PoolView => { v with phase := .steady, commit := none }) before

/-- The engine stops and its switch is abandoned: every segment is free. -/
theorem halt {d : EngineState} {c : AbortCause} {p : Option Port}
    (canonical : Memory.wf s.spl.mem = true) (fault : s.opu.fault.isSome = true → d = .fault) :
    Pooled ((s.stopEngine d).abandonSwitch c p) := by
  obtain ⟨phase, commit, view⟩ := abandonSwitch_view (s.stopEngine d) c p
  unfold Pooled
  rw [view]
  exact .halted rfl rfl rfl rfl rfl rfl fault canonical

theorem abortResume_spl (s : State) (c : AbortCause) : (s.abortResume c).spl = s.spl := by
  unfold State.abortResume
  split <;> rfl

theorem abortResume_fault (s : State) (c : AbortCause) :
    (s.abortResume c).opu.fault = s.opu.fault := by
  unfold State.abortResume
  split <;> rfl

theorem enterFault {c : Cause} (h : Pooled s) : Pooled (s.enterFault c) := by
  refine .raise <| .halt ?_ fun _ => rfl
  rw [abortResume_spl]
  exact h.canonical

theorem handCause {c : Cause} (h : Pooled s) : Pooled (s.handCause c) := by
  unfold State.handCause State.addCause
  split
  · exact .enterFault h
  · next r held =>
    split
    · exact h
    · exact .raise <| h.setOpu (by simp [held])

theorem runaway (h : Pooled s) : Pooled s.runaway := by
  unfold State.runaway
  split
  · exact .handCause (h.same rfl)
  · exact h

theorem startEngine {x : Reason} (h : Pooled s) (clear : s.opu.fault = none)
    (still : s.sen.engine = .stopped ∨ s.sen.engine = .fault) : Pooled (s.startEngine x) :=
  (PoolView.Ok.startFront h (chainDemand s.scn.live.chain) (by simp [State.poolView, clear]) still)

/-- No fault is held in another engine state. -/
theorem clear_of_engine (h : Pooled s) (engine : s.sen.engine ≠ .fault) : s.opu.fault = none := by
  by_contra held
  exact engine (h.placed.fault (Option.isSome_iff_ne_none.2 held))

theorem engineAutoStart (h : Pooled s) : Pooled s.engineAutoStart := by
  unfold State.engineAutoStart
  split
  · next due => exact h.startEngine (h.clear_of_engine (by simp [due.2.1])) (.inl due.2.1)
  · exact h

theorem answerResume (h : Pooled s) : Pooled s.answerResume := by
  unfold State.answerResume
  split
  · exact .answer (h.setOpu rfl)
  · exact h

theorem startingComplete (h : Pooled s) : Pooled s.startingComplete := by
  unfold State.startingComplete
  split
  · next due =>
    simp only [State.startingDue, Bool.and_eq_true, decide_eq_true_eq] at due
    have clear := h.clear_of_engine (by simp [due.1.1])
    refine .beginDuePass <| .answerResume <| .handLevel <| .relayTakesTarget ?_
    have engaged : s.opu.engage.fault = s.opu.fault := ordinaryMove_fault _ _
    obtain ⟨conserved, ⟨-, -, idle, apart, waiting⟩, wf⟩ := h
    exact ⟨conserved, ⟨fun faulted => absurd faulted (by simp [State.poolView, engaged, clear]),
      .inl rfl, fun stopped => absurd rfl stopped, apart, waiting⟩, wf⟩
  · exact h

/-! ### The tuner -/

theorem setTun {t : Tun} (h : Pooled s) :
    Pooled { s with tun := t } := h.same rfl

theorem tunerFrame {x : Int} (h : Pooled s) : Pooled (s.tunerFrame x) := by
  have framed : Pooled { s with tun := s.tun.frame x } := h.same rfl
  unfold State.tunerFrame
  dsimp only
  split
  · exact .raise framed
  · exact framed

theorem tunerTimeout (h : Pooled s) : Pooled s.tunerTimeout := by
  unfold State.tunerTimeout
  split
  · exact .raise <| h.same rfl
  · exact h

theorem tunerLinkDown (h : Pooled s) : Pooled s.tunerLinkDown := by
  have down : Pooled { s with tun := s.tun.linkDown } := h.same rfl
  unfold State.tunerLinkDown
  dsimp only
  split
  · exact down
  · exact .raise down

/-! ### The converter link -/

theorem linkTo {d : LinkState} {c : Option Departure} (h : Pooled s) :
    Pooled (s.linkTo d c) := by
  have moved : Pooled { s with
      lnk := { s.lnk with state := d, time := 0 }, opu := { s.opu with elapsed := 0 } } := h.same rfl
  unfold State.linkTo
  dsimp only
  split
  · exact moved
  · exact .raise moved

theorem setPrimary {b : Bool} (h : Pooled s) : Pooled (s.setPrimary b) := by
  unfold State.setPrimary
  split
  · exact h
  · exact .raise (h.same rfl)

theorem setSecondary {b : Bool} (h : Pooled s) : Pooled (s.setSecondary b) := by
  unfold State.setSecondary
  split
  · exact h
  · exact .raise (h.same rfl)

theorem setAuxValid {b : Bool} (h : Pooled s) : Pooled (s.setAuxValid b) := by
  unfold State.setAuxValid
  split
  · exact h
  · exact .raise (h.same rfl)

theorem clearReady (h : Pooled s) : Pooled s.clearReady := .setSecondary <| .setPrimary h

theorem endAccess {c : ReadEnd} {a : Access} (h : Pooled s) :
    Pooled (State.endAccess c s a) := by
  unfold State.endAccess
  split
  · exact .answer h
  · exact h

theorem foldl_endAccess {c : ReadEnd} (as : List Access) :
    ∀ {s : State}, Pooled s → Pooled (as.foldl (State.endAccess c) s) := by
  induction as with
  | nil => exact id
  | cons a as ih => exact fun h => ih h.endAccess

theorem endAccesses {f : Access → Bool} {c : ReadEnd} (h : Pooled s) :
    Pooled (s.endAccesses f c) :=
  foldl_endAccess _ <| h.same rfl

theorem endQueue (h : Pooled s) : Pooled s.endQueue := .endAccesses (h.same rfl)

theorem answerOwner {a : Access} {st : Status} {f : Fields} (h : Pooled s) :
    Pooled (s.answerOwner a st f) := by
  unfold State.answerOwner
  split
  · exact .answer h
  · exact h

theorem dropFirst (h : Pooled s) : Pooled { s with lnk := s.lnk.dropFirst } :=
  h.same rfl

theorem convReadCompletion (h : Pooled s) : Pooled s.convReadCompletion := by
  unfold State.convReadCompletion
  split
  · exact h
  · split
    · exact .answerOwner <| .dropFirst h
    · exact h

theorem convReadTimeout (h : Pooled s) : Pooled s.convReadTimeout := by
  unfold State.convReadTimeout
  split
  · exact h
  · split
    · exact .answerOwner <| .dropFirst h
    · exact h

theorem levelWriteJoin (h : Pooled s) : Pooled s.levelWriteJoin := by
  unfold State.levelWriteJoin
  split
  · next v _ =>
    split
    · exact h.same rfl
    · exact h
  · exact h

theorem engineLinkStop {p : Option Port} (h : Pooled s) : Pooled (s.engineLinkStop p) := by
  unfold State.engineLinkStop
  split
  · next engine =>
    have clear := h.clear_of_engine (by rcases engine with e | e <;> simp [e])
    refine .halt ?_ fun faulted => absurd faulted ?_
    · rw [abortResume_spl]
      exact h.canonical
    · rw [abortResume_fault, show (s.opu.swapReason .stopped .starting).fault = none from clear]
      decide
  · exact h

theorem forceBypass (h : Pooled s) : Pooled { s with opu := s.opu.forceBypass } := h.same rfl

theorem departEngine {c : Option Cause} {p : Option Port} (h : Pooled s) :
    Pooled (s.departEngine c p) := by
  unfold State.departEngine
  split
  · exact .handCause h
  · exact .forceBypass <| .engineLinkStop h

theorem dropBlock (h : Pooled s) : Pooled s.dropBlock :=
  h.same rfl

theorem leaveRunning {d : LinkState} {x : Departure} {c : Option Cause} {p : Option Port}
    (h : Pooled s) : Pooled (s.leaveRunning d x c p) :=
  .linkTo <| .departEngine <| .tunerLinkDown <| .dropBlock <| .endQueue h

theorem abortRest {c : RestEnd} (h : Pooled s) : Pooled (s.abortRest c) := by
  unfold State.abortRest
  split
  · exact .answer (h.same rfl)
  · exact h

theorem linkRestFinal (h : Pooled s) : Pooled s.linkRestFinal := by
  obtain same | ⟨_, _, _, _, _, final⟩ := s.linkRestFinal_cases
  · rwa [same]
  · rw [final]
    exact .answer <| .clearReady <| .leaveRunning (h.same rfl)

theorem linkStarted (h : Pooled s) : Pooled s.linkStarted :=
  .setAuxValid <| .clearReady h

theorem coldStart {p : Port} (h : Pooled s) : Pooled (s.coldStart p) := by
  unfold State.coldStart
  split
  · exact .leaveRunning h
  · exact .linkTo h

theorem coldStartExpiry (h : Pooled s) : Pooled s.coldStartExpiry := by
  unfold State.coldStartExpiry
  split
  · exact .linkTo <| .elapse h
  · exact h

theorem enterWaking (h : Pooled s) : Pooled s.enterWaking :=
  .linkStarted <| .linkTo (h.same rfl)

theorem wake (h : Pooled s) : Pooled s.wake := by
  unfold State.wake
  split
  · exact .enterWaking h
  · exact h.same rfl

theorem converterWake (h : Pooled s) : Pooled s.converterWake := by
  unfold State.converterWake
  split
  · exact .wake h
  · exact h

theorem wakeDeferralExpiry (h : Pooled s) : Pooled s.wakeDeferralExpiry := by
  unfold State.wakeDeferralExpiry
  split
  · exact .enterWaking <| .elapse h
  · exact h

theorem wakingExpiry (h : Pooled s) : Pooled s.wakingExpiry := by
  unfold State.wakingExpiry
  split
  · exact .linkTo <| .elapse h
  · exact h

theorem departBy {d : LinkState} {x : Departure} {c : Cause} (h : Pooled s) :
    Pooled (s.departBy d x c) := by
  have left : Pooled ((s.abortRest .link).leaveRunning d x (some c) none) :=
    .leaveRunning <| .abortRest h
  unfold State.departBy
  dsimp only
  split
  · exact .removeReason left
  · exact left

theorem failOver (h : Pooled s) : Pooled { s with opu := s.opu.failOver } := by
  unfold Opu.failOver
  split
  · exact h.same rfl
  · exact h

theorem frameLossExpiry (h : Pooled s) : Pooled s.frameLossExpiry := by
  unfold State.frameLossExpiry
  split
  · exact .clearReady <| .departBy <| .failOver <| .elapse h
  · exact h

/-! ### The boundary and what falls due -/

theorem boundarySteps (h : Pooled s) : Pooled s.boundarySteps :=
  .gapInEnd <| .commit <| .endOfPrepare <| .grantAfterReclaim <| .startingComplete h

theorem engineBoundary (h : Pooled s) : Pooled s.engineBoundary := by
  unfold State.engineBoundary
  split
  · split
    · exact .buildFront h
    · exact h
  · exact .switchBoundary h
  · exact h
  · exact h

theorem boundary (h : Pooled s) : Pooled s.boundary :=
  .beginDuePass <| .engineBoundary (h.same rfl)

theorem blockBoundary (h : Pooled s) : Pooled s.blockBoundary := by
  unfold State.blockBoundary
  split
  · exact .boundary <| .finishPass <| .pendingTake <| .boundarySteps h
  · exact h

theorem settleLink (h : Pooled s) : Pooled s.settleLink :=
  .runaway <| .engineAutoStart <| .levelWriteJoin <| .convReadTimeout <| .convReadCompletion h

theorem settleBlock (h : Pooled s) : Pooled s.settleBlock :=
  .pendingTake <| .boundarySteps <| .relayHoldEnd <| .tunerTimeout <| .blockBoundary h

theorem settleOutput (h : Pooled s) : Pooled s.settleOutput :=
  .linkRestFinal <| .relayTakesTarget <| .gainOpen <| .gainMuted h

theorem settle (h : Pooled s) : Pooled s.settle := .settleOutput <| .settleBlock <| .settleLink h

theorem wholeBlock (h : Pooled s) : Pooled s.wholeBlock := by
  unfold State.wholeBlock
  split
  · exact .settleBlock h
  · exact h

/-! ### Frames -/

theorem auxInput {f : InFrame} (h : Pooled s) : Pooled (s.auxInput f) := by
  unfold State.auxInput State.storeAux
  split
  · exact h
  · split
    · exact h
    · dsimp only
      split
      · exact .handCause <| .raise (h.same rfl)
      · exact .raise (h.same rfl)

theorem storeEchoes {f0 f1 : InFrame} (h : Pooled s) : Pooled (s.storeEchoes f0 f1) :=
  (h.same rfl)

theorem secondaryBit {b : Bool} (h : Pooled s) : Pooled (s.secondaryBit b) := by
  unfold State.secondaryBit
  dsimp only
  split
  · exact .endAccesses <| .setSecondary h
  · exact .setSecondary h

theorem syncingFrame {f0 f1 : InFrame} (h : Pooled s) : Pooled (s.syncingFrame f0 f1) := by
  have stored : Pooled ((((s.setPrimary (readyBit f0.tag)).setSecondary
      (readyBit f1.tag)).auxInput f0).storeEchoes f0 f1) :=
    .storeEchoes <| .auxInput <| .setSecondary <| .setPrimary h
  unfold State.syncingFrame
  dsimp only
  split
  · exact .removeReason <| .linkTo stored
  · exact stored

theorem countFrame {f0 f1 : InFrame} (h : Pooled s) : Pooled (s.countFrame f0 f1) :=
  .tempoFrame <| .tunerFrame (h.same rfl)

theorem converterLost (h : Pooled s) : Pooled s.converterLost :=
  .departBy <| .setPrimary h

theorem lossFrame {f0 f1 : InFrame} (h : Pooled s) : Pooled (s.lossFrame f0 f1) := by
  have whole : Pooled
      (((s.secondaryBit (readyBit f1.tag)).countFrame f0 f1).wholeBlock) :=
    .wholeBlock <| .countFrame <| .secondaryBit h
  simp only [State.lossFrame]
  split
  · split
    · exact .storeEchoes <| .converterLost <| .auxInput <| .nextFree whole
    · exact .storeEchoes <| .auxInput <| .converterLost <| .nextFree whole
  · exact .storeEchoes <| .auxInput <| .converterLost whole

theorem runningFrame {f0 f1 : InFrame} (h : Pooled s) :
    Pooled (s.runningFrame f0 f1) := by
  unfold State.runningFrame
  split
  · exact .countFrame <| .storeEchoes <| .auxInput <| .secondaryBit h
  · exact .lossFrame h

theorem frameIn {f0 f1 : InFrame} (h : Pooled s) : Pooled (s.frameIn f0 f1) := by
  unfold State.frameIn
  split
  · exact .syncingFrame h
  · exact .runningFrame h
  · exact .syncingFrame <| .linkTo h
  all_goals exact h

theorem frameReceived {f0 f1 : InFrame} (h : Pooled s) : Pooled (s.frameReceived f0 f1) :=
  .settle <| .frameIn <| .settle h

theorem sendRunning (h : Pooled s) : Pooled s.sendRunning := by
  unfold State.sendRunning
  dsimp only
  split
  · exact (setSummaryClip h).same rfl
  · exact h.same rfl

theorem gainFrame (h : Pooled s) : Pooled s.gainFrame := by
  refine h.setOpu ?_
  unfold Opu.advanceGain
  split <;> rfl

theorem frameOut (h : Pooled s) : Pooled s.frameOut := by
  unfold State.frameOut
  split
  · exact .sendRunning <| .gainFrame h
  · exact (gainFrame h).same rfl
  · exact (gainFrame h).same rfl
  all_goals exact h

theorem frameSent (h : Pooled s) : Pooled s.frameSent := .settle <| .frameOut <| .settle h

end Pooled

end Sys2Proof.Machine

/-!
Every request's owner, every event and every step keeps the pool (O58).
-/
namespace Sys2Proof.Machine

namespace Pooled
variable {s : State} {t : Ticket}

theorem setDirty {p : Port} (h : Pooled s) : Pooled (s.setDirty p) := by
  unfold State.setDirty
  split
  · exact h
  · exact .raise <| h.same rfl

theorem editInst {n : Nat} {f : StageInst → StageInst} (h : Pooled s) (hf : ∀ i, (f i).segs = i.segs) :
    Pooled (s.editInst n f) := by
  have held : ∀ (is : List StageInst), (is.modify n f).flatMap (·.segs) = is.flatMap (·.segs) :=
    fun is => chainSegs_modify hf is n
  unfold State.editInst
  split
  · exact h.same (by simp only [State.poolView, Context.segs, Context.modifyStage, held])
  · exact h.same (by simp only [State.poolView, Context.segs, Context.modifyStage, held])
  · exact h

theorem setScn {c : Scn} (h : Pooled s) (pending : c.pendingRecall = s.scn.pendingRecall)
    (phase : c.phase = s.scn.phase) (switch : c.switch = s.scn.switch) :
    Pooled { s with scn := c } :=
  h.same (by simp only [State.poolView, pending, phase, switch])

theorem ownRecall {x : RecallReq} (h : Pooled s) : Pooled (ownRecall x t s) := by
  unfold Machine.ownRecall
  split
  · split
    · next run => exact h.pendingTake.arrive ((pendingTake_engine s).trans run)
    · exact .answer h
  · exact .answer h

theorem ownEdit {x : EditReq} (h : Pooled s) : Pooled (ownEdit x t s) := by
  unfold Machine.ownEdit
  split
  · exact .answer h
  · split
    · exact .answer h
    · split
      · exact .answer h
      · exact .answer <| .setDirty <| editInst (h.setScn rfl rfl rfl) fun i => setParam_segs i _ _

theorem ownBypassStage {x : BypassReq} (h : Pooled s) : Pooled (ownBypassStage x t s) := by
  unfold Machine.ownBypassStage
  split
  · exact .answer h
  · split
    · exact .answer h
    · exact .answer <| .setDirty <| editInst (h.setScn rfl rfl rfl) fun _ => rfl

theorem setSlot {n : Nat} {p : Option Preset} (h : Pooled s) : Pooled (s.setSlot n p) :=
  h.setScn rfl rfl rfl

theorem ownStore {x : StoreReq} (h : Pooled s) : Pooled (ownStore x t s) := by
  unfold Machine.ownStore
  split
  · exact .answer h
  · split
    · exact .answer h
    · split
      · exact .answer h
      · exact .answer <| .raise <| .setSlot (h.setScn rfl rfl rfl)

theorem ownWritePreset {x : WritePresetReq} (h : Pooled s) : Pooled (ownWritePreset x t s) := by
  unfold Machine.ownWritePreset
  split
  · exact .answer h
  · dsimp only
    split
    · exact .answer h
    · split
      · exact .answer h
      · exact .answer <| .setSlot h

theorem ownReadPreset {x : ReadPresetReq} (h : Pooled s) : Pooled (ownReadPreset x t s) := by
  unfold Machine.ownReadPreset
  split
  · exact .answer h
  · split <;> exact .answer h

theorem ownErasePreset {x : ErasePresetReq} (h : Pooled s) :
    Pooled (ownErasePreset x t s) := by
  unfold Machine.ownErasePreset
  split
  · exact .answer h
  · exact .answer <| .setSlot h

theorem ownLatch {x : LatchReq} (h : Pooled s) : Pooled (ownLatch x t s) :=
  .answer <| .setAuxValid <| .setLatch h

theorem ownSetSceneOptions {x : SceneOptionsReq} (h : Pooled s) : Pooled (ownSetSceneOptions x t s) :=
  .answer (h.setScn rfl rfl rfl)

theorem ownWriteCurve {x : WriteCurveReq} (h : Pooled s) : Pooled (ownWriteCurve x t s) := by
  unfold Machine.ownWriteCurve
  split
  · exact .answer h
  · split
    · exact .answer h
    · exact .answer (h.same rfl)

theorem ownWriteImpulse {x : WriteImpulseReq} (h : Pooled s) :
    Pooled (ownWriteImpulse x t s) := by
  unfold Machine.ownWriteImpulse
  split
  · exact .answer h
  · split
    · exact .answer h
    · exact .answer (h.same rfl)

theorem clearMeters (h : Pooled s) : Pooled s.clearMeters := by
  have held := chainSegs_map (f := StageInst.clearMeters) fun _ => rfl
  unfold chainSegs at held
  refine h.same ?_
  simp only [State.poolView, State.clearMeters, Context.segs, held,
    tailSegs_map (f := fun t => { t with inst := t.inst.clearMeters }) fun _ => rfl]

theorem ownMeters {x : MetersReq} (h : Pooled s) : Pooled (ownMeters x t s) := by
  unfold Machine.ownMeters
  split
  · exact .answer <| .clearMeters h
  · exact .answer h

theorem ownSetTails {x : SetTailsReq} (h : Pooled s) : Pooled (ownSetTails x t s) := by
  refine .answer <| h.same ?_
  unfold Spl.setTails
  split <;> simp only [State.poolView, tailSegs_map cutNow_segs]

theorem ownTempoSource {x : TempoSourceReq} (h : Pooled s) : Pooled (ownTempoSource x t s) := by
  unfold Machine.ownTempoSource
  split
  · dsimp only
    split
    · exact .answer <| .raise <| .beatEvent h.setTgn
    · exact .answer <| .raise h.setTgn
  · exact .answer h

theorem ownTempoSet {x : TempoSetReq} (h : Pooled s) : Pooled (ownTempoSet x t s) := by
  have written : Pooled { s with tgn :=
      { s.tgn with period := clampNat 12000 144000 x.period }.emptyTapsInTap } := h.setTgn
  unfold Machine.ownTempoSet
  split
  · exact .answer h
  · dsimp only
    split
    · exact .answer <| .noticeWrite <| .beatEvent written
    · exact .answer <| .noticeWrite written

theorem ownTap (h : Pooled s) : Pooled (ownTap t s) := by
  unfold Machine.ownTap
  split
  · exact .answer h
  · split
    · exact .answer h
    · dsimp only
      split
      · exact .answer <| .noticeWrite <| .beatEvent h.setTgn
      · exact .answer <| .noticeWrite h.setTgn

theorem setTunerMode {m : TunerMode} (h : Pooled s) : Pooled (s.setTunerMode m) := by
  unfold State.setTunerMode
  dsimp only
  split
  · exact .addReason h.setTun
  · exact .removeReason h.setTun

theorem ownTunerMode {x : TunerModeReq} (h : Pooled s) : Pooled (ownTunerMode x t s) := by
  unfold Machine.ownTunerMode
  split
  · exact .answer h
  · dsimp only
    split
    · exact .answer h
    · exact .answer <| .raise <| .setTunerMode h

theorem ownTunerSet {x : TunerSetReq} (h : Pooled s) : Pooled (ownTunerSet x t s) := by
  unfold Machine.ownTunerSet
  split
  · exact .answer h
  · exact .answer h.setTun

theorem ownTunerRead {x : TunerReadReq} (h : Pooled s) : Pooled (ownTunerRead x t s) := by
  unfold Machine.ownTunerRead
  split <;> exact .answer h

theorem ownMute {x : MuteReq} (h : Pooled s) : Pooled (ownMute x t s) := by
  unfold Machine.ownMute
  split
  · exact .answer h
  · dsimp only
    split
    · exact .answer <| .addReason h
    · exact .answer <| .removeReason h

theorem loadSafe {p : Port} (h : Pooled s) : Pooled (s.loadSafe p) :=
  .presetTempo <| .raise (h.setScn rfl rfl rfl)

theorem presetTempo_keeps (s : State) (p : Option Port) (v : Option Nat) :
    (s.presetTempo p v).sen = s.sen ∧ (s.presetTempo p v).opu = s.opu := by
  unfold State.presetTempo State.noticeWrite
  repeat' split
  all_goals exact ⟨rfl, rfl⟩

theorem awaitStart {m : ResumeMode} {b : Option Bool} (h : Pooled s) : Pooled (s.awaitStart t m b) :=
  h.setOpu rfl

theorem resumeBypass (h : Pooled s) (fault : s.sen.engine = .fault) (clear : s.opu.fault = none) :
    Pooled s.resumeBypass := by
  refine .relayTakesTarget ?_
  have moved : ((s.opu.swapReason .stopped .fault).ordinaryMove .bypass).fault = none :=
    (ordinaryMove_fault _ _).trans clear
  obtain ⟨conserved, ⟨-, front, idle, apart, waiting⟩, wf⟩ := h
  have engine : s.poolView.engine = .fault := fault
  have front : s.poolView.front = [] := by simpa [engine] using front
  exact ⟨conserved, ⟨fun faulted => absurd faulted (by simp [State.poolView, moved]), .inr (.inr front),
    fun _ => idle (by simp [engine]), apart, waiting⟩, wf⟩

theorem resumeIn {m : ResumeMode} (h : Pooled s) (fault : s.sen.engine = .fault)
    (clear : s.opu.fault = none) : Pooled (s.resumeIn t m) := by
  cases m with
  | scene => exact .awaitStart <| h.startEngine clear (.inr fault)
  | safe =>
    obtain ⟨sen, opu⟩ := presetTempo_keeps (State.raise _ _) (some t.port)
      ((s.scn.library.getD s.scn.safeIdx none).getD cleanScene).tempo
    exact .awaitStart <| h.loadSafe.startEngine ((congrArg Opu.fault opu).trans clear)
      (.inr ((congrArg Sen.engine sen).trans fault))
  | bypass => exact .answer <| h.resumeBypass fault clear

theorem acceptResume {m : ResumeMode} (h : Pooled s) (fault : s.sen.engine = .fault) :
    Pooled (s.acceptResume t m) := by
  have cleared : Pooled { s with opu := { s.opu with fault := none, lastFault := s.opu.fault } } := by
    obtain ⟨conserved, ⟨-, front, idle, apart, waiting⟩, wf⟩ := h
    exact ⟨conserved, ⟨nofun, front, idle, apart, waiting⟩, wf⟩
  exact resumeIn (.raise cleared.releaseTails) fault rfl

theorem ownResume {x : ResumeReq} (h : Pooled s) : Pooled (ownResume x t s) := by
  unfold Machine.ownResume
  split
  · exact .answer h
  · split
    · exact .answer h
    · next held =>
      split
      · exact .answer h
      · refine h.acceptResume (h.placed.fault ?_)
        simpa [State.poolView, Option.isSome_iff_ne_none] using held

theorem ownFailoverRead (h : Pooled s) : Pooled (ownFailoverRead t s) := by
  unfold Machine.ownFailoverRead
  split
  · refine .answer <| h.setOpu ?_
    cases t.port <;> rfl
  · exact .answer h

theorem ownFailoverClear (h : Pooled s) : Pooled (ownFailoverClear t s) := by
  unfold Machine.ownFailoverClear
  split
  · exact .answer (h.same rfl)
  · exact .answer h

theorem ownSetProtection {x : ProtectionReq} (h : Pooled s) :
    Pooled (ownSetProtection x t s) := by
  unfold Machine.ownSetProtection
  split
  · exact .answer <| h.same rfl
  · exact .answer h

theorem ownLinkStart (h : Pooled s) : Pooled (ownLinkStart t s) := by
  refine .answer <| .removeReason <| .linkStarted <| .coldStart ?_
  exact (abortRest h).same rfl

theorem ownLinkRest (h : Pooled s) : Pooled (ownLinkRest t s) := by
  unfold Machine.ownLinkRest
  split
  · exact .answer h
  · exact .linkRestFinal (h.same rfl)

theorem ownLinkWake (h : Pooled s) : Pooled (ownLinkWake t s) := by
  unfold Machine.ownLinkWake
  split
  · exact .answer <| .wake h
  · split
    · exact .answer <| .removeReason <| .abortRest h
    · exact .answer h
  all_goals exact .answer h

theorem joinQueue {a : Access} (h : Pooled s) : Pooled (s.joinQueue a) := h.same rfl

theorem ownConvRead {tag : Byte} {x : ConvReadReq} (h : Pooled s) : Pooled (ownConvRead tag x t s) := by
  unfold Machine.ownConvRead
  split
  · split
    · exact .answer h
    · exact .joinQueue h
  · exact .answer h

theorem ownConvWrite {tag : Byte} {x : ConvWriteReq} (h : Pooled s) :
    Pooled (ownConvWrite tag x t s) := by
  unfold Machine.ownConvWrite
  split
  · split
    · exact .answer h
    · exact .answer <| .joinQueue h
  · exact .answer h

theorem ownSubscribe {x : SubscribeReq} (h : Pooled s) : Pooled (ownSubscribe x t s) := by
  unfold Machine.ownSubscribe
  split
  · exact .answer h
  · exact .answer (h.same rfl)

theorem ownRestart (h : Pooled s) : Pooled (ownRestart t s) := h.same rfl

theorem owner {tag : Byte} {q : Request} (h : Pooled s) : Pooled (q.owner tag t s) := by
  cases q with
  | edit r => exact .ownEdit h
  | bypassStage r => exact .ownBypassStage h
  | store r => exact .ownStore h
  | writePreset r => exact .ownWritePreset h
  | readPreset r => exact .ownReadPreset h
  | erasePreset r => exact .ownErasePreset h
  | latch r => exact .ownLatch h
  | sceneRead => exact .answer h
  | setSceneOptions r => exact .ownSetSceneOptions h
  | writeCurve r => exact .ownWriteCurve h
  | writeImpulse r => exact .ownWriteImpulse h
  | meters r => exact .ownMeters h
  | setTails r => exact .ownSetTails h
  | tempoSource r => exact .ownTempoSource h
  | tempoSet r => exact .ownTempoSet h
  | tap => exact .ownTap h
  | tempoRead => exact .answer h
  | tunerMode r => exact .ownTunerMode h
  | tunerSet r => exact .ownTunerSet h
  | tunerRead r => exact .ownTunerRead h
  | mute r => exact .ownMute h
  | resume r => exact .ownResume h
  | faultRead => exact .answer h
  | failoverRead => exact .ownFailoverRead h
  | failoverClear => exact .ownFailoverClear h
  | setProtection r => exact .ownSetProtection h
  | linkStart => exact .ownLinkStart h
  | linkRest => exact .ownLinkRest h
  | linkWake => exact .ownLinkWake h
  | convRead r => exact .ownConvRead h
  | convWrite r => exact .ownConvWrite h
  | auxRead => exact .answer h
  | subscribe r => exact .ownSubscribe h
  | identify => exact .answer h
  | restart => exact .ownRestart h
  -- RECALL stands last: its constructor's name is a keyword of Mathlib's.
  | _ r => exact .ownRecall h

/-- Every event of the blocks keeps the pool. -/
theorem block {f : State → State} (e : BlockEvent f) (h : Pooled s) : Pooled (f s) := by
  cases e with
  | frameReceived f0 f1 => exact .frameReceived h
  | frameSent => exact .frameSent h
  | blockBoundary => exact .blockBoundary h
  | finishPass => exact .finishPass h
  | tailDrainExpiry => exact .tailDrainExpiry h
  | tailLifeExpiry => exact .tailLifeExpiry h
  | grantAfterReclaim => exact .grantAfterReclaim h
  | startingComplete => exact .startingComplete h
  | engineAutoStart => exact .engineAutoStart h
  | endOfPrepare => exact .endOfPrepare h
  | commit => exact .commit h
  | gapInEnd => exact .gapInEnd h
  | pendingTake => exact .pendingTake h
  | beatUnderflow => exact .beatUnderflow h
  | beatLampOff => exact .beatLampOff h
  | tapTimeout => exact .tapTimeout h
  | pulseEdge d => exact .pulseEdge h
  | pulseLost => exact .pulseLost h
  | tunerTimeout => exact .tunerTimeout h
  | runaway => exact .runaway h
  | gainMuted => exact .gainMuted h
  | gainOpen => exact .gainOpen h
  | relayTakesTarget => exact .relayTakesTarget h
  | relayHoldEnd => exact .relayHoldEnd h
  | linkRestFinal => exact .linkRestFinal h
  | frameLossExpiry => exact .frameLossExpiry h
  | coldStartExpiry => exact .coldStartExpiry h
  | converterWake => exact .converterWake h
  | wakeDeferralExpiry => exact .wakeDeferralExpiry h
  | wakingExpiry => exact .wakingExpiry h
  | convReadCompletion => exact .convReadCompletion h
  | convReadTimeout => exact .convReadTimeout h
  | levelWriteJoin => exact .levelWriteJoin h
  | settle => exact .settle h
  | elapse d => exact .elapse h

/-- No event of a line is about the pool. -/
theorem line {f : State → State} (e : LineEvent f) (h : Pooled s) : Pooled (f s) := by
  cases e with
  | receive p b e => exact h.same rfl
  | rxTimeout p =>
    unfold State.rxTimeout
    split
    · exact h
    · exact h.same rfl
  | replySendStart p =>
    unfold State.replySendStart
    split
    · split
      · exact h.same rfl
      · exact h
    · exact h
  | noticeSendStart p =>
    unfold State.noticeSendStart
    split
    · exact h.same rfl
    · exact h
  | txMessageEnd p => exact h.same rfl

theorem reset : Pooled State.reset := (poolOk_iff _).1 resetMeetsTheInvariants.2.1

theorem restarted (h : Pooled s) : Pooled s.restarted := by
  obtain ⟨conserved, ⟨fault, front, idle, apart, waiting⟩, -⟩ := reset
  exact ⟨conserved, ⟨fault, front, idle, apart, waiting⟩, h.canonical⟩

theorem survives : Survives Pooled where
  queue _ _ _ h := h.same rfl
  request s p tag q h := by
    obtain held | ⟨rs, e, -, -, -, -, taken⟩ := takeRequest_cases p tag q (q.owner tag) s
    · rwa [held]
    · rw [taken]
      exact .owner (h.same rfl)
  bad s p body h := by
    obtain held | ⟨tag, kind, item, rs, e, -, -, -, -, -, taken⟩ := takeBad_cases p body s
    · rwa [held]
    · rw [taken]
      exact .answer (h.same rfl)
  block _ _ e _ h := .block e h
  line _ _ e _ h := .line e h
  restartApply s _ h := by
    unfold State.restartApply
    split
    · exact .restarted h
    · exact h
  powerOnAssert _ _ := reset.same rfl
  powerOnRelease s h := by
    unfold State.powerOnRelease
    split
    · exact reset.same rfl
    · exact h

end Pooled

end Sys2Proof.Machine

namespace Sys2Proof
open Machine

/-- Settles O58: `Pooled` is kept by every event. -/
theorem stepKeepsThePool : Obligations.StepKeepsThePool := fun s t h stepped =>
  (poolOk_iff t).2 (Pooled.survives.step ((poolOk_iff s).1 h) stepped)

/-- GAP_IN with one block left, SWITCH_GAP in the reason set, and a grant due: the protection unit and
the switch agree, but no grant may wait outside PREPARE, which is the pool's invariant and not theirs. -/
def gapWithGrant : State :=
  { State.reset with
    scn := { State.reset.scn with
      phase := .gapIn
      switch := some
        { ticket := { port := .p0, entry := 0 }, slot := 0, fade := 1, kind := .gapped, blocksLeft := 1
          degraded := [], tempo := none, budget := false, selected := false, commitDue := false } }
    sen := { State.reset.sen with engine := .run }
    spl := { State.reset.spl with grant := some { demand := 0, due := true } }
    opu := { State.reset.opu with
      reasons := { State.reset.opu.reasons with stopped := false, switchGap := true } }
    pending := [.grantAfterReclaim] }

/-- Refutes O59: from `gapWithGrant` the grant's build step counts the block of GAP_IN down to none, with
SWITCH_GAP still in the set. -/
theorem not_stepKeepsProtection : ¬ Obligations.StepKeepsProtection := by
  intro kept
  have before : gapWithGrant.protectionOk = true := by decide +kernel
  have after : ∃ t, step gapWithGrant = .next t ∧ t.protectionOk = false :=
    ⟨State.grantAfterReclaim { gapWithGrant with pending := [] }, rfl, by decide +kernel⟩
  obtain ⟨t, stepped, broken⟩ := after
  exact absurd (kept gapWithGrant t before stepped) (by simp [broken])

end Sys2Proof

/-!
Requests at the ports and the transmit lines (R191 to R199).
-/
namespace Sys2Proof.Machine

/-! ### Takes and events, said once for every command -/

variable {s : State} {p : Port} {tag : Byte} {q : Request} {e : Nat}

/-- A request that is taken is its owner's act on the state with its reply due. -/
theorem exec_taken (h : Takes s p tag q e) :
    exec (q.toInstr p tag) s = .next (q.owner tag { port := p, entry := e } (s.taken p tag q.code e)) := by
  rw [exec_toInstr, takeRequest_of_takes h]

theorem Takes.free (h : Takes s p tag q e) : (s.port p).freeEntry = some e := h.2.2.2

/-- An answer given in the event of the take. -/
theorem Takes.answer (h : Takes s p tag q e) (st : Status) (f : Fields) :
    (s.taken p tag q.code e).answer { port := p, entry := e } st f = s.replied p tag q.code e st f :=
  State.taken_answer st f h.free

/-- While a RESTART is in progress no request is taken. -/
theorem exec_toInstr_of_restart {w : RestartWait} (restart : s.pif.restart = some w) (p : Port)
    (tag : Byte) (q : Request) : exec (q.toInstr p tag) s = .next s := by
  rw [exec_toInstr, takeRequest_held (.inr (by simp [restart]))]

/-- An event outside the reset input is what its function says. -/
theorem next_unlessReset (free : s.por = false) (f : State → State) :
    (Host.Outcome.next (unlessReset f s) : Host.Outcome State Fault Refusal) = .next (f s) := by
  rw [unlessReset_of_free free]

/-- An event that changes nothing changes nothing under the reset input either. -/
theorem next_unlessReset_same {f : State → State} (same : f s = s) :
    (Host.Outcome.next (unlessReset f s) : Host.Outcome State Fault Refusal) = .next s := by
  unfold unlessReset
  split
  · rfl
  · rw [same]

/-! ### Transmit lines -/

theorem State.replySendStart_of_next (idle : (s.port p).tx = .idle) (first : s.pif.nextReply p = some e)
    {r : Reply} (filled : (s.port p).replies[e]? = some (.filled r)) :
    s.replySendStart p = s.setPort p { s.port p with
      replies := (s.port p).replies.set e (.sending r)
      order := (s.port p).order.erase e
      tx := .reply e (s.port p).badFrame (s.port p).overrun
      badFrame := false
      overrun := false } := by
  simp [State.replySendStart, idle, first, PortState.sendReply, filled]

theorem State.replySendStart_of_none (none : s.pif.nextReply p = none) : s.replySendStart p = s := by
  unfold State.replySendStart
  split
  · rw [none]
  · rfl

theorem State.noticeSendStart_of_not
    (busy : ¬((s.port p).tx = .idle ∧ (s.port p).order = [] ∧ s.pif.restart = none)) :
    s.noticeSendStart p = s := if_neg busy

theorem State.restartApply_of_none (none : s.pif.restart = none) : s.restartApply = s := by
  simp [State.restartApply, Pif.restartDue, none]

/-- Without a RESTART a message's end is the port's alone. -/
theorem State.txMessageEnd_of_none (none : s.pif.restart = none) :
    s.txMessageEnd p = s.setPort p (s.port p).endMessage := by
  cases p <;> simp [State.txMessageEnd, State.setPort, Pif.setPort, none]

/-! ### The receiver -/

theorem State.port_elapse (s : State) (d : Nat) (p : Port) :
    (s.elapse d).port p = (s.port p).elapse d := by cases p <;> rfl

theorem Receiver.elapse_buf (r : Receiver) (d : Nat) : (r.elapse d).buf = r.buf := by
  unfold Receiver.elapse
  split <;> rfl

/-- A scan after the time has run out ends in HUNT. -/
theorem scan_expired_phase (fuel : Nat) :
    ∀ (ps : PortState) (bytes : List RxByte), (scan true fuel ps bytes).rx.phase = .hunt := by
  induction fuel with
  | zero => exact fun _ _ => rfl
  | succ fuel ih =>
    intro ps bytes
    simp only [scan]
    repeat' split
    all_goals first | exact ih _ _ | rfl | contradiction

/-- The bad-frame mark stays set through a scan. -/
theorem scan_badFrame (expired : Bool) (fuel : Nat) :
    ∀ (ps : PortState) (bytes : List RxByte), ps.badFrame = true →
      (scan expired fuel ps bytes).badFrame = true := by
  have accepted : ∀ (ps : PortState) (body : List Byte), (ps.accept body).badFrame = ps.badFrame := by
    intro ps body
    unfold PortState.accept
    split <;> rfl
  induction fuel with
  | zero => exact fun _ _ h => h
  | succ fuel ih =>
    intro ps bytes h
    simp only [scan]
    split
    · split
      · split
        · exact ih _ _ rfl
        · rfl
      · exact h
    · split
      · exact ih _ _ rfl
      · rfl
    · split
      · exact ih _ _ ((accepted _ _).trans h)
      · exact (accepted _ _).trans h

theorem afterSync_none {bytes : List RxByte} (h : ∀ b ∈ bytes, b.value ≠ 165#8) :
    afterSync bytes = none := by
  induction bytes with
  | nil => rfl
  | cons b bs ih =>
    obtain ⟨first, rest⟩ := List.forall_mem_cons.1 h
    simp [afterSync, first, ih rest]

/-- A frame not whole when the time has run out is bad. -/
theorem scan_expired_badFrame {ps : PortState} {bytes : List RxByte} {ph : RxPhase} {fuel : Nat}
    (unfinished : judge bytes = .unfinished ph) :
    (scan true (fuel + 1) ps bytes).badFrame = true := by
  simp only [scan, unfinished, if_true]
  split
  · exact scan_badFrame _ _ _ _ rfl
  · rfl

/-- Without a sync byte in it the frame leaves nothing but the mark. -/
theorem scan_expired_of_noSync {ps : PortState} {bytes : List RxByte} {ph : RxPhase} {fuel : Nat}
    (unfinished : judge bytes = .unfinished ph) (noSync : ∀ b ∈ bytes, b.value ≠ 165#8) :
    scan true (fuel + 1) ps bytes = { ps with badFrame := true }.hunting := by
  simp only [scan, unfinished, if_true, afterSync_none noSync]

/-! ### Bodies that cannot be read -/

/-- The catalogue names the kinds 1 to 36 (section 10.5). -/
theorem requestFields_outside {n : Nat} (outside : n = 0 ∨ 36 < n) : requestFields n = none := by
  unfold requestFields
  split <;> first | rfl | omega

theorem requestFields_inside {n : Nat} (low : 1 ≤ n) (high : n ≤ 36) :
    ∃ fields, requestFields n = some fields := by
  interval_cases n <;> exact ⟨_, rfl⟩

end Sys2Proof.Machine

namespace Sys2Proof
open Machine

/-- Settles O7: from the take of a RESTART the takes, the other lines' replies and every notice test
`Pif.restart` first. -/
theorem restartIsAnsweredAndHoldsThePorts : Obligations.RestartIsAnsweredAndHoldsThePorts := by
  refine ⟨fun s p tag e taken => ?_, fun s w restart => ?_, fun s p e r free restart idle filled => ?_⟩
  · have count : (s.taken p tag 36 e).pif.restartCount = s.pif.restartCount :=
      Pif.setPort_restartCount _ _ _
    refine (exec_taken taken).trans ?_
    show Host.Outcome.next (ownRestart _ _) = _
    simp only [ownRestart, Request.code, count, show (s.taken p tag 36 e).answer { port := p, entry := e } .done
      (.restartCount (s.pif.restartCount + 1)) = _ from taken.answer _ _]
  · refine ⟨exec_toInstr_of_restart restart, fun p body => ?_, fun p other => ?_, fun p => ?_⟩
    · show Host.Outcome.next (takeBad p body s) = _
      simp [takeBad, restart]
    · refine next_unlessReset_same (State.replySendStart_of_none ?_)
      simp [Pif.nextReply, restart, Ne.symm other]
    · exact next_unlessReset_same (State.noticeSendStart_of_not (by simp [restart]))
  · refine (next_unlessReset free _).trans ?_
    rw [State.replySendStart_of_next idle (by simp [Pif.nextReply, restart]) filled]

/-- Settles O8: `State.restarted` written out. -/
theorem restartApplied : Obligations.RestartApplied := by
  refine ⟨fun s w free restart sent idle0 idle1 idle2 => ?_, fun s w restart waits => ?_⟩
  · have due : s.pif.restartDue = true := by simp [Pif.restartDue, restart, sent, idle0, idle1, idle2]
    have last : (if s.opu.fault.isSome then s.opu.fault else s.opu.lastFault) =
        match s.opu.fault with
        | some r => some r
        | none => s.opu.lastFault := by
      cases s.opu.fault <;> rfl
    refine ⟨s.restarted, ?_, ?_, rfl, rfl, rfl, rfl, rfl, rfl, rfl, rfl, rfl, rfl, rfl, rfl, rfl, rfl,
      rfl, rfl, rfl, rfl, fun p => ?_, rfl, rfl, rfl, rfl, rfl, rfl, rfl, rfl, rfl, rfl, rfl, rfl, rfl, rfl,
      rfl, rfl, rfl, rfl, rfl, rfl, rfl, rfl, last, rfl, rfl, rfl, rfl, rfl, rfl, free, rfl⟩
    · refine (next_unlessReset free _).trans ?_
      rw [State.restartApply, if_pos due]
    · unfold State.restarted Opu.restarted
      cases s.opu.fault <;> rfl
    · cases p <;> rfl
  · refine next_unlessReset_same (if_neg ?_)
    rcases waits with unsent | ⟨p, busy⟩
    · simp [Pif.restartDue, restart, unsent]
    · cases p <;> simp_all [Pif.restartDue, State.port, Pif.port]

/-- Settles O10: a scan after the time has run out ends in HUNT, with the mark of its first frame. -/
theorem interbyteTimeoutDiscardsTheFrame : Obligations.InterbyteTimeoutDiscardsTheFrame := by
  refine ⟨fun s p ph free inFrame unfinished => ?_, fun s p hunt => ?_⟩
  · have timedOut : s.rxTimeout p =
        (s.elapse (1001 - (s.port p).rx.since)).setPort p
          ((s.port p).elapse (1001 - (s.port p).rx.since)).timeout := by
      rw [State.rxTimeout, if_neg inFrame]
      simp only [State.port_elapse]
    have scanned : ((s.port p).elapse (1001 - (s.port p).rx.since)).timeout =
        scan true ((s.port p).rx.buf.length + 1) ((s.port p).elapse (1001 - (s.port p).rx.since))
          (s.port p).rx.buf := by
      simp only [PortState.timeout, PortState.elapse, Receiver.elapse_buf]
    refine ⟨s.rxTimeout p, next_unlessReset free _, ?_, ?_, fun noSync => ?_⟩
    · rw [timedOut, State.port_setPort, scanned]
      exact scan_expired_phase _ _ _
    · rw [timedOut, State.port_setPort, scanned]
      exact scan_expired_badFrame unfinished
    · rw [timedOut, scanned, scan_expired_of_noSync unfinished noSync]
      rfl
  · exact next_unlessReset_same (if_pos hunt)

/-- Settles O11: the starts test the line and what waits before it, the end frees the entry. -/
theorem transmitLineSendsOneMessageAtATime : Obligations.TransmitLineSendsOneMessageAtATime := by
  refine ⟨fun s p e rest r free restart idle order filled => ?_,
    fun s p n rest free restart idle order notices => ?_, fun s p busy => ⟨?_, ?_⟩,
    fun s p waiting => ?_, fun s p e b o free restart sending => ?_,
    fun s p n l free restart sending => ?_, fun s p e b o free restart sending => ?_⟩
  · have first : s.pif.nextReply p = some e := by
      simp only [Pif.nextReply, restart]
      exact congrArg List.head? order
    refine (next_unlessReset free _).trans ?_
    rw [State.replySendStart_of_next idle first filled, order, List.erase_cons_head]
  · refine (next_unlessReset free _).trans ?_
    rw [State.noticeSendStart, if_pos ⟨idle, order, restart⟩]
    simp only [PortState.sendNotice, notices]
  · exact next_unlessReset_same (if_neg busy)
  · exact next_unlessReset_same (State.noticeSendStart_of_not fun h => busy h.1)
  · exact next_unlessReset_same (State.noticeSendStart_of_not fun h => waiting h.2.1)
  · refine (next_unlessReset free _).trans ?_
    rw [State.txMessageEnd_of_none restart, State.restartApply_of_none (by simpa [State.setPort])]
    simp only [PortState.endMessage, sending]
  · refine (next_unlessReset free _).trans ?_
    rw [State.txMessageEnd_of_none restart, State.restartApply_of_none (by simpa [State.setPort])]
    simp only [PortState.endMessage, sending]
  · have sends : s.pif.sendsRestart p = true := by
      have sending : (s.pif.port p).tx = .reply e b o := sending
      simp [Pif.sendsRestart, restart, sending]
    have port : (s.txMessageEnd p).port p = (s.port p).endMessage := by cases p <;> rfl
    refine ⟨_, s.txMessageEnd p, next_unlessReset free _, next_unlessReset ?_ _, ?_, ?_, ?_⟩
    · exact free
    · simp [State.txMessageEnd, sends, State.setPort, restart]
    · simp [port, PortState.endMessage, sending]
    · simp [port, PortState.endMessage, sending]

/-- Settles O12. -/
theorem subscribeReplacesTheSet : Obligations.SubscribeReplacesTheSet := by
  intro s p tag e r taken
  have own : exec (.subscribe p tag r) s =
      .next (ownSubscribe r { port := p, entry := e } (s.taken p tag 34 e)) := exec_taken taken
  refine ⟨fun large => ?_, fun small => ⟨_, own, ?_, fun p' other => ?_⟩⟩
  · rw [own, ownSubscribe, if_pos large]
    exact congrArg _ (taken.answer _ _)
  · have entry : (((s.taken p tag 34 e).port p).subscribe (r.classes.setWidth 16)).replies[e]? =
        some (.reserved tag 34) := State.taken_entry taken.free
    have filled := PortState.fill_reserved .done (.subscribed (r.classes.setWidth 16)) entry
    rw [ownSubscribe, if_neg (by omega)]
    simp only [State.answer, State.setPort, Pif.port_setPort, Pif.setPort_setPort] at filled ⊢
    rw [filled]
    simp [State.replied, State.taken, State.setPort, State.port, PortState.subscribe, subscribed,
      PortState.takenInto]
  · rw [ownSubscribe, if_neg (by omega)]
    exact ((Pif.port_setPort_ne _ _ other).trans (Pif.port_setPort_ne _ _ other)).trans
      (Pif.port_setPort_ne _ _ other)

/-- Settles O9. -/
theorem unreadableRequestIsAnsweredBadRequest : Obligations.UnreadableRequestIsAnsweredBadRequest := by
  refine ⟨fun s p b rest tag kind item e free restart queue entry bad => ?_, fun _ => rfl,
    fun tag k rest outside => ?_, fun tag k id low high => ?_⟩
  · show Host.Outcome.next (takeBad p b s) = _
    have reserved : s.setPort p ((s.port p).reserve e tag kind rest) = s.taken p tag kind e := by
      have room : decide (rest.length < 4) = decide (rest.length + 1 < 5) :=
        decide_eq_decide.2 (by omega)
      simp [State.taken, PortState.reserve, PortState.setRequests, PortState.takenInto, queue, room]
    simp only [takeBad, free, restart, queue, entry, bad, afterTakeBad, reserved, Bool.false_or,
      Option.isSome_none, if_true, if_false, Bool.false_eq_true]
    rw [State.taken_answer _ _ entry]
  · simp only [readRequest, requestFields_outside outside]
  · obtain ⟨fields, known⟩ := requestFields_inside low high
    simp [readRequest, known, readItems, bodyFault, firstFault]

end Sys2Proof

/-!
A whole message at the receiver (R189, R191).

`framed body` is what follows the sync byte.  Its first two bytes give the body's length, so every proper
part of it is judged unfinished (`judge_part`) and the whole of it good (`judge_framed`); the receiver
therefore gathers the bytes one by one and takes the body with the last (`runAll_framed`).
-/
namespace Sys2Proof.Machine

/-- A byte received in time and without a framing error. -/
def clean (b : Byte) : RxByte := { value := b, framingError := false, gap := 0 }

/-- The bytes of a message after its sync byte. -/
def framed (body : List Byte) : List Byte := (message 165 body).drop 1

theorem message_eq (body : List Byte) : message 165 body = 165 :: framed body := rfl

theorem framed_length (body : List Byte) : (framed body).length = body.length + 3 := by
  simp [framed, message]
  omega

theorem framed_body (body : List Byte) : ((framed body).drop 2).take body.length = body := by
  simp [framed, message, leBytes]

theorem byteSum_clean (bs : List Byte) : byteSum (bs.map clean) = sumBytes bs := by
  induction bs with
  | nil => rfl
  | cons b bs ih => exact congrArg (b.toNat + ·) ih

theorem any_faulty_clean (bs : List Byte) (n : Nat) :
    ((bs.map clean).take n).any (·.faulty) = false := by
  rw [← List.map_take, List.any_map]
  exact List.any_eq_false.2 fun b _ => by simp [clean, RxByte.faulty]

theorem judgeLength_short {len : Nat} (low : 1 ≤ len) (high : len ≤ 600) {bs : List Byte}
    (short : bs.length < len + 3) :
    judgeLength len (bs.map clean) = .unfinished (phaseFor bs.length len) := by
  have allowed : ¬(len = 0 ∨ 600 < len) := by omega
  simp only [judgeLength, allowed, any_faulty_clean, List.length_map, short, if_true, if_false,
    Bool.false_eq_true]

theorem judgeLength_whole {len : Nat} (low : 1 ≤ len) (high : len ≤ 600) {bs : List Byte}
    (whole : bs.length = len + 3) (sum : sumBytes bs % 256 = 0) :
    judgeLength len (bs.map clean) = .good ((bs.drop 2).take len) [] := by
  have allowed : ¬(len = 0 ∨ 600 < len) := by omega
  have all : (bs.map clean).take (len + 3) = bs.map clean := by
    rw [List.take_of_length_le (by simp [whole])]
  have none : (bs.map clean).drop (len + 3) = [] := by
    rw [List.drop_of_length_le (by simp [whole])]
  have values : (((bs.map clean).drop 2).take len).map (·.value) = (bs.drop 2).take len := by
    rw [← List.map_drop, ← List.map_take, List.map_map]
    exact List.map_id _
  have faulty := any_faulty_clean bs (len + 3)
  rw [all] at faulty
  simp only [judgeLength, allowed, all, none, values, faulty, List.length_map, whole, byteSum_clean, sum,
    if_true, if_false, Bool.false_eq_true, Nat.lt_irrefl]

/-- The first two bytes of a frame give its body's length. -/
theorem bodyLength_framed {body : List Byte} (high : body.length ≤ 600) :
    bodyLength (clean (BitVec.ofNat 8 body.length)) (clean (BitVec.ofNat 8 (body.length / 256))) =
      body.length := by
  simp only [bodyLength, clean, BitVec.toNat_ofNat]
  omega

theorem judge_clean {body : List Byte} (high : body.length ≤ 600) {rest : List Byte} :
    judge ((leBytes 2 body.length ++ rest).map clean) =
      judgeLength body.length ((leBytes 2 body.length ++ rest).map clean) := by
  have faultless : ∀ b : Byte, (clean b).faulty = false := fun b => by simp [clean, RxByte.faulty]
  simp only [leBytes, List.cons_append, List.nil_append, List.map_cons, judge, faultless,
    bodyLength_framed high, Bool.or_false, Bool.false_eq_true, if_false]

theorem framed_eq (body : List Byte) :
    ∃ rest, framed body = leBytes 2 body.length ++ rest := by
  exact ⟨body ++ [BitVec.ofNat 8 (256 - sumBytes (leBytes 2 body.length ++ body) % 256)],
    List.append_assoc _ _ _⟩

/-- A proper part of a frame is unfinished, and not in HUNT. -/
theorem judge_part {body pre post : List Byte} (low : 1 ≤ body.length) (high : body.length ≤ 600)
    (parts : framed body = pre ++ post) (proper : post ≠ []) :
    ∃ ph, ph ≠ RxPhase.hunt ∧ judge (pre.map clean) = .unfinished ph := by
  have length := framed_length body
  rw [parts, List.length_append] at length
  have some : 0 < post.length := List.length_pos_iff.2 proper
  match pre with
  | [] => exact ⟨.length, by decide, rfl⟩
  | [b] => exact ⟨.length, by decide, by simp [judge, clean, RxByte.faulty]⟩
  | lo :: hi :: more =>
    obtain ⟨rest, start⟩ := framed_eq body
    have same : lo :: hi :: more = leBytes 2 body.length ++ more := by
      rw [start] at parts
      simp only [leBytes, List.cons_append, List.cons.injEq] at parts
      obtain ⟨rfl, rfl, -⟩ := parts
      rfl
    refine ⟨phaseFor (lo :: hi :: more).length body.length, ?_, ?_⟩
    · unfold phaseFor
      split <;> decide
    · rw [same, judge_clean high, ← same]
      exact judgeLength_short low high (by omega)

/-- The whole of a frame is good. -/
theorem judge_framed {body : List Byte} (low : 1 ≤ body.length) (high : body.length ≤ 600) :
    judge ((framed body).map clean) = .good body [] := by
  obtain ⟨rest, start⟩ := framed_eq body
  rw [start, judge_clean high, ← start, judgeLength_whole low high (framed_length body) (message_sum 165 body),
    framed_body]

theorem accept_hunting (ps : PortState) (r : Receiver) (body : List Byte) :
    ({ ps with rx := r }.accept body).hunting = (ps.accept body).hunting := by
  unfold PortState.accept
  dsimp only
  split <;> rfl

/-- A byte within a frame joins those before it and is judged with them. -/
theorem receive_inFrame {ps : PortState} {pre : List Byte} {ph : RxPhase} (inFrame : ph ≠ .hunt)
    (rx : ps.rx = { phase := ph, buf := pre.map clean, since := 0 }) (b : Byte) :
    ps.receive b false = scan false (pre.length + 2) ps ((pre ++ [b]).map clean) := by
  simp [PortState.receive, rx, inFrame, clean]

/-- The rest of a frame, received byte by byte. -/
theorem runAll_framed {body : List Byte} (low : 1 ≤ body.length) (high : body.length ≤ 600) (p : Port)
    (post : List Byte) :
    ∀ (pre : List Byte) (s : State) (ph : RxPhase), s.por = false → framed body = pre ++ post →
      post ≠ [] → ph ≠ .hunt →
      (s.port p).rx = { phase := ph, buf := pre.map clean, since := 0 } →
      runAll (post.map fun b => .rxByte p b false) s =
        .next (s.setPort p ((s.port p).accept body).hunting) := by
  induction post with
  | nil => exact fun _ _ _ _ _ proper => absurd rfl proper
  | cons b post ih =>
    intro pre s ph free parts _ inFrame rx
    have received : exec (.rxByte p b false) s = .next (s.setPort p (scan false (pre.length + 2)
        (s.port p) ((pre ++ [b]).map clean))) := by
      rw [← receive_inFrame inFrame rx]
      exact next_unlessReset free _
    have parts : framed body = (pre ++ [b]) ++ post := by simpa using parts
    simp only [List.map_cons, runAll, received]
    by_cases last : post = []
    · subst last
      rw [List.append_nil] at parts
      simp only [scan, ← parts, judge_framed low high, List.map_nil, runAll, afterSync]
    · obtain ⟨ph', inFrame', unfinished⟩ := judge_part low high parts last
      simp only [scan, unfinished, Bool.false_eq_true, if_false]
      refine (ih (pre ++ [b]) (s.setPort p _) ph' free parts last inFrame' (by simp)).trans ?_
      simp only [State.port_setPort, State.setPort_setPort, accept_hunting]

end Sys2Proof.Machine

namespace Sys2Proof
open Machine

/-- Settles O6: the sync byte leads out of HUNT, `runAll_framed` does the rest. -/
theorem goodMessageIsQueuedOrOverruns : Obligations.GoodMessageIsQueuedOrOverruns := by
  intro s p body free hunt low high
  have sync : exec (.rxByte p 165 false) s = .next (s.setPort p { s.port p with
      rx := { phase := .length, buf := [], since := 0 } }) := by
    refine (next_unlessReset free _).trans ?_
    simp [PortState.receive, hunt]
  have nonempty : framed body ≠ [] := List.length_pos_iff.1 (by rw [framed_length]; omega)
  rw [message_eq]
  simp only [List.map_cons, runAll, sync]
  refine (runAll_framed low high p (framed body) [] (s.setPort p _) .length free rfl nonempty
    (by decide) (by simp)).trans ?_
  simp only [State.port_setPort, State.setPort_setPort, accept_hunting]
  have room : decide ((s.port p).requests.length + 1 < 4) = decide ((s.port p).requests.length < 3) :=
    decide_eq_decide.2 (by omega)
  congr 2
  unfold PortState.accept
  split <;> simp [PortState.hunting, PortState.setRequests, room]

end Sys2Proof

/-! PROOFS. A request's body reads back as the request (section 10.2, R190, R192).

A body is seen as its *slots*: for each field of the catalogue, in field id order, the values written
for it (none for an absent field, several for a list of records). -/

namespace Sys2Proof.Machine

/-! ### The items of a body -/

/-- The items that the slots hold, the first slot's under the id given. -/
def slotItems : Nat → List (List (List Byte)) → List Item
  | _, [] => []
  | i, vs :: rest => vs.map (Item.mk i) ++ slotItems (i + 1) rest

/-- The bytes of an item. -/
def itemOctets (it : Item) : List Byte := itemBytes it.id it.value

theorem octet_toNat {n : Nat} (fits : n < 256) : (BitVec.ofNat 8 n).toNat = n := by
  rw [BitVec.toNat_ofNat, Nat.mod_eq_of_lt fits]

/-- Items written one after another read back. -/
theorem readItems_octets (its : List Item) :
    ∀ fuel, (its.flatMap itemOctets).length ≤ fuel →
      (∀ it ∈ its, it.id < 256 ∧ it.value.length < 65536) →
      readItems fuel (its.flatMap itemOctets) = (its, none) := by
  induction its with
  | nil => intro fuel _ _; cases fuel <;> rfl
  | cons it its ih =>
    intro fuel long small
    obtain ⟨idSmall, valueSmall⟩ := small it (by simp)
    cases fuel with
    | zero => simp [itemOctets, itemBytes] at long
    | succ fuel =>
      have size : (BitVec.ofNat 8 it.value.length).toNat +
          256 * (BitVec.ofNat 8 (it.value.length / 256)).toNat = it.value.length := by
        rw [octet_toNat (n := it.value.length / 256) (by omega), BitVec.toNat_ofNat]
        omega
      have more := ih fuel (by
        simp only [List.flatMap_cons, List.length_append, itemOctets, itemBytes, List.length_cons] at long
        omega)
        fun it' mem => small it' (by simp [mem])
      rw [List.flatMap_cons]
      generalize its.flatMap itemOctets = rest at more
      simp only [itemOctets, itemBytes, List.cons_append, readItems, size, octet_toNat idSmall,
        List.drop_left, List.take_left, more]
      rw [if_neg (by simp)]

/-- An item of the slots has the id of its slot and one of its values. -/
theorem mem_slotItems {it : Item} {vss : List (List (List Byte))} :
    ∀ {i : Nat}, it ∈ slotItems i vss → ∃ k vs, it.id = i + k ∧ vss[k]? = some vs ∧ it.value ∈ vs := by
  induction vss with
  | nil => intro i mem; simp [slotItems] at mem
  | cons vs rest ih =>
    intro i mem
    simp only [slotItems, List.mem_append, List.mem_map] at mem
    rcases mem with ⟨v, mem, rfl⟩ | mem
    · exact ⟨0, vs, rfl, rfl, mem⟩
    · obtain ⟨k, vs', id, at_, value⟩ := ih mem
      exact ⟨k + 1, vs', by omega, by simpa using at_, value⟩

/-- The values under an id are those of its slot. -/
theorem slotItems_values (vss : List (List (List Byte))) :
    ∀ i k, ((slotItems i vss).filter (·.id == i + k)).map (·.value) = vss.getD k [] := by
  induction vss with
  | nil => intro i k; simp [slotItems]
  | cons vs rest ih =>
    intro i k
    cases k with
    | zero =>
      have none : (slotItems (i + 1) rest).filter (·.id == i + 0) = [] := by
        rw [List.filter_eq_nil_iff]
        intro it mem
        obtain ⟨k, _, id, _, _⟩ := mem_slotItems mem
        simp [id]; omega
      rw [slotItems, List.filter_append, none, List.filter_eq_self.mpr (by simp)]
      simp [Function.comp_def]
    | succ k =>
      have none : (vs.map (Item.mk i)).filter (·.id == i + (k + 1)) = [] := by
        rw [List.filter_eq_nil_iff]
        simp
      rw [slotItems, List.filter_append, none, show i + (k + 1) = i + 1 + k by omega]
      simpa using ih (i + 1) k

/-- The value of a field is the first of its slot. -/
theorem fieldOf_slotItems (vss : List (List (List Byte))) (k : Nat) :
    fieldOf (slotItems 1 vss) (k + 1) = (vss.getD k []).head? := by
  rw [← slotItems_values vss 1 k, List.head?_map, List.head?_filter, fieldOf, Nat.add_comm 1 k]

/-! ### The checks of R192 -/

/-- A value that checks 3, 5 and 6 let pass for a field of a kind. -/
def valueOk : FieldKind → List Byte → Bool
  | .int, v => 1 ≤ v.length && v.length ≤ 4
  | .uint, v => 1 ≤ v.length && v.length ≤ 4
  | .flag, v => v == [0#8] || v == [1#8]
  | .text, _ => true
  | .nums w, v => v.length % w == 0
  | .records, v => 4 ≤ v.length && (v.length - 4) % 3 == 0 && (v.getD 1 0#8 == 0#8 || v.getD 1 0#8 == 1#8)

/-- A slot that holds what its field allows. -/
structure SlotFits (f : FieldSpec) (vs : List (List Byte)) : Prop where
  values : ∀ v ∈ vs, valueOk f.kind v = true ∧ v.length < 65536
  once : f.kind = .records ∨ vs.length ≤ 1
  present : f.required = true → vs ≠ []

theorem kindOfId_succ (fields : List FieldSpec) (k : Nat) :
    kindOfId fields (k + 1) = (fields[k]?).map FieldSpec.kind := by
  simp [kindOfId, specOf]

/-- A value that `valueOk` accepts passes checks 3, 5 and 6. -/
theorem itemChecks_of_valueOk {fields : List FieldSpec} {it : Item} {kind : FieldKind}
    (known : kindOfId fields it.id = some kind) (ok : valueOk kind it.value = true) :
    it.widthOk fields = true ∧ it.listOk fields = true ∧ it.flagOk fields = true := by
  simp only [Item.widthOk, Item.listOk, Item.flagOk, known]
  cases kind <;> simp_all [valueOk]

theorem firstFault_none {ok : Item → Bool} {its : List Item} (all : ∀ it ∈ its, ok it = true) :
    firstFault ok its = none := by
  simpa [firstFault] using all

/-- Check 4 lets ids pass that the list of fields has, where none repeats but a list of records'. -/
theorem idFault_none {fields : List FieldSpec} {its : List Item} :
    ∀ {seen}, (∀ it ∈ its, (specOf fields it.id).isSome = true) →
      (∀ it ∈ its, it.id ∉ seen ∨ repeats fields it.id = true) →
      its.Pairwise (fun a b => a.id ≠ b.id ∨ repeats fields b.id = true) →
      idFault fields seen its = none := by
  induction its with
  | nil => intros; rfl
  | cons it its ih =>
    intro seen known fresh apart
    obtain ⟨first, rest⟩ := List.pairwise_cons.mp apart
    have knownIt : (specOf fields it.id).isNone = false := by
      simpa [Option.isSome_iff_ne_none] using known it (by simp)
    have freshIt : (seen.contains it.id && !repeats fields it.id) = false := by
      rcases fresh it (by simp) with new | again
      · simp [new]
      · simp [again]
    rw [idFault, knownIt, freshIt]
    refine ih (fun it' mem => known it' (by simp [mem])) (fun it' mem => ?_) rest
    rcases first it' mem with differs | again
    · rcases fresh it' (by simp [mem]) with new | again
      · exact .inl (by simp [new, Ne.symm differs])
      · exact .inr again
    · exact .inr again

/-- Slots of one value each, but for those of records, do not repeat an id. -/
theorem slotItems_pairwise {fields : List FieldSpec} {vss : List (List (List Byte))} :
    ∀ {i}, (∀ k vs, vss[k]? = some vs → repeats fields (i + k) = true ∨ vs.length ≤ 1) →
      (slotItems i vss).Pairwise (fun a b => a.id ≠ b.id ∨ repeats fields b.id = true) := by
  induction vss with
  | nil => intros; exact .nil
  | cons vs rest ih =>
    intro i once
    refine List.pairwise_append.mpr ⟨?_, ih fun k vs' at_ => ?_, fun a memA b memB => ?_⟩
    · rcases once 0 vs rfl with again | short
      · exact List.pairwise_map.mpr (List.pairwise_of_forall fun _ _ => .inr again)
      · match vs, short with
        | [], _ => exact .nil
        | [v], _ => exact List.pairwise_singleton _ _
    · simpa [Nat.add_assoc, Nat.add_comm 1 k] using once (k + 1) vs' (by simpa using at_)
    · obtain ⟨v, _, rfl⟩ := List.mem_map.mp memA
      obtain ⟨k, _, id, _, _⟩ := mem_slotItems memB
      exact .inl (by rw [id]; exact Nat.ne_of_lt (show i < i + 1 + k by omega))

/-- The field list of a request, with slots that fit it. -/
structure Laid (fields : List FieldSpec) (vss : List (List (List Byte))) : Prop where
  sizes : fields.length = vss.length
  fits : ∀ (k : Nat) (f : FieldSpec) (vs : List (List Byte)),
    fields[k]? = some f → vss[k]? = some vs → SlotFits f vs

theorem Laid.nil : Laid [] [] := ⟨rfl, by simp⟩

theorem Laid.cons {f : FieldSpec} {vs : List (List Byte)} {fields : List FieldSpec}
    {vss : List (List (List Byte))} (first : SlotFits f vs) (rest : Laid fields vss) :
    Laid (f :: fields) (vs :: vss) := by
  refine ⟨by simp [rest.sizes], fun k f' vs' atF atV => ?_⟩
  cases k with
  | zero =>
    simp only [List.getElem?_cons_zero, Option.some.injEq] at atF atV
    exact atF ▸ atV ▸ first
  | succ k => exact rest.fits k f' vs' (by simpa using atF) (by simpa using atV)

section Laid

variable {fields : List FieldSpec} {vss : List (List (List Byte))}

/-- The field of a slot, which fits it. -/
theorem Laid.at_slot (laid : Laid fields vss) {k : Nat} {vs : List (List Byte)} (at_ : vss[k]? = some vs) :
    ∃ f, fields[k]? = some f ∧ SlotFits f vs := by
  have inside : k < fields.length := laid.sizes ▸ (List.getElem?_eq_some_iff.mp at_).1
  exact ⟨fields[k], List.getElem?_eq_getElem inside,
    laid.fits k _ vs (List.getElem?_eq_getElem inside) at_⟩

/-- An item of slots that fit their fields: its field is known and its value good. -/
theorem Laid.item (laid : Laid fields vss) {it : Item} (mem : it ∈ slotItems 1 vss) :
    ∃ kind, kindOfId fields it.id = some kind ∧ valueOk kind it.value = true ∧
      it.id ≤ vss.length ∧ it.value.length < 65536 := by
  obtain ⟨k, vs, id, at_, value⟩ := mem_slotItems mem
  obtain ⟨f, atF, fits⟩ := laid.at_slot at_
  obtain ⟨ok, small⟩ := fits.values _ value
  have inside := (List.getElem?_eq_some_iff.mp at_).1
  exact ⟨f.kind, by rw [id, Nat.add_comm, kindOfId_succ, atF]; rfl, ok, by omega, small⟩

/-- No field of the catalogue is missing from slots that fit it (check 7). -/
theorem Laid.required (laid : Laid fields vss) : required fields (slotItems 1 vss) = true := by
  simp only [Sys2Proof.required, List.all_eq_true, List.mem_range]
  intro k inside
  have at_ : vss[k]? = some (vss[k]'(laid.sizes ▸ inside)) := List.getElem?_eq_getElem _
  have fits := laid.fits k _ _ (List.getElem?_eq_getElem inside) at_
  rw [List.getElem?_eq_getElem inside, fieldOf_slotItems]
  cases needed : fields[k].required with
  | false => simp [needed]
  | true => simpa [needed, at_] using fits.present needed

/-- Slots that fit their fields pass every check of R192, where the condition of a RECALL is whole. -/
theorem Laid.bodyFault (laid : Laid fields vss) {kind : Nat}
    (whole : groupsWhole kind (slotItems 1 vss) = true) :
    bodyFault kind fields (slotItems 1 vss) none = none := by
  have checks : ∀ it ∈ slotItems 1 vss,
      it.widthOk fields = true ∧ it.listOk fields = true ∧ it.flagOk fields = true := fun it mem => by
    obtain ⟨_, known, ok, _, _⟩ := laid.item mem
    exact itemChecks_of_valueOk known ok
  have ids : idFault fields [] (slotItems 1 vss) = none := by
    refine idFault_none (fun it mem => ?_) (by simp) (slotItems_pairwise fun k vs at_ => ?_)
    · obtain ⟨_, known, _⟩ := laid.item mem
      obtain ⟨f, spec, _⟩ := Option.map_eq_some_iff.mp known
      simp [spec]
    · obtain ⟨f, atF, fits⟩ := laid.at_slot at_
      refine fits.once.imp (fun records => ?_) id
      simp [repeats, Nat.add_comm 1 k, kindOfId_succ, atF, records]
  rw [Sys2Proof.bodyFault, firstFault_none fun it mem => (checks it mem).1, ids,
    firstFault_none fun it mem => (checks it mem).2.1, firstFault_none fun it mem => (checks it mem).2.2,
    laid.required, whole]
  rfl

/-- A body whose items are those of slots that fit the fields of its kind reads as the request that
its items make. -/
theorem readRequest_laid (laid : Laid fields vss) {tag : Byte} {q : Request} {kind : Nat}
    (small : kind < 256) (few : vss.length < 256) (known : requestFields kind = some fields)
    (whole : groupsWhole kind (slotItems 1 vss) = true)
    (made : requestOf kind (slotItems 1 vss) = some q) :
    readRequest (tag :: BitVec.ofNat 8 kind :: (slotItems 1 vss).flatMap itemOctets) = .request tag q := by
  have read := readItems_octets (slotItems 1 vss) _ (Nat.le_refl _) fun it mem => by
    obtain ⟨_, _, _, id, size⟩ := laid.item mem
    exact ⟨by omega, size⟩
  simp only [readRequest, octet_toNat small, known, read, laid.bodyFault whole, made]

end Laid

/-! ### The slots of each request -/

/-- The slot of an integer. -/
def intSlot (v : Int) : List (List Byte) := [intBytes 4 v]

/-- The slot of an optional integer. -/
def optSlot (v : Option Int) : List (List Byte) := (v.map (intBytes 4)).toList

/-- The slot of a word. -/
def wordSlot (v : Word32) : List (List Byte) := [leBytes 4 v.toNat]

/-- What a request writes for each of its fields. -/
def slots : Request → List (List (List Byte))
  | .recall r =>
    [intSlot r.presetA, optSlot (r.cond.map (·.bit)), optSlot (r.cond.map (·.polarity)),
      optSlot (r.cond.map (·.presetB)), (r.cond.map (flagBytes ·.toggle)).toList, optSlot r.fade]
  | .edit r => [intSlot r.stage, intSlot r.param, intSlot r.value, optSlot r.expected]
  | .bypassStage r => [intSlot r.stage, [flagBytes r.enabled], optSlot r.expected]
  | .store r => [intSlot r.slot, r.name.toList]
  | .writePreset r =>
    [intSlot r.slot, [r.name], r.entries.map entryBytes, optSlot r.tempo, optSlot r.fade, intSlot r.level]
  | .readPreset r => [intSlot r.slot]
  | .erasePreset r => [intSlot r.slot]
  | .latch r => [wordSlot r.set, wordSlot r.clear, wordSlot r.toggle]
  | .setSceneOptions r => [optSlot r.safe, optSlot r.fade]
  | .writeCurve r => [intSlot r.slot, [numBytes 2 r.points]]
  | .writeImpulse r => [intSlot r.slot, [numBytes 2 r.taps]]
  | .meters r => [[flagBytes r.clear]]
  | .setTails r => [optSlot r.drain, optSlot r.life, (r.cut.map flagBytes).toList]
  | .tempoSource r => [intSlot r.source, optSlot r.edge, optSlot r.n]
  | .tempoSet r => [intSlot r.period, [flagBytes r.restart]]
  | .tunerMode r => [intSlot r.mode]
  | .tunerSet r => [optSlot r.reference, optSlot r.k, optSlot r.floor]
  | .tunerRead r => [optSlot r.note]
  | .mute r => [intSlot r.value]
  | .resume r => [intSlot r.mode]
  | .setProtection r => [optSlot r.mode, optSlot r.limit, optSlot r.policy]
  | .convRead r => [intSlot r.target, intSlot r.index]
  | .convWrite r => [intSlot r.target, intSlot r.index, intSlot r.data]
  | .subscribe r => [wordSlot r.classes]
  | .sceneRead | .tap | .tempoRead | .faultRead | .failoverRead | .failoverClear | .linkStart
  | .linkRest | .linkWake | .auxRead | .identify | .restart => []

theorem octets_optItem (i : Nat) (v : Option (List Byte)) :
    (v.toList.map (Item.mk i)).flatMap itemOctets = optItem i v := by
  cases v <;> simp [optItem, itemOctets]

theorem octets_optSlot (i : Nat) (v : Option Int) :
    ((optSlot v).map (Item.mk i)).flatMap itemOctets = optItem i (v.map (intBytes 4)) :=
  octets_optItem i _

theorem octets_intSlot (i : Nat) (v : Int) :
    ((intSlot v).map (Item.mk i)).flatMap itemOctets = itemBytes i (intBytes 4 v) := by
  simp [intSlot, itemOctets]

theorem octets_wordSlot (i : Nat) (v : Word32) :
    ((wordSlot v).map (Item.mk i)).flatMap itemOctets = itemBytes i (leBytes 4 v.toNat) := by
  simp [wordSlot, itemOctets]

theorem octets_item (i : Nat) (v : List Byte) : itemOctets ⟨i, v⟩ = itemBytes i v := rfl

theorem octets_entries (i : Nat) (es : List EntryReq) :
    (es.map (Item.mk i ∘ entryBytes)).flatMap itemOctets =
      es.flatMap fun e => itemBytes i (entryBytes e) :=
  List.flatMap_map ..

/-- The item bytes of a request are those of its slots. -/
theorem items_eq_slots (q : Request) : q.items = (slotItems 1 (slots q)).flatMap itemOctets := by
  cases q
  next r => -- RECALL, whose constructor's name is a keyword of Mathlib's
    obtain ⟨_, cond, _⟩ := r
    cases cond <;>
      simp [Request.items, slots, slotItems, octets_intSlot, octets_optSlot, octets_item, optItem]
  all_goals
    simp [Request.items, slots, slotItems, octets_intSlot, octets_optSlot, octets_optItem,
      octets_wordSlot, octets_item, octets_entries]

/-! ### Every request's slots fit -/

theorem intSlot_fits (v : Int) (required : Bool) : SlotFits ⟨.int, required⟩ (intSlot v) :=
  ⟨by simp [intSlot, valueOk, intBytes], .inr (by simp [intSlot]), fun _ => by simp [intSlot]⟩

theorem optSlot_fits (v : Option Int) : SlotFits ⟨.int, false⟩ (optSlot v) := by
  cases v with
  | none => exact ⟨by simp [optSlot], .inr (by simp [optSlot]), by simp⟩
  | some v => exact intSlot_fits v false

theorem wordSlot_fits (v : Word32) : SlotFits ⟨.uint, true⟩ (wordSlot v) :=
  ⟨by simp [wordSlot, valueOk], .inr (by simp [wordSlot]), fun _ => by simp [wordSlot]⟩

theorem flagSlot_fits (b required : Bool) : SlotFits ⟨.flag, required⟩ [flagBytes b] :=
  ⟨by cases b <;> simp [valueOk, flagBytes], .inr (by simp), by simp⟩

theorem optFlag_fits (b : Option Bool) : SlotFits ⟨.flag, false⟩ (b.map flagBytes).toList := by
  cases b with
  | none => exact ⟨by simp, .inr (by simp), by simp⟩
  | some b => exact flagSlot_fits b false

theorem textSlot_fits {n : List Byte} (fits : textFits n = true) (required : Bool) :
    SlotFits ⟨.text, required⟩ [n] :=
  ⟨by simpa [valueOk, textFits] using fits, .inr (by simp), by simp⟩

theorem optText_fits {n : Option (List Byte)} (fits : n.all textFits = true) :
    SlotFits ⟨.text, false⟩ n.toList := by
  cases n with
  | none => exact ⟨by simp, .inr (by simp), by simp⟩
  | some n => exact textSlot_fits (by simpa using fits) false

theorem numBytes_length (w : Nat) (vs : List Int) : (numBytes w vs).length = w * vs.length := by
  induction vs with
  | nil => rfl
  | cons v vs ih =>
    have rest : (vs.flatMap (intBytes w)).length = w * vs.length := ih
    simp [numBytes, intBytes, rest, Nat.mul_succ, Nat.add_comm]

theorem numsSlot_fits {vs : List Int} (fits : pointsFit vs = true) :
    SlotFits ⟨.nums 2, true⟩ [numBytes 2 vs] := by
  obtain ⟨_, small⟩ := Bool.and_eq_true_iff.mp fits
  exact ⟨by simpa [valueOk, numBytes_length] using small, .inr (by simp), by simp⟩

/-- The parts of a stage entry that its layout carries. -/
theorem EntryReq.fits_iff (e : EntryReq) :
    e.fits = true ↔ (e.kind < 256 ∧ e.spill < 256 ∧ (∀ c ∈ e.sync, c < 255) ∧
      (∀ v ∈ e.params, paramFits v = true) ∧ 4 + 3 * e.params.length < 65536) := by
  simp [EntryReq.fits, Option.all_eq_true, and_assoc]

theorem entrySlot_fits {es : List EntryReq} (some_ : es ≠ []) (fits : ∀ e ∈ es, e.fits = true) :
    SlotFits ⟨.records, true⟩ (es.map entryBytes) := by
  refine ⟨fun v mem => ?_, .inl rfl, fun _ => by simpa using some_⟩
  obtain ⟨e, inList, rfl⟩ := List.mem_map.mp mem
  obtain ⟨_, _, _, _, small⟩ := (EntryReq.fits_iff e).mp (fits e inList)
  have size : (entryBytes e).length = 3 * e.params.length + 4 := by
    simp [entryBytes, numBytes_length]
  refine ⟨?_, by omega⟩
  cases enabled : e.enabled <;> simp [valueOk, entryBytes, enabled, numBytes_length]

/-! ### Reading the values back -/

theorem head_optSlot (v : Option Int) : (optSlot v).head? = v.map (intBytes 4) := by
  cases v <;> rfl

theorem leInt_optional {v : Option Int} (fits : optFits v = true) :
    v.map (leInt ∘ intBytes 4) = v := by
  cases v with
  | none => rfl
  | some v => simp [leInt_intBytes (v := v) (by simpa [optFits] using fits)]

theorem word_leBytes (v : Word32) : BitVec.ofNat 32 (leNat (leBytes 4 v.toNat)) = v := by
  rw [leNat_leBytes]
  exact BitVec.eq_of_toNat_eq (by simp [v.isLt])

theorem flagBytes_eq (b : Bool) : (flagBytes b == [1#8]) = b := by cases b <;> rfl

theorem flag_optional (b : Option Bool) : b.map ((· == [1#8]) ∘ flagBytes) = b := by
  cases b <;> simp [flagBytes_eq]

/-- Numbers whose values w bytes carry read back one by one. -/
theorem pieces_numBytes {w : Nat} (wide : 0 < w) (vs : List Int) :
    ∀ fuel, (numBytes w vs).length ≤ fuel → pieces w fuel (numBytes w vs) = vs.map (intBytes w) := by
  induction vs with
  | nil => intro fuel _; cases fuel <;> rfl
  | cons v vs ih =>
    intro fuel long
    rw [numBytes_length, List.length_cons, Nat.mul_succ] at long
    obtain ⟨fuel, rfl⟩ : ∃ f, fuel = f + 1 := ⟨fuel - 1, by omega⟩
    have size : (intBytes w v).length = w := by simp [intBytes]
    have step : numBytes w (v :: vs) = intBytes w v ++ numBytes w vs := rfl
    have some_ : intBytes w v ++ numBytes w vs ≠ [] := by
      intro none
      have := congrArg List.length none
      simp [size] at this
      omega
    rw [step, pieces.eq_3 _ _ _ some_, List.take_left' size, List.drop_left' size,
      ih fuel (by rw [numBytes_length]; omega), List.map_cons]

theorem readNums_numBytes {w : Nat} (wide : 0 < w) {vs : List Int}
    (each : ∀ v ∈ vs, leInt (intBytes w v) = v) : readNums w (numBytes w vs) = vs := by
  rw [readNums, pieces_numBytes wide vs _ (Nat.le_refl _), List.map_map]
  exact (List.map_congr_left each).trans (List.map_id vs)

theorem leInt_point {v : Int} (low : -32768 ≤ v) (high : v ≤ 32767) : leInt (intBytes 2 v) = v := by
  simp only [leInt, intBytes, leNat_leBytes, leBytes_length]
  norm_num
  split <;> omega

theorem leInt_param {v : Int} (fits : paramFits v = true) : leInt (intBytes 3 v) = v := by
  simp only [paramFits, Bool.and_eq_true, decide_eq_true_eq] at fits
  simp only [leInt, intBytes, leNat_leBytes, leBytes_length]
  norm_num
  split <;> omega

theorem readNums_points {vs : List Int} (fits : pointsFit vs = true) :
    readNums 2 (numBytes 2 vs) = vs := by
  obtain ⟨each, _⟩ := Bool.and_eq_true_iff.mp fits
  refine readNums_numBytes (by omega) fun v mem => ?_
  have bounds := List.all_eq_true.mp each v mem
  simp only [Bool.and_eq_true, decide_eq_true_eq] at bounds
  exact leInt_point bounds.1 bounds.2

/-- A stage entry reads back from its layout (section 10.2). -/
theorem readEntry_entryBytes {e : EntryReq} (fits : e.fits = true) : readEntry (entryBytes e) = e := by
  obtain ⟨kind, spill, sync, params, _⟩ := (EntryReq.fits_iff e).mp fits
  have enabled : ((if e.enabled then 1#8 else 0#8) == 1#8) = e.enabled := by cases e.enabled <;> rfl
  have code : (if BitVec.ofNat 8 (e.sync.getD 255) == 255#8 then none
      else some (BitVec.ofNat 8 (e.sync.getD 255)).toNat) = e.sync := by
    cases at_ : e.sync with
    | none => rfl
    | some c =>
      have small := sync c at_
      have differs : ¬ BitVec.ofNat 8 c = 255#8 := fun same => by
        have := congrArg BitVec.toNat same
        rw [octet_toNat (by omega)] at this
        simp at this
        omega
      simp [differs, Nat.mod_eq_of_lt (show c < 256 by omega)]
  have values := readNums_numBytes (w := 3) (by omega) fun v mem => leInt_param (params v mem)
  simp only [readEntry, entryBytes, List.getD_cons_zero, List.getD_cons_succ, List.drop_succ_cons,
    List.drop_zero, octet_toNat kind, octet_toNat spill, enabled, code, values]

/-- The slots of a request that a body can carry fit the fields of its kind. -/
theorem slots_laid {q : Request} (fits : q.fits = true) :
    ∃ fields, requestFields q.code = some fields ∧ Laid fields (slots q) := by
  cases q with
  | edit r =>
    exact ⟨_, rfl, .cons (intSlot_fits ..) <| .cons (intSlot_fits ..) <| .cons (intSlot_fits ..) <|
      .cons (optSlot_fits _) .nil⟩
  | bypassStage r =>
    exact ⟨_, rfl, .cons (intSlot_fits ..) <| .cons (flagSlot_fits ..) <| .cons (optSlot_fits _) .nil⟩
  | store r =>
    obtain ⟨_, name⟩ := Bool.and_eq_true_iff.mp fits
    exact ⟨_, rfl, .cons (intSlot_fits ..) <| .cons (optText_fits name) .nil⟩
  | writePreset r =>
    simp only [Request.fits, Bool.and_eq_true, List.all_eq_true] at fits
    obtain ⟨⟨⟨⟨⟨⟨_, name⟩, some_⟩, each⟩, _⟩, _⟩, _⟩ := fits
    exact ⟨_, rfl, .cons (intSlot_fits ..) <| .cons (textSlot_fits name _) <|
      .cons (entrySlot_fits (by simpa using some_) each) <|
      .cons (optSlot_fits _) <| .cons (optSlot_fits _) <| .cons (intSlot_fits ..) .nil⟩
  | latch r => exact ⟨_, rfl, .cons (wordSlot_fits _) <| .cons (wordSlot_fits _) <| .cons (wordSlot_fits _) .nil⟩
  | setSceneOptions r => exact ⟨_, rfl, .cons (optSlot_fits _) <| .cons (optSlot_fits _) .nil⟩
  | writeCurve r | writeImpulse r =>
    obtain ⟨_, points⟩ := Bool.and_eq_true_iff.mp fits
    exact ⟨_, rfl, .cons (intSlot_fits ..) <| .cons (numsSlot_fits points) .nil⟩
  | meters r => exact ⟨_, rfl, .cons (flagSlot_fits ..) .nil⟩
  | setTails r => exact ⟨_, rfl, .cons (optSlot_fits _) <| .cons (optSlot_fits _) <| .cons (optFlag_fits _) .nil⟩
  | tempoSource r =>
    exact ⟨_, rfl, .cons (intSlot_fits ..) <| .cons (optSlot_fits _) <| .cons (optSlot_fits _) .nil⟩
  | tempoSet r => exact ⟨_, rfl, .cons (intSlot_fits ..) <| .cons (flagSlot_fits ..) .nil⟩
  | tunerSet r | setProtection r =>
    exact ⟨_, rfl, .cons (optSlot_fits _) <| .cons (optSlot_fits _) <| .cons (optSlot_fits _) .nil⟩
  | tunerRead r => exact ⟨_, rfl, .cons (optSlot_fits _) .nil⟩
  | readPreset r | erasePreset r | tunerMode r | mute r | resume r => exact ⟨_, rfl, .cons (intSlot_fits ..) .nil⟩
  | convRead r => exact ⟨_, rfl, .cons (intSlot_fits ..) <| .cons (intSlot_fits ..) .nil⟩
  | convWrite r =>
    exact ⟨_, rfl, .cons (intSlot_fits ..) <| .cons (intSlot_fits ..) <| .cons (intSlot_fits ..) .nil⟩
  | subscribe r => exact ⟨_, rfl, .cons (wordSlot_fits _) .nil⟩
  | sceneRead | tap | tempoRead | faultRead | failoverRead | failoverClear | linkStart | linkRest
  | linkWake | auxRead | identify | restart => exact ⟨_, rfl, .nil⟩
  -- RECALL stands last: its constructor's name is a keyword of Mathlib's.
  | _ r =>
    exact ⟨_, rfl, .cons (intSlot_fits ..) <| .cons (optSlot_fits _) <| .cons (optSlot_fits _) <|
      .cons (optSlot_fits _) <| .cons (by simpa [Function.comp_def] using optFlag_fits (r.cond.map (·.toggle))) <|
      .cons (optSlot_fits _) .nil⟩

/-- A request writes the four parts of a RECALL's condition all, or none (check 7). -/
theorem slots_whole (q : Request) : groupsWhole q.code (slotItems 1 (slots q)) = true := by
  cases q
  next r => -- RECALL, whose constructor's name is a keyword of Mathlib's
    obtain ⟨_, cond, _⟩ := r
    cases cond <;> simp [groupsWhole, Request.code, fieldOf_slotItems, slots, optSlot]
  all_goals rfl

/-- The items of a request that a body can carry make that request. -/
theorem requestOf_slots {q : Request} (fits : q.fits = true) :
    requestOf q.code (slotItems 1 (slots q)) = some q := by
  cases q
  next r => -- RECALL, whose constructor's name is a keyword of Mathlib's
    obtain ⟨presetA, cond, fade⟩ := r
    simp only [Request.fits, Bool.and_eq_true] at fits
    obtain ⟨⟨fitsA, fitsCond⟩, fitsFade⟩ := fits
    cases cond with
    | none =>
      simp [requestOf, Request.code, fieldOf_slotItems, slots, intSlot, head_optSlot, leInt_intBytes fitsA,
        leInt_optional fitsFade]
    | some c =>
      simp only [Option.all_some, RecallCond.fits, Bool.and_eq_true] at fitsCond
      obtain ⟨⟨fitsBit, fitsPolarity⟩, fitsB⟩ := fitsCond
      simp [requestOf, Request.code, fieldOf_slotItems, slots, intSlot, head_optSlot, leInt_intBytes fitsA,
        leInt_optional fitsFade, leInt_intBytes fitsBit, leInt_intBytes fitsPolarity,
        leInt_intBytes fitsB, flagBytes_eq]
  case store r =>
    obtain ⟨slot, name⟩ := r
    obtain ⟨fitsSlot, _⟩ := Bool.and_eq_true_iff.mp fits
    simp [requestOf, Request.code, fieldOf_slotItems, slots, intSlot, leInt_intBytes fitsSlot,
      Option.head?_toList]
  case writePreset r =>
    simp only [Request.fits, Bool.and_eq_true, List.all_eq_true] at fits
    obtain ⟨⟨⟨⟨⟨⟨slot, _⟩, _⟩, each⟩, tempo⟩, fade⟩, level⟩ := fits
    have stored : ((slotItems 1 (slots (.writePreset r))).filter (·.id == 3)).map (readEntry ·.value) =
        r.entries := by
      have bytes := slotItems_values (slots (.writePreset r)) 1 2
      calc _ = (((slotItems 1 (slots (.writePreset r))).filter (·.id == 1 + 2)).map (·.value)).map readEntry :=
            (List.map_map ..).symm
        _ = (r.entries.map entryBytes).map readEntry := by rw [bytes]; rfl
        _ = r.entries := by
            rw [List.map_map]
            exact (List.map_congr_left fun e mem => readEntry_entryBytes (each e mem)).trans (List.map_id _)
    simp only [requestOf, Request.code, stored, fieldOf_slotItems]
    simp [slots, intSlot, head_optSlot, leInt_intBytes, leInt_optional, slot, tempo, fade, level]
  all_goals
    simp only [Request.fits, Bool.and_eq_true] at fits
    simp [requestOf, Request.code, fieldOf_slotItems, slots, intSlot, head_optSlot, wordSlot,
      leInt_intBytes, leInt_optional, word_leBytes, flagBytes_eq, flag_optional, readNums_points,
      Option.head?_toList, fits]

end Sys2Proof.Machine

namespace Sys2Proof

open Machine

/-- Settles O5: the items of the body are those of the request's slots. -/
theorem requestBodyRoundTrip : Obligations.RequestBodyRoundTrip := by
  intro tag q fits
  obtain ⟨fields, known, laid⟩ := slots_laid fits
  rw [writeRequest, items_eq_slots]
  exact readRequest_laid laid (by cases q <;> simp [Request.code]) (by cases q <;> simp [slots]) known
    (slots_whole q) (requestOf_slots fits)

end Sys2Proof

/-! PROOFS. The arithmetic of the stages and of a pass: glides, fade and cut gains, the COMP's gain, the
delay line (R17, R26, R31, R42, R60, R67, R102). -/

namespace Sys2Proof.Machine

/-! ### Glides (R26, R60) -/

/-- A glide over j of sixteen frames stays between its ends. -/
theorem glideAt_between (a b : Int) {j : Nat} (last : j ≤ 16) :
    min a b ≤ glideAt a b j ∧ glideAt a b j ≤ max a b := by
  have low : (0 : Int) ≤ j := by omega
  have high : (j : Int) ≤ 16 := by omega
  unfold glideAt
  rcases le_total a b with up | down
  · have : 0 ≤ (b - a) * j := mul_nonneg (by omega) low
    have : (b - a) * j ≤ (b - a) * 16 := mul_le_mul_of_nonneg_left high (by omega)
    omega
  · have : (b - a) * j ≤ 0 := mul_nonpos_of_nonpos_of_nonneg (by omega) low
    have : (b - a) * 16 ≤ (b - a) * j := mul_le_mul_of_nonpos_left high (by omega)
    omega

theorem glideAt_mono {a b : Int} {j k : Nat} (later : j ≤ k) (up : a ≤ b) :
    glideAt a b j ≤ glideAt a b k := by
  have : (b - a) * (j : Int) ≤ (b - a) * k := mul_le_mul_of_nonneg_left (by omega) (by omega)
  unfold glideAt
  omega

/-- A pass ends with every current value at its target. -/
theorem runStage_params (l : Lib) (o : Bool) (rs : List Int) (w : WetMode) (i : StageInst)
    (mem : List (Nat × Int)) (xs : List Int) :
    (runStage l o rs w i mem xs).inst.cur = i.tgt ∧ (runStage l o rs w i mem xs).inst.tgt = i.tgt := by
  unfold runStage
  dsimp only
  repeat' split
  all_goals exact ⟨rfl, rfl⟩

/-- One pass brings the effective time 32 frames nearer, or to the target. -/
theorem glideTime_spec (d c : Nat) : min d c ≤ glideTime d c ∧ glideTime d c ≤ max d c ∧
    ((glideTime d c : Int) - c).natAbs = ((d : Int) - c).natAbs - 32 := by
  unfold glideTime
  split
  · omega
  · split <;> omega

theorem glideTime_iterate {c : Nat} : ∀ {d n : Nat}, ((d : Int) - c).natAbs ≤ 32 * n →
    (fun x => glideTime x c)^[n] d = c
  | d, 0, near => by simp at near ⊢; omega
  | d, n + 1, near => by
    obtain ⟨_, _, nearer⟩ := glideTime_spec d c
    exact glideTime_iterate (d := glideTime d c) (by omega)

/-! ### Fade and cut gains (R17, R67, R102) -/

/-- The incoming gain rises with the frame. -/
theorem gIn_mono {fade k j k' j' : Nat} (some_ : 1 ≤ fade) (first : 1 ≤ k) (first' : 1 ≤ k')
    (later : 16 * (k - 1) + j ≤ 16 * (k' - 1) + j') : gIn fade k j ≤ gIn fade k' j' := by
  unfold gIn
  exact Int.ediv_le_ediv (by omega) (by omega)

theorem gIn_last {fade : Nat} (some_ : 1 ≤ fade) : gIn fade fade 16 = 4096 := by
  unfold gIn
  rw [show (4096 * (16 * ((fade : Int) - 1) + (16 : Nat)) + 8 * fade) = 8 * fade + 16 * fade * 4096 by
    push_cast; ring, Int.add_mul_ediv_left _ _ (by omega), Int.ediv_eq_zero_of_lt (by omega) (by omega)]
  rfl

theorem gIn_nonneg {fade k : Nat} (first : 1 ≤ k) (j : Nat) : 0 ≤ gIn fade k j :=
  Int.ediv_nonneg (by omega) (by omega)

/-! ### The COMP's gain (R31) -/

theorem ceilDiv_pos {x a : Nat} (some_ : 1 ≤ x) (whole : 1 ≤ a) : 1 ≤ ceilDiv x a :=
  (Nat.one_le_div_iff (by omega)).mpr (by omega)

theorem ceilDiv_le {x a : Nat} (some_ : 1 ≤ x) (whole : 1 ≤ a) : ceilDiv x a ≤ x := by
  refine Nat.div_le_of_le_mul ?_
  obtain ⟨a, rfl⟩ := Nat.exists_eq_add_of_le whole
  obtain ⟨x, rfl⟩ := Nat.exists_eq_add_of_le some_
  have : 0 ≤ a * x := Nat.zero_le _
  rw [show (1 + a) * (1 + x) = 1 + a + x + a * x by ring]
  omega

theorem ceilDiv_one (x : Nat) : ceilDiv x 1 = x := by simp [ceilDiv]

/-- A COMP's target gain is at most unity. -/
theorem compTarget_le {p t r : Nat} (ratio : 1 ≤ r) : compTarget p t r ≤ 4096 := by
  unfold compTarget
  split
  · exact Nat.le_refl _
  · next above =>
    obtain ⟨d, rfl⟩ := Nat.exists_eq_add_of_lt (Nat.lt_of_not_le above)
    obtain ⟨r, rfl⟩ := Nat.exists_eq_add_of_le ratio
    refine Nat.le_of_lt_succ (Nat.div_lt_of_lt_mul ?_)
    rw [show t * (1 + r) + (t + d + 1) - t = t * (1 + r) + d + 1 by omega]
    nlinarith [Nat.zero_le (r * d), Nat.zero_le (r * t)]

/-- At ratio 1 the target gain is unity. -/
theorem compTarget_one (p t : Nat) : compTarget p t 1 = 4096 := by
  unfold compTarget
  split
  · rfl
  · next above =>
    rw [show 8192 * (t * 1 + p - t) + 1 * p = p + 2 * 1 * p * 4096 by omega,
      Nat.add_mul_div_left _ _ (by omega), Nat.div_eq_of_lt (by omega)]

/-- The applied gain falls towards a lower target, without passing it. -/
theorem compNext_falls {g t a rl : Nat} (attack : 1 ≤ a) (above : t < g) :
    t ≤ compNext g t a rl ∧ compNext g t a rl < g := by
  have := ceilDiv_pos (x := g - t) (by omega) attack
  have := ceilDiv_le (x := g - t) (by omega) attack
  rw [compNext, if_pos above]
  omega

/-- The applied gain rises towards a higher target, without passing it. -/
theorem compNext_rises {g t a rl : Nat} (release : 1 ≤ rl) (below : g < t) :
    g < compNext g t a rl ∧ compNext g t a rl ≤ t := by
  have := ceilDiv_pos (x := t - g) (by omega) release
  have := ceilDiv_le (x := t - g) (by omega) release
  rw [compNext, if_neg (by omega), if_pos below]
  omega

/-! ### The delay line (R42) -/

/-- The write position after a frame, up to the reach of the line. -/
theorem advance_add_mod {reach wp : Nat} (inside : wp < reach) (c : Nat) :
    ((if wp + 1 < reach then wp + 1 else 0) + c) % reach = (wp + 1 + c) % reach := by
  split
  · rfl
  · rw [show wp + 1 + c = reach + (0 + c) by omega, Nat.add_mod_left]

theorem add_mod_ne_self {reach wp d : Nat} (inside : wp < reach) (some_ : 0 < d) (short : d < reach) :
    (wp + d) % reach ≠ wp := by
  by_cases fits : wp + d < reach
  · rw [Nat.mod_eq_of_lt fits]
    omega
  · rw [Nat.mod_eq_sub_mod (by omega), Nat.mod_eq_of_lt (by omega)]
    omega

section DelayLine

variable {segs : List Nat} {time : Nat}

/-- A sample of a delay line comes out in the frame that reads its position, where the frames before
it are fewer than the time: none of them writes there. -/
theorem delayWets_read (distinct : segs.Nodup) (fits : time < 8192 * segs.length) :
    ∀ {k : Nat} {r : DelayRun} {xs : List Int} {a : Nat} {v : Int}, Memory.wf r.mem = true →
      r.wp < 8192 * segs.length → a < 8192 * segs.length → memRead r.mem (lineAddr segs a) = v →
      (r.wp + k + (8192 * segs.length - time)) % (8192 * segs.length) = a → k < time → k < xs.length →
      (delayWets segs (8192 * segs.length) time 0 r xs)[k]? = some v
  | _, _, [], _, _, _, _, _, _, _, _, long => absurd long (by simp)
  | 0, r, x :: xs, a, v, _, _, _, stored, here, _, _ => by
    simp only [delayWets, delayCore, List.getElem?_cons_zero]
    rw [show r.wp + (8192 * segs.length - time) = r.wp + 0 + (8192 * segs.length - time) by omega, here,
      stored]
  | k + 1, r, x :: xs, a, v, wf, inside, insideA, stored, here, soon, long => by
    have elsewhere : a ≠ r.wp := by
      rw [← here, Nat.add_assoc]
      exact add_mod_ne_self inside (by omega) (by omega)
    rw [delayWets, List.getElem?_cons_succ]
    refine delayWets_read distinct fits (a := a) (delayCore_wf _ _ _ _ _ _ wf) ?_ insideA ?_ ?_ (by omega)
      (by simpa using long)
    · simp only [delayCore]
      split <;> omega
    · simp only [delayCore]
      rw [memRead_memWrite wf, if_neg fun same => elsewhere (lineAddr_inj distinct insideA inside same),
        stored]
    · simp only [delayCore]
      rw [Nat.add_assoc, advance_add_mod inside, ← here]
      congr 1
      omega

/-- A delay line without feedback gives each input back, saturated, `time` frames later. -/
theorem delayWets_delayed (distinct : segs.Nodup) (some_ : 1 ≤ time) (fits : time < 8192 * segs.length) :
    ∀ {n : Nat} {r : DelayRun} {xs : List Int} {x : Int}, Memory.wf r.mem = true →
      r.wp < 8192 * segs.length → xs[n]? = some x → n + time < xs.length →
      (delayWets segs (8192 * segs.length) time 0 r xs)[n + time]? = some (sat x)
  | _, _, [], _, _, _, _, long => absurd long (by simp)
  | 0, r, y :: ys, x, wf, inside, at_, long => by
    obtain rfl : y = x := by simpa using at_
    obtain ⟨k, rfl⟩ : ∃ k, time = k + 1 := ⟨time - 1, by omega⟩
    rw [delayWets, show 0 + (k + 1) = k + 1 by omega, List.getElem?_cons_succ]
    refine delayWets_read distinct fits (a := r.wp) (delayCore_wf _ _ _ _ _ _ wf) ?_ inside ?_ ?_ (by omega)
      (by simpa using long)
    · simp only [delayCore]
      split <;> omega
    · simp [delayCore, memRead_memWrite wf, q12]
    · simp only [delayCore]
      rw [Nat.add_assoc, advance_add_mod inside,
        show r.wp + 1 + (k + (8192 * segs.length - (k + 1))) = 8192 * segs.length + r.wp by omega,
        Nat.add_mod_left, Nat.mod_eq_of_lt inside]
  | n + 1, r, y :: ys, x, wf, inside, at_, long => by
    rw [delayWets, show n + 1 + time = n + time + 1 by omega, List.getElem?_cons_succ]
    refine delayWets_delayed distinct some_ fits (delayCore_wf _ _ _ _ _ _ wf) ?_ (by simpa using at_)
      (by simp at long; omega)
    simp only [delayCore]
    split <;> omega

end DelayLine

end Sys2Proof.Machine

namespace Sys2Proof

open Machine

/-- Settles O20. -/
theorem parametersGlideToTheirTargets : Obligations.ParametersGlideToTheirTargets := by
  refine ⟨fun a b => ⟨?_, fun j _ last => glideAt_between a b last, fun j k => glideAt_mono⟩,
    fun l lo ret w i mem xs => ?_, glideTime_spec, fun d c n => glideTime_iterate⟩
  · unfold glideAt
    omega
  · obtain ⟨cur, tgt⟩ := runStage_params l lo ret w i mem xs
    exact ⟨cur, tgt, runStage_segs l lo ret w i mem xs⟩

/-- Settles O21. -/
theorem fadeAndCutGains : Obligations.FadeAndCutGains := by
  refine ⟨fun fade k j some_ first inside _ last => ⟨gIn_nonneg first j, ?_, fun k' j' first' _ =>
    gIn_mono some_ first first'⟩, fun fade => gIn_last, fun f b => ?_, rfl, rfl, fun j => ?_⟩
  · exact (gIn_mono some_ first some_ (by omega)).trans_eq (gIn_last some_)
  · refine ⟨?_, ?_, ?_, rfl⟩ <;>
    · simp only [chainMix, q12]
      omega
  · unfold cutGain
    omega

/-- Settles O22. -/
theorem compGainFollowsItsTarget : Obligations.CompGainFollowsItsTarget := by
  refine ⟨fun p t r _ ratio => ⟨compTarget_le ratio, fun quiet => if_pos quiet, compTarget_one p t⟩,
    fun g t a rl attack release => ⟨compNext_falls attack, compNext_rises release, ?_, fun above => ?_⟩⟩
  · rintro rfl
    simp [compNext]
  · rw [compNext, if_pos above, ceilDiv_one]
    omega

/-- Settles O24: the frames between a write and the read that reaches it write elsewhere. -/
theorem delayLineDelaysByItsTime : Obligations.DelayLineDelaysByItsTime := by
  intro segs time wp mem xs n x distinct wf some_ fits inside at_ long
  exact delayWets_delayed distinct (by omega) (by omega) wf inside at_ long

end Sys2Proof

/-! PROOFS. The selection (R68), the ends of tails (R65, R66) and the automatic start (R5, R6). -/

namespace Sys2Proof.Machine

/-! ### The selection (R68) -/

/-- After the removal at most four candidates stand, within the budget; with fewer removed the number
or the budget is exceeded. -/
theorem removed_spec {nf : Nat} (front : nf ≤ 1600) (cs : List Nat) :
    (cs.drop (removed nf cs)).length ≤ 4 ∧ nf + (cs.drop (removed nf cs)).sum ≤ 1600 ∧
      ∀ m, m < removed nf cs → 4 < (cs.drop m).length ∨ 1600 < nf + (cs.drop m).sum := by
  induction cs with
  | nil => simpa [removed] using front
  | cons c cs ih =>
    obtain ⟨few, fits, least⟩ := ih
    by_cases exceeds : 4 < (c :: cs).length ∨ budget < nf + (c :: cs).sum
    · rw [removed, if_pos exceeds]
      refine ⟨few, fits, fun m less => ?_⟩
      cases m with
      | zero => exact exceeds
      | succ m => exact least m (by omega)
    · rw [removed, if_neg exceeds]
      unfold budget at exceeds
      exact ⟨by simpa using Nat.le_of_not_lt (fun h => exceeds (.inl h)),
        Nat.le_of_not_lt (fun h => exceeds (.inr h)), by simp⟩

/-- Cutting the oldest tails leaves the RUNNING ones after them. -/
theorem runningCosts_cutOldest : ∀ (n : Nat) (ts : List Tail),
    runningCosts (cutOldest n ts) = (runningCosts ts).drop n
  | 0, ts => by simp [cutOldest]
  | n + 1, [] => by simp [cutOldest, runningCosts]
  | n + 1, t :: ts => by
    by_cases running : t.state = .running
    · simpa [cutOldest, running, runningCosts, Tail.cutNow] using runningCosts_cutOldest n ts
    · simpa [cutOldest, running, runningCosts] using runningCosts_cutOldest (n + 1) ts

/-- The HOLD stages of a chain that are not cut. -/
def keptHolds (is : List StageInst) : List StageInst := is.filter fun i => i.holds && !i.cut

/-- Cutting the first HOLD stages of a chain in which none is cut leaves those after them. -/
theorem keptHolds_cutHolds : ∀ (n : Nat) {is : List StageInst}, (∀ i ∈ is, i.cut = false) →
    keptHolds (cutHolds n is) = (is.filter (·.holds)).drop n
  | 0, is, whole => by
    simp only [cutHolds, keptHolds, List.drop_zero]
    exact List.filter_congr fun i mem => by simp [whole i mem]
  | n + 1, [], _ => by simp [cutHolds, keptHolds]
  | n + 1, i :: is, whole => by
    have rest : ∀ i ∈ is, i.cut = false := fun i mem => whole i (by simp [mem])
    by_cases holds : i.holds
    · have cut : ({ i with cut := true } : StageInst).holds = true := holds
      simpa [cutHolds, keptHolds, holds, cut] using keptHolds_cutHolds n rest
    · simpa [cutHolds, keptHolds, holds] using keptHolds_cutHolds (n + 1) rest

/-! ### The ends of tails (R65, R66) -/

/-- What a release leaves of the tails and the free list (R57). -/
theorem releaseTails_free (p : Spl) (gone : Tail → Bool) :
    (p.releaseTails gone).free.Perm (p.free ++ tailSegs (p.tails.filter gone)) :=
  (putSegments_perm _ _).trans List.perm_append_comm

theorem expireLife_running {x : Tail} (running : x.state = .running) (sounds : x.drain ≠ 0)
    (ended : x.life = 0) : expireLife x = { x with state := .cutting, cutRan := false } :=
  if_pos ⟨running, sounds, ended⟩

theorem expireLife_same {x : Tail} (other : ¬(x.state = .running ∧ x.drain ≠ 0 ∧ x.life = 0)) :
    expireLife x = x := if_neg other

end Sys2Proof.Machine

namespace Sys2Proof

open Machine

/-- Settles O25. -/
theorem selectionKeepsFourWithinBudget : Obligations.SelectionKeepsFourWithinBudget := by
  refine ⟨fun nf cs front => removed_spec front cs, fun s nf front whole => ?_⟩
  intro t kept
  have stand : kept = (runningCosts s.spl.tails ++
      (s.sen.front.stages.filter (·.holds)).map (·.kind.cost)).drop
        (removed nf (runningCosts s.spl.tails ++
          (s.sen.front.stages.filter (·.holds)).map (·.kind.cost))) := by
    rw [List.drop_append, ← List.map_drop, ← keptHolds_cutHolds _ whole, ← runningCosts_cutOldest]
    rfl
  rw [stand]
  obtain ⟨few, fits, _⟩ := removed_spec front (runningCosts s.spl.tails ++
    (s.sen.front.stages.filter (·.holds)).map (·.kind.cost))
  exact ⟨few, fits, rfl⟩

/-- Settles O18. -/
theorem tailsDrainAndLiveOut : Obligations.TailsDrainAndLiveOut := by
  refine ⟨fun s free => ⟨s.tailDrainExpiry, next_unlessReset free _, ?_, ?_, rfl⟩,
    fun s free => ⟨s.tailLifeExpiry, next_unlessReset free _, rfl, List.length_map _, fun n x at_ => ?_⟩⟩
  · refine List.filter_congr fun x _ => ?_
    simp [not_and]
  · refine (releaseTails_free _ _).trans (.of_eq ?_)
    simp [tailSegs]
  · have moved : s.tailLifeExpiry.spl.tails[n]? = some (expireLife x) := by
      simp [State.tailLifeExpiry, at_]
    exact ⟨fun running sounds ended => moved.trans (congrArg some (expireLife_running running sounds ended)),
      fun other => moved.trans (congrArg some (expireLife_same other))⟩

end Sys2Proof

/-! PROOFS. The reply a ticket stands for, the reason set where it is never empty, and the pass of a
boundary that nothing precedes: the rules that the starts and stops of the engine use. -/

namespace Sys2Proof.Machine

/-! ### The entry of a ticket (R193) -/

/-- The reply entry that a ticket stands for. -/
def Pif.entry (f : Pif) (t : Ticket) : Option ReplyEntry := (f.port t.port).replies[t.entry]?

@[simp] theorem Pif.raise_entry (f : Pif) (n : Notice) (t : Ticket) : (f.raise n).entry t = f.entry t := by
  simp [Pif.entry]

@[simp] theorem State.raise_entry (s : State) (n : Notice) (t : Ticket) :
    (s.raise n).pif.entry t = s.pif.entry t := Pif.raise_entry s.pif n t

/-- A reserved entry is filled with the answer. -/
theorem State.answer_entry {s : State} {t : Ticket} {tag : Byte} {kind : Nat} (st : Status) (f : Fields)
    (reserved : s.pif.entry t = some (.reserved tag kind)) :
    (s.answer t st f).pif.entry t =
      some (.filled { tag := tag, kind := kind, status := st, fields := f }) := by
  have at_ : (s.pif.port t.port).replies[t.entry]? = some (.reserved tag kind) := reserved
  obtain ⟨inside, _⟩ := List.getElem?_eq_some_iff.mp at_
  simp [State.answer, Pif.entry, PortState.fill_reserved st f at_, inside]

/-- The answer to another ticket leaves an entry as it is. -/
theorem State.answer_entry_ne {s : State} {t t' : Ticket} (st : Status) (f : Fields) (other : t' ≠ t) :
    (s.answer t st f).pif.entry t' = s.pif.entry t' := by
  obtain ⟨p, e⟩ := t
  obtain ⟨p', e'⟩ := t'
  by_cases same : p' = p
  · subst same
    have apart : e ≠ e' := fun h => other (by rw [h])
    simp only [State.answer, Pif.entry, Pif.port_setPort, PortState.fill]
    split
    · simp [List.getElem?_set_ne apart]
    · rfl
  · simp only [State.answer, Pif.entry, Pif.port_setPort_ne _ _ same]

/-- A filled entry stays as it is. -/
theorem State.answer_entry_filled {s : State} {t t' : Ticket} {r : Reply} (st : Status) (f : Fields)
    (filled : s.pif.entry t' = some (.filled r)) :
    (s.answer t st f).pif.entry t' = some (.filled r) := by
  by_cases same : t' = t
  · subst same
    have at_ : (s.pif.port t'.port).replies[t'.entry]? = some (.filled r) := filled
    simp [State.answer, Pif.entry, PortState.fill, at_]
  · rw [State.answer_entry_ne st f same, filled]

/-! ### A reason set that is never empty (R153) -/

/-- A reason in the set: it is not empty. -/
theorem MuteSet.isEmpty_of_has {m : MuteSet} {r : Reason} (has : m.has r = true) : m.isEmpty = false := by
  by_contra empty
  have none := (MuteSet.isEmpty_iff m).mp (by simpa using empty) r
  simp [has] at none

/-- A change that leaves reasons before and after leaves the gain state. -/
theorem Opu.setReasons_filled {o : Opu} {m : MuteSet} (before : o.reasons.isEmpty = false)
    (after : m.isEmpty = false) : o.setReasons m = { o with reasons := m } := by
  simp [Opu.setReasons, before, after, gainStateAfter_same]

/-- One reason for another. -/
theorem Opu.swapReason_eq {o : Opu} {into out : Reason} (stood : o.reasons.has out = true)
    (other : into ≠ out) :
    o.swapReason into out = { o with reasons := (o.reasons.put into true).put out false } :=
  Opu.setReasons_filled (MuteSet.isEmpty_of_has stood)
    (MuteSet.isEmpty_of_has (r := into) (by simp [other]))

/-! ### The relay (R168) -/

theorem State.relayTakesTarget_due {s : State} {m : RelayMove} (moving : s.opu.move = some m)
    (due : s.relayDue m = true) :
    s.relayTakesTarget =
      { s with opu := { s.opu with relay := m.target, move := some { m with hold := some 4 } } } := by
  simp [State.relayTakesTarget, moving, due]

theorem State.relayTakesTarget_waits {s : State} {m : RelayMove} (moving : s.opu.move = some m)
    (waits : s.relayDue m = false) : s.relayTakesTarget = s := by
  simp [State.relayTakesTarget, moving, waits]

theorem State.relayTakesTarget_still {s : State} (still : s.opu.move = none) : s.relayTakesTarget = s := by
  simp [State.relayTakesTarget, still]

/-- A move that waits for nothing but the gain, towards ENGAGED. -/
theorem State.relayDue_engaged {s : State} {next : Option Relay} :
    s.relayDue { target := .engaged, hold := none, next := next } =
      decide (s.opu.gainState = .muted ∧ s.lnk.state = .running) := by
  simp [State.relayDue]

/-! ### The pass of a boundary (R2) -/

/-- The pass begins when nothing that precedes it is due. -/
theorem State.beginDuePass_run {s : State} {block : List (Int × Int)} (ended : s.sen.awaiting = some block)
    (ready : s.boundaryBusy = false) (run : s.sen.engine = .run) : s.beginDuePass = s.beginPass block := by
  simp [State.beginDuePass, ended, ready, run]

theorem State.beginDuePass_busy {s : State} (busy : s.boundaryBusy = true) : s.beginDuePass = s := by
  unfold State.beginDuePass
  split
  · rfl
  · rw [if_pos busy]

theorem State.beginDuePass_none {s : State} (empty : s.sen.awaiting = none) : s.beginDuePass = s := by
  simp [State.beginDuePass, empty]

/-- In an engine state without passes the input block is discarded. -/
theorem State.beginDuePass_idle {s : State} {block : List (Int × Int)}
    (ended : s.sen.awaiting = some block) (ready : s.boundaryBusy = false) (idle : s.sen.engine ≠ .run) :
    s.beginDuePass = { s with sen := { s.sen with awaiting := none } } := by
  simp [State.beginDuePass, ended, ready, idle]

/-- Without a switch, a grant that is due and a start that has ended, nothing precedes the pass. -/
theorem State.boundaryBusy_steady {s : State} (engine : s.sen.engine ≠ .starting)
    (steady : s.scn.phase = .steady) (noSwitch : s.scn.switch = none) (granted : s.spl.grant = none) :
    s.boundaryBusy = false := by
  simp [State.boundaryBusy, State.startingDue, State.grantDue, State.prepareDue, State.commitDue,
    State.gapInDue, engine, steady, noSwitch, granted]

end Sys2Proof.Machine

/-! PROOFS. The starts of the engine (R5 to R7) and the entry into FAULT (R22, R157). -/

namespace Sys2Proof.Machine

/-! ### Starts (R5 to R7) -/

/-- STARTING entered from STOPPED, or from FAULT: one reason for another, the gain state standing. -/
theorem State.startEngine_eq {s : State} {leaving : Reason} (stood : s.opu.reasons.has leaving = true)
    (other : Reason.starting ≠ leaving) :
    s.startEngine leaving =
      (let chain := s.scn.live.chain
       let m := chainDemand chain
       { s with
         sen := { s.sen with
           engine := .starting
           front := {
             state := .building, generation := s.scn.generation, stages := []
             granted := s.spl.free.take m, toClear := s.spl.free.take m
             cost := chainCost chain, buildCount := chain.length + (m + 3) / 4 } }
         spl := { s.spl with free := s.spl.free.drop m }
         opu := { s.opu with reasons := (s.opu.reasons.put .starting true).put leaving false } }) := by
  rw [State.startEngine, Opu.swapReason_eq stood other]
  rfl

theorem State.engineAutoStart_of_not {s : State}
    (not : ¬(s.lnk.state = .running ∧ s.sen.engine = .stopped ∧ s.sen.bypassHold = false)) :
    s.engineAutoStart = s := if_neg not

/-- The end of STARTING, with no move under way, of a relay in BYPASS: it begins to move. -/
theorem Opu.engage_bypass {o : Opu} (still : o.move = none) (bypass : o.relay = .bypass)
    (starting : o.reasons.starting = true) :
    o.engage = { o with
      reasons := { o.reasons with starting := false, relayMove := true }
      move := some { target := .engaged, hold := none, next := none } } := by
  have filled : o.reasons.isEmpty = false := MuteSet.isEmpty_of_has (r := .starting) starting
  have added : (o.reasons.put .relayMove true).isEmpty = false :=
    MuteSet.isEmpty_of_has (r := .relayMove) (by simp)
  have left : ((o.reasons.put .relayMove true).put .starting false).isEmpty = false :=
    MuteSet.isEmpty_of_has (r := .relayMove) (by simp)
  have moves : o.ordinaryMove .engaged = { o with
      reasons := o.reasons.put .relayMove true
      move := some { target := .engaged, hold := none, next := none } } := by
    rw [o.ordinaryMove_spec .engaged |>.2.1 still (by simp [bypass]), Opu.addReason,
      Opu.setReasons_filled filled added]
  rw [Opu.engage, moves, Opu.removeReason]
  exact Opu.setReasons_filled added left

/-- The end of STARTING, of a relay in ENGAGED: no move. -/
theorem Opu.engage_engaged {o : Opu} (still : o.move = none) (engaged : o.relay = .engaged)
    (starting : o.reasons.starting = true) (low : o.gainState = .muted ∨ o.gainState = .rampDown) :
    o.engage = { o with
      reasons := { o.reasons with starting := false }
      gainState :=
        if ({ o.reasons with starting := false } : MuteSet).isEmpty then .rampUp else o.gainState } := by
  have filled : o.reasons.isEmpty = false := MuteSet.isEmpty_of_has (r := .starting) starting
  rw [Opu.engage, o.ordinaryMove_spec .engaged |>.1 still engaged.symm, Opu.removeReason, Opu.setReasons,
    filled]
  have gain : gainStateAfter false ({ o.reasons with starting := false } : MuteSet).isEmpty o.gainState =
      if ({ o.reasons with starting := false } : MuteSet).isEmpty then .rampUp else o.gainState := by
    cases ({ o.reasons with starting := false } : MuteSet).isEmpty
    · exact gainStateAfter_same _ _
    · rw [gainStateAfter_emptied, if_pos low]
      rfl
  exact congrArg (fun g => { o with reasons := { o.reasons with starting := false }, gainState := g }) gain

/-- The part as it enters RUN, before the relay can take its target. -/
def State.entersRun (s : State) : State :=
  { s with
    sen := { s.sen with engine := .run, front := { s.sen.front with state := .live } }
    opu := s.opu.engage }

/-- The part at the end of STARTING, before the level is handed over. -/
def State.started (s : State) : State := s.entersRun.relayTakesTarget

theorem State.startingComplete_of_due {s : State} (due : s.startingDue = true) :
    s.startingComplete = s.started.handLevel.answerResume.beginDuePass := if_pos due

/-- The relay's part of the end of STARTING leaves everything but the protection unit. -/
theorem State.started_eq (s : State) : s.started = { s.entersRun with opu := s.started.opu } := by
  obtain same | ⟨m, _, _, moved⟩ := s.entersRun.relayTakesTarget_cases
  · rw [State.started, same]
  · rw [State.started, moved]

/-- The protection unit at the end of STARTING, of a relay in BYPASS with no move under way. -/
theorem State.started_opu_bypass {s : State} (still : s.opu.move = none) (bypass : s.opu.relay = .bypass)
    (starting : s.opu.reasons.starting = true) :
    let taken := s.opu.gainState = .muted ∧ s.lnk.state = .running
    s.started.opu = { s.opu with
      reasons := { s.opu.reasons with starting := false, relayMove := true }
      relay := if taken then .engaged else .bypass
      move := some { target := .engaged, hold := if taken then some 4 else none, next := none } } := by
  have moves := (show s.entersRun.opu = s.opu.engage from rfl).trans
    (Opu.engage_bypass still bypass starting)
  have moving := congrArg Opu.move moves
  have gain : s.entersRun.opu.gainState = s.opu.gainState := by rw [moves]
  have due := State.relayDue_engaged (s := s.entersRun) (next := none)
  rw [gain, show s.entersRun.lnk = s.lnk from rfl] at due
  by_cases taken : s.opu.gainState = .muted ∧ s.lnk.state = .running
  · rw [State.started, State.relayTakesTarget_due moving (due.trans (decide_eq_true taken)), moves]
    simp [taken]
  · rw [State.started, State.relayTakesTarget_waits moving (due.trans (decide_eq_false taken)), moves]
    simp [taken, bypass]

/-- The protection unit at the end of STARTING, of a relay in ENGAGED with no move under way. -/
theorem State.started_opu_engaged {s : State} (still : s.opu.move = none)
    (engaged : s.opu.relay = .engaged) (starting : s.opu.reasons.starting = true)
    (low : s.opu.gainState = .muted ∨ s.opu.gainState = .rampDown) :
    s.started.opu = { s.opu with
      reasons := { s.opu.reasons with starting := false }
      gainState :=
        if ({ s.opu.reasons with starting := false } : MuteSet).isEmpty then .rampUp
        else s.opu.gainState } := by
  have stays := (show s.entersRun.opu = s.opu.engage from rfl).trans
    (Opu.engage_engaged still engaged starting low)
  rw [State.started, State.relayTakesTarget_still ((congrArg Opu.move stays).trans still), stays]

theorem State.answerResume_of_none {s : State} (none : s.opu.resume = .none) : s.answerResume = s := by
  simp [State.answerResume, none]

/-! ### Entering FAULT (R157) -/

/-- The protection unit after an ABORTED RESUME. -/
theorem State.abortResume_opu (s : State) (c : AbortCause) :
    (s.abortResume c).opu = { s.opu with resume := none } := by
  unfold State.abortResume
  split
  · rfl
  · next none => rw [← none]

theorem State.abortResume_of_none {s : State} {c : AbortCause} (none : s.opu.resume = .none) :
    s.abortResume c = s := by simp [State.abortResume, none]

/-- An ABORTED RESUME concerns the protection unit and the ports alone. -/
theorem State.abortResume_eq (s : State) (c : AbortCause) :
    s.abortResume c =
      { s with opu := { s.opu with resume := none }, pif := (s.abortResume c).pif } := by
  unfold State.abortResume
  split
  · rfl
  · next none => simp [← none]

/-- The scene after a switch is abandoned: STEADY, with no recall under way and none pending. -/
def Scn.abandoned (c : Scn) : Scn := { c with phase := .steady, switch := none, pendingRecall := none }

theorem State.abortPending_eq (s : State) (c : AbortCause) :
    s.abortPending c =
      { s with scn := { s.scn with pendingRecall := none }, pif := (s.abortPending c).pif } := by
  unfold State.abortPending
  split
  · rfl
  · next none => simp [← none]

theorem State.abortTaken_eq (s : State) (c : AbortCause) :
    s.abortTaken c = { s with pif := (s.abortTaken c).pif } := by
  unfold State.abortTaken
  split
  · split <;> rfl
  · rfl

theorem State.abortTaken_of_switch {s : State} {w : SwitchRec} {c : AbortCause}
    (taken : s.scn.switch = some w) (due : s.scn.phase ≠ .gapIn) :
    s.abortTaken c = s.answer w.ticket .aborted (.recallAborted (some s.scn.generation) c) := by
  simp [State.abortTaken, taken, due]

/-- In STEADY there is no switch. -/
theorem Scn.switch_of_steady {c : Scn} (ok : c.switchOk = true) (steady : c.phase = .steady) :
    c.switch = none := by
  cases at_ : c.switch with
  | none => rfl
  | some r => simp [Scn.switchOk, at_, steady] at ok

/-- Without a switch the phase is STEADY. -/
theorem Scn.phase_of_switch {c : Scn} (ok : c.switchOk = true) {r : SwitchRec} (at_ : c.switch = some r) :
    c.phase ≠ .steady := fun steady => by simp [Scn.switch_of_steady ok steady] at at_

/-- The protection unit after a switch is abandoned (R108, R114). -/
def Opu.abandoned (o : Opu) (phase : SwitchPhase) : Opu :=
  if phase = .steady then o else o.removeReason .switchGap

/-- An abandoned switch: the scene in STEADY, SWITCH_GAP out of the reasons, and what the ports show. -/
theorem State.abandonSwitch_eq {s : State} (ok : s.scn.switchOk = true) (c : AbortCause)
    (p : Option Port) :
    s.abandonSwitch c p =
      { s with
        scn := s.scn.abandoned
        opu := s.opu.abandoned s.scn.phase
        pif := (s.abandonSwitch c p).pif } := by
  unfold State.abandonSwitch Opu.abandoned
  split
  · next steady =>
    rw [State.abortPending_eq]
    simp [Scn.abandoned, Scn.switch_of_steady ok steady, ← steady]
  · rw [State.abortPending_eq, State.abortTaken_eq]
    rfl

/-- The entry of the taken recall when a switch is abandoned before its commit (R114). -/
theorem State.abandonSwitch_taken {s : State} {w : SwitchRec} {tag : Byte} {kind : Nat} {c : AbortCause}
    {p : Option Port} (moving : s.scn.phase ≠ .steady) (taken : s.scn.switch = some w)
    (due : s.scn.phase ≠ .gapIn) (reserved : s.pif.entry w.ticket = some (.reserved tag kind)) :
    (s.abandonSwitch c p).pif.entry w.ticket = some (.filled {
      tag := tag, kind := kind, status := .aborted
      fields := .recallAborted (some s.scn.generation) c }) := by
  have answered : ((s.removeReason .switchGap).abortTaken c).pif.entry w.ticket = some (.filled {
      tag := tag, kind := kind, status := .aborted
      fields := .recallAborted (some s.scn.generation) c }) := by
    rw [State.abortTaken_of_switch (s := s.removeReason .switchGap) taken due]
    exact State.answer_entry _ _ reserved
  simp only [State.abandonSwitch, if_neg moving, State.raise_entry,
    State.abortPending]
  split
  · exact State.answer_entry_filled _ _ answered
  · exact answered

/-- The entry of a pending recall when a switch is abandoned (R114). -/
theorem State.abandonSwitch_pending {s : State} {q : PendingRecall} {tag : Byte} {kind : Nat}
    {c : AbortCause} {p : Option Port} (pending : s.scn.pendingRecall = some q)
    (other : ∀ w, s.scn.switch = some w → w.ticket ≠ q.ticket)
    (reserved : s.pif.entry q.ticket = some (.reserved tag kind)) :
    (s.abandonSwitch c p).pif.entry q.ticket = some (.filled {
      tag := tag, kind := kind, status := .aborted, fields := .recallAborted none c }) := by
  have answered : ∀ u : State, u.scn.pendingRecall = some q →
      u.pif.entry q.ticket = some (.reserved tag kind) →
      (u.abortPending c).pif.entry q.ticket = some (.filled {
        tag := tag, kind := kind, status := .aborted, fields := .recallAborted none c }) := by
    intro u held reserved
    rw [State.abortPending, held]
    exact State.answer_entry _ _ reserved
  unfold State.abandonSwitch
  split
  · exact answered s pending reserved
  · rw [State.raise_entry]
    refine answered _ (by rw [State.abortTaken_eq]; exact pending) ?_
    unfold State.abortTaken
    split
    · next w taken =>
      split
      · exact reserved
      · rw [State.answer_entry_ne _ _ (other w taken).symm]
        exact reserved
    · exact reserved

/-- With nothing to abandon the ports stand. -/
theorem State.abandonSwitch_none {s : State} {c : AbortCause} {p : Option Port}
    (steady : s.scn.phase = .steady) (none : s.scn.pendingRecall = .none) : s.abandonSwitch c p = s := by
  simp [State.abandonSwitch, State.abortPending, steady, none]

/-- The protection unit and the link at the entry into FAULT. -/
def State.mutedBy (s : State) (c : Cause) : State :=
  { s with opu := s.opu.enterFault (s.faultRecord c), lnk := s.lnk.holdRest s.opu.gain }

/-- The part at the entry into FAULT, before its switch is abandoned. -/
def State.faulted (s : State) (c : Cause) : State :=
  ((s.mutedBy c).abortResume (.fault c)).stopEngine .fault

/-- The protection unit in FAULT. -/
def Opu.inFault (o : Opu) (rec_ : FaultRecord) : Opu := { o.enterFault rec_ with resume := none }

theorem State.faulted_opu (s : State) (c : Cause) :
    (s.faulted c).opu = s.opu.inFault (s.faultRecord c) := by
  rw [State.faulted, State.stopEngine_opu, State.abortResume_opu]
  rfl

theorem State.faulted_scn (s : State) (c : Cause) : (s.faulted c).scn = s.scn := by
  rw [State.faulted, State.stopEngine_scn, State.abortResume_eq]
  rfl

/-- The ports at the entry into FAULT with no RESUME to answer. -/
theorem State.faulted_pif {s : State} {c : Cause} (none : s.opu.resume = .none) :
    (s.faulted c).pif = s.pif := by
  rw [State.faulted, State.stopEngine_pif, State.abortResume_of_none (s := s.mutedBy c) none]
  rfl

/-- In FAULT, SWITCH_GAP's leaving changes neither gain nor gain state. -/
theorem Opu.inFault_abandoned (o : Opu) (rec_ : FaultRecord) (phase : SwitchPhase) :
    (o.inFault rec_).abandoned phase = { o.inFault rec_ with
      reasons := { o.reasons.faulted with
        switchGap := if phase = .steady then o.reasons.switchGap else false } } := by
  unfold Opu.abandoned
  split
  · rfl
  · rw [Opu.removeReason, Opu.setReasons_filled]
    · rfl
    · exact MuteSet.isEmpty_of_has (r := .fault) rfl
    · exact MuteSet.isEmpty_of_has (r := .fault) rfl

theorem State.faulted_eq (s : State) (c : Cause) :
    s.faulted c = { s.stopEngine .fault with
      opu := s.opu.inFault (s.faultRecord c)
      lnk := s.lnk.holdRest s.opu.gain
      pif := (s.faulted c).pif } := by
  rw [State.faulted, State.abortResume_eq]
  rfl

theorem State.enterFault_pif (s : State) (c : Cause) :
    ∃ n, s.enterFault c = ((s.faulted c).abandonSwitch (.fault c) none).raise n := ⟨_, rfl⟩

/-- The part in FAULT. -/
theorem State.enterFault_eq {s : State} (ok : s.scn.switchOk = true) (c : Cause) :
    s.enterFault c = { s.stopEngine .fault with
      scn := s.scn.abandoned
      opu := { s.opu.inFault (s.faultRecord c) with
        reasons := { s.opu.reasons.faulted with
          switchGap := if s.scn.phase = .steady then s.opu.reasons.switchGap else false } }
      lnk := s.lnk.holdRest s.opu.gain
      pif := (s.enterFault c).pif } := by
  have scn := s.faulted_scn c
  have kept := State.abandonSwitch_eq (s := s.faulted c) (by rw [scn]; exact ok) (.fault c) none
  rw [scn, s.faulted_opu, Opu.inFault_abandoned, s.faulted_eq] at kept
  obtain ⟨n, entered⟩ := s.enterFault_pif c
  rw [entered, s.faulted_eq, kept]
  rfl

/-- With no RESUME and no recall to answer, FAULT is entered with notices alone. -/
theorem State.enterFault_quiet {s : State} (c : Cause) (noResume : s.opu.resume = none)
    (steady : s.scn.phase = .steady) (noPending : s.scn.pendingRecall = none) :
    (s.enterFault c).pif.quiet = s.pif.quiet := by
  obtain ⟨n, entered⟩ := s.enterFault_pif c
  have scn := s.faulted_scn c
  rw [entered, State.abandonSwitch_none (by rw [scn]; exact steady) (by rw [scn]; exact noPending),
    ← s.faulted_pif (c := c) noResume]
  exact Pif.raise_quiet _ _

/-- The taken recall at the entry into FAULT (R114). -/
theorem State.enterFault_taken {s : State} {w : SwitchRec} {tag : Byte} {kind : Nat} (c : Cause)
    (ok : s.scn.switchOk = true) (noResume : s.opu.resume = none) (taken : s.scn.switch = some w)
    (due : s.scn.phase ≠ .gapIn) (reserved : s.pif.entry w.ticket = some (.reserved tag kind)) :
    (s.enterFault c).pif.entry w.ticket = some (.filled {
      tag := tag, kind := kind, status := .aborted
      fields := .recallAborted (some s.scn.generation) (.fault c) }) := by
  obtain ⟨n, entered⟩ := s.enterFault_pif c
  rw [entered, State.raise_entry]
  have scn := s.faulted_scn c
  rw [← scn] at ok taken due ⊢
  exact State.abandonSwitch_taken (Scn.phase_of_switch ok taken) taken due (by
    rw [s.faulted_pif noResume]
    exact reserved)

/-- A pending recall at the entry into FAULT (R114). -/
theorem State.enterFault_pending {s : State} {q : PendingRecall} {tag : Byte} {kind : Nat} (c : Cause)
    (noResume : s.opu.resume = none) (pending : s.scn.pendingRecall = some q)
    (other : ∀ w, s.scn.switch = some w → w.ticket ≠ q.ticket)
    (reserved : s.pif.entry q.ticket = some (.reserved tag kind)) :
    (s.enterFault c).pif.entry q.ticket = some (.filled {
      tag := tag, kind := kind, status := .aborted, fields := .recallAborted none (.fault c) }) := by
  obtain ⟨n, entered⟩ := s.enterFault_pif c
  rw [entered, State.raise_entry]
  have scn := s.faulted_scn c
  rw [← scn] at pending other
  exact State.abandonSwitch_pending pending other (by rw [s.faulted_pif noResume]; exact reserved)

theorem CauseSet.add_of_has {k : CauseSet} {c : Cause} (has : k.has c = true) : k.add c = k := by
  obtain ⟨_, _, _, _⟩ := k
  cases c <;> simp_all [CauseSet.has, CauseSet.add]

/-- A cause added in FAULT: the record has it, and the ports show at most a notice (R158). -/
theorem State.addCause_eq {s : State} {rec_ : FaultRecord} {c : Cause} (held : s.opu.fault = some rec_) :
    s.addCause rec_ c = { s with
      opu := { s.opu with fault := some { rec_ with causes := rec_.causes.add c } }
      pif := (s.addCause rec_ c).pif } := by
  unfold State.addCause
  split
  · next has =>
    rw [CauseSet.add_of_has has, ← held]
  · rfl

theorem State.addCause_quiet (s : State) (rec_ : FaultRecord) (c : Cause) :
    (s.addCause rec_ c).pif.quiet = s.pif.quiet := by
  unfold State.addCause
  split
  · rfl
  · exact Pif.raise_quiet _ _

theorem State.addCause_of_has {s : State} {rec_ : FaultRecord} {c : Cause}
    (has : rec_.causes.has c = true) : s.addCause rec_ c = s := if_pos has

/-- The part with its runaway count cleared (R22). -/
def State.uncounted (s : State) : State := { s with sen := { s.sen with runaway := 0 } }

theorem State.runaway_of_many {s : State} (many : 2048 ≤ s.sen.runaway) :
    s.runaway = s.uncounted.handCause .runaway := if_pos many

theorem State.handCause_clear {s : State} {c : Cause} (clear : s.opu.fault = none) :
    s.handCause c = s.enterFault c := by simp [State.handCause, clear]

theorem State.handCause_held {s : State} {c : Cause} {rec_ : FaultRecord}
    (held : s.opu.fault = some rec_) : s.handCause c = s.addCause rec_ c := by
  simp [State.handCause, held]

end Sys2Proof.Machine

namespace Sys2Proof

open Machine

/-- Settles O14. -/
theorem engineStartsByItself : Obligations.EngineStartsByItself := by
  refine ⟨fun s free running stopped noHold reason => ?_, fun s other => ?_⟩
  · refine (next_unlessReset free State.engineAutoStart).trans ?_
    rw [State.engineAutoStart, if_pos ⟨running, stopped, noHold⟩,
      State.startEngine_eq (leaving := .stopped) reason (by decide)]
    rfl
  · refine next_unlessReset_same (State.engineAutoStart_of_not ?_)
    rintro ⟨running, stopped, noHold⟩
    rcases other with differs | differs | holds
    · exact differs running
    · exact differs stopped
    · simp [noHold] at holds

/-- Settles O15: `State.started` written out, and the pass that nothing precedes. -/
theorem startingCompletes : Obligations.StartingCompletes := by
  intro s block free starting building built ended steady noSwitch granted noResume still reason low
  have due : s.startingDue = true := by simp [State.startingDue, starting, building, built]
  have kept := s.started_eq
  have noResume' : s.started.opu.resume = none := by
    cases relay : s.opu.relay with
    | bypass => rw [s.started_opu_bypass still relay reason]; exact noResume
    | engaged => rw [s.started_opu_engaged still relay reason low]; exact noResume
  have ran : s.startingComplete = s.started.handLevel.beginPass block := by
    rw [State.startingComplete_of_due due, State.answerResume_of_none (s := s.started.handLevel) noResume']
    rw [kept]
    exact State.beginDuePass_run ended
      (State.boundaryBusy_steady (show EngineState.run ≠ .starting by decide) steady noSwitch granted) rfl
  refine ⟨s.started.handLevel.beginPass block, (next_unlessReset free _).trans (by rw [ran]), ?_⟩
  refine ⟨?_, ?_, rfl, rfl, ?_, fun relay => ?_, fun relay => ?_, ?_⟩
  · rw [kept]
    rfl
  · rw [kept]
    rfl
  · rw [kept]
    rfl
  · rw [State.beginPass_opu, State.handLevel_opu, s.started_opu_bypass still relay reason]
  · rw [State.beginPass_opu, State.handLevel_opu, s.started_opu_engaged still relay reason low]
  · rw [kept]
    exact ⟨rfl, rfl, rfl, rfl, rfl, rfl⟩

/-- Settles O19: `State.enterFault` written out; in FAULT the cause joins the record. -/
theorem runawayEntersFault : Obligations.RunawayEntersFault := by
  refine ⟨fun s free many clear ok => ?_, fun s rec_ free many held => ?_, fun s few => ?_⟩
  · have entered : s.runaway = s.uncounted.enterFault .runaway := by
      rw [State.runaway_of_many many, State.handCause_clear (s := s.uncounted) clear]
    have eq := State.enterFault_eq (s := s.uncounted) ok .runaway
    refine ⟨s.uncounted.enterFault .runaway, (next_unlessReset free _).trans (by rw [entered]), ?_⟩
    have quiet := s.uncounted.enterFault_quiet .runaway
    have taken := fun w tag kind noResume taken due =>
      State.enterFault_taken (s := s.uncounted) (w := w) (tag := tag) (kind := kind) .runaway ok noResume
        taken due
    have pending := fun q tag kind =>
      State.enterFault_pending (s := s.uncounted) (q := q) (tag := tag) (kind := kind) .runaway
    rw [eq]
    exact ⟨rfl, rfl, rfl, rfl, rfl, rfl, rfl, rfl, rfl, rfl, rfl, rfl, rfl, rfl, rfl, rfl, rfl, rfl, rfl,
      rfl, rfl, rfl, rfl, rfl, rfl, rfl, rfl, rfl, rfl, rfl, quiet, taken, pending⟩
  · have added : s.runaway = s.uncounted.addCause rec_ .runaway := by
      rw [State.runaway_of_many many, State.handCause_held (s := s.uncounted) held]
    have eq := State.addCause_eq (s := s.uncounted) (c := .runaway) held
    refine ⟨s.uncounted.addCause rec_ .runaway, (next_unlessReset free _).trans (by rw [added]), ?_⟩
    refine ⟨?_, ?_, ?_, ?_, ?_, ?_, ?_, ?_, fun has => ?_⟩
    · rw [eq]; rfl
    · rw [eq]; rfl
    · rw [eq]; rfl
    · rw [eq]; rfl
    · rw [eq]; rfl
    · rw [eq]; rfl
    · rw [eq]; rfl
    · exact s.uncounted.addCause_quiet rec_ .runaway
    · rw [State.addCause_of_has (c := .runaway) has]; rfl
  · exact next_unlessReset_same (if_neg (by omega))

end Sys2Proof

/-! PROOFS. The completion of a pass (R20, R21, R64 to R67). -/

namespace Sys2Proof.Machine

/-! ### What a report leaves -/

theorem updateStages_status : ∀ {is : List StageInst} {rs : List StageReport}, rs.length = is.length →
    (updateStages is rs).map (·.status) = (is.map (·.status)).zipWith recordAfter rs
  | [], [], _ => rfl
  | i :: is, r :: rs, sizes =>
    congrArg (recordAfter i.status r :: ·) (updateStages_status (by simpa using sizes))
  | [], _ :: _, sizes | _ :: _, [], sizes => by simp at sizes

/-- A tail after a pass with the report given (R64 to R66). -/
def tailAfter (x : Tail) (rep : StageReport) : Tail :=
  let u := { x with inst := { x.inst with status := recordAfter x.inst.status rep } }
  if x.state = .running then
    { u with drain := if rep.silent then x.drain - 1 else x.drainReload, life := x.life - 1 }
  else u

theorem updateTails_eq_map : ∀ {ts : List Tail} {rs : List StageReport}, rs.length = ts.length →
    updateTails ts rs = (ts.zip rs).map fun x => tailAfter x.1 x.2
  | [], [], _ => rfl
  | t :: ts, r :: rs, sizes => congrArg (tailAfter t r :: ·) (updateTails_eq_map (by simpa using sizes))
  | [], _ :: _, sizes | _ :: _, [], sizes => by simp at sizes

/-- The stages that METER names rise, and are those with a mark (R21). -/
theorem markedStages_sorted (is : List StageInst) : (markedStages is).Pairwise (· < ·) :=
  List.Pairwise.filter _ List.pairwise_lt_range

theorem mem_markedStages (is : List StageInst) (n : Nat) :
    n ∈ markedStages is ↔ ∃ i, is[n]? = some i ∧
      (i.status.clip = true ∨ i.status.satIn = true ∨ i.status.degraded = true) := by
  simp only [markedStages, List.mem_filter, List.mem_range]
  cases at_ : is[n]? with
  | none => simp
  | some i =>
    obtain ⟨inside, _⟩ := List.getElem?_eq_some_iff.mp at_
    simp [inside, or_assoc]

/-! ### The completion -/

/-- The completion of a pass before its notices. -/
def State.recorded (s : State) (r : PassRec) : State :=
  { s with
    sen := { s.sen with
      pass := none
      ready := r.outs
      lastLoad := s.sen.load
      front := { s.sen.front with stages := updateStages s.sen.front.stages r.front }
      back := { s.sen.back with stages := updateStages s.sen.back.stages r.back } }
    spl := Spl.releaseTails { s.spl with tails := updateTails s.spl.tails r.tails }
      fun t : Tail => decide (t.state = TailState.cutting) && t.cutRan }

/-- Whether a pass clipped (R21). -/
def PassRec.clipped (r : PassRec) : Bool := r.mixSat || (r.front ++ r.back ++ r.tails).any (·.clip)

/-- The part with a summary clip. -/
def State.clippedBy (s : State) (b : Bool) : State :=
  { s with sen := { s.sen with summaryClip := s.sen.summaryClip || b } }

/-- The summary clip after a pass, with a METER notice when it was clear. -/
theorem State.clip_eq (s : State) (b : Bool) :
    (if b then s.setSummaryClip else s) = { s.clippedBy b with
      pif := if b = true ∧ s.sen.summaryClip = false then s.pif.raise (s.clippedBy b).meterNotice
        else s.pif } := by
  cases b with
  | false => simp [State.clippedBy]
  | true =>
    cases clip : s.sen.summaryClip with
    | false => simp [State.setSummaryClip, clip, State.clippedBy, State.raise]
    | true =>
      have kept : s.clippedBy true = s := by rw [State.clippedBy, Bool.or_true, ← clip]
      simp [State.setSummaryClip, clip, kept]

/-- The completion of a pass: the records, the summary clip, and the notices. -/
theorem State.passComplete_eq {s : State} {r : PassRec} (under : s.sen.pass = some r) :
    let u := (s.recorded r).clippedBy r.clipped
    s.passComplete = { u with
      pif := (
        let f := if r.clipped = true ∧ s.sen.summaryClip = false then s.pif.raise u.meterNotice else s.pif
        if r.tempoDegraded then f.raise u.meterNotice else f) } := by
  have clipped : (r.mixSat || r.front.any (·.clip) || r.back.any (·.clip) || r.tails.any (·.clip)) =
      r.clipped := by
    simp [PassRec.clipped, List.any_append, Bool.or_assoc]
  have noticed := (s.recorded r).clip_eq r.clipped
  intro u
  have unfolded : s.passComplete =
      (let s2 := if r.clipped then (s.recorded r).setSummaryClip else s.recorded r
       if r.tempoDegraded then s2.raise s2.meterNotice else s2) := by
    simp only [State.passComplete, under, clipped]
    rfl
  rw [unfolded, noticed]
  cases r.tempoDegraded <;> rfl

theorem segs_of_stages {c : Context} {rs : List StageReport} :
    ({ c with stages := updateStages c.stages rs } : Context).segs = c.segs :=
  congrArg (· ++ c.granted) (chainSegs_updateStages c.stages rs)

/-- The completion of a pass loses no segment. -/
theorem State.recorded_heldSegs (s : State) (r : PassRec) : (s.recorded r).heldSegs.Perm s.heldSegs := by
  have split : tailSegs s.spl.tails = tailSegs (updateTails s.spl.tails r.tails) :=
    (tailSegs_updateTails _ _).symm
  simp only [State.heldSegs, State.recorded, segs_of_stages, Spl.releaseTails, split]
  generalize updateTails s.spl.tails r.tails = ts
  have parted : (tailSegs (ts.filter fun t => decide (t.state = .cutting) && t.cutRan) ++
      tailSegs (ts.filter fun t => !(decide (t.state = .cutting) && t.cutRan))).Perm (tailSegs ts) := by
    rw [tailSegs, tailSegs, ← List.flatMap_append]
    exact (List.filter_append_perm _ ts).flatMap_right _
  have freed := putSegments_perm
    (tailSegs (ts.filter fun t => decide (t.state = .cutting) && t.cutRan)) s.spl.free
  rw [List.perm_iff_count] at parted freed ⊢
  intro x
  have partedX := parted x
  have freedX := freed x
  simp only [List.count_append] at partedX freedX ⊢
  omega

end Sys2Proof.Machine

namespace Sys2Proof

open Machine

/-- Settles O17. -/
theorem passCompletionUpdatesTails : Obligations.PassCompletionUpdatesTails := by
  intro s r free under tails front clipped
  have eq := State.passComplete_eq under
  refine ⟨s.passComplete.tailDrainExpiry.tailLifeExpiry, s.passComplete,
    ⟨s.sen.summaryClip || r.clipped, s.sen.load, s.sen.front.generation,
      markedStages (updateStages s.sen.front.stages r.front)⟩,
    (next_unlessReset free _).trans ?_, ?_, ?_, ?_⟩
  · simp [State.finishPass, under]
  · simp [runAll, exec, execTailDrainExpiry, execTailLifeExpiry, unlessReset, free, State.tailDrainExpiry]
  · simp [free]
  rw [eq]
  refine ⟨rfl, rfl, rfl, rfl, updateStages_status front, updateStages_status, ?_, s.recorded_heldSegs r, rfl,
    rfl, rfl, rfl, rfl, rfl, rfl, rfl, rfl, rfl, markedStages_sorted _, mem_markedStages _, rfl⟩
  exact congrArg _ (updateTails_eq_map tails)

end Sys2Proof

/-! PROOFS. What a pass gives (R16 to R18): its length, and the output of chains of disabled stages, of
VOLUMEs and of a LOOP (R27, R45 to R47). -/

namespace Sys2Proof.Machine

/-! ### Lengths -/

theorem runFrames_length {σ : Type} (f : σ → Nat → Int → σ × FrameOut) :
    ∀ (j : Nat) (st : σ) (xs : List Int), (runFrames f j st xs).2.length = xs.length
  | _, _, [] => rfl
  | j, st, x :: xs => congrArg (· + 1) (runFrames_length f (j + 1) (f st j x).1 xs)

theorem passThrough_length (xs : List Int) : (passThrough xs).length = xs.length := List.length_map _

theorem runStage_length (l : Lib) (o : Bool) (rs : List Int) (w : WetMode) (i : StageInst)
    (mem : List (Nat × Int)) (xs : List Int) : (runStage l o rs w i mem xs).frames.length = xs.length := by
  unfold runStage
  dsimp only
  repeat' split
  all_goals simp only [runFrames_length, passThrough_length]

theorem addLists_length : ∀ {as bs : List Int}, as.length = bs.length →
    (addLists as bs).length = bs.length
  | [], [], _ => rfl
  | _ :: _, _ :: _, same => congrArg (· + 1) (addLists_length (by simpa using same))
  | [], _ :: _, same | _ :: _, [], same => by simp at same

/-- A chain gives an output, a tail bus sample and a loop send for each frame of its input. -/
theorem runChain_length (l : Lib) (o : Bool) (rs : List Int) (g : Option (List Int)) :
    ∀ (is : List StageInst) (mem : List (Nat × Int)) (xs : List Int),
      (runChain l o rs g is mem xs).out.length = xs.length ∧
      (runChain l o rs g is mem xs).bus.length = xs.length ∧
      (runChain l o rs g is mem xs).send.length = xs.length
  | [], _, xs => by simp [runChain]
  | i :: is, mem, xs => by
    have stage := runStage_length l o rs ((startPass l i).wetMode g) (startPass l i) mem xs
    obtain ⟨out, bus, send⟩ := runChain_length l o rs g is
      (runStage l o rs ((startPass l i).wetMode g) (startPass l i) mem xs).mem
      ((runStage l o rs ((startPass l i).wetMode g) (startPass l i) mem xs).frames.map (·.y))
    rw [List.length_map, stage] at out bus send
    refine ⟨out, ?_, ?_⟩
    · exact (addLists_length (by rw [List.length_map, stage, bus])).trans bus
    · exact (addLists_length (by rw [List.length_map, stage, send])).trans send

theorem runTails_length (l : Lib) (xs : List Int) : ∀ (ts : List Tail) (mem : List (Nat × Int)),
    (runTails l xs ts mem).bus.length = xs.length
  | [], _ => rfl
  | t :: ts, mem => by
    have rest := runTails_length l xs ts
      (runStage l false [] (if t.state = .cutting then .tailCut else .tail) (startTailPass t.inst) mem xs).mem
    exact (addLists_length (by rw [List.length_map, runStage_length, rest])).trans rest

theorem mixFrames_length (ph : SwitchPhase) : ∀ {fs bs gs ts : List Int}, fs.length = bs.length →
    bs.length = gs.length → gs.length = ts.length → (mixFrames ph fs bs gs ts).length = fs.length
  | [], [], [], [], _, _, _ => rfl
  | _ :: _, _ :: _, _ :: _, _ :: _, b, g, t =>
    congrArg (· + 1) (mixFrames_length ph (by simpa using b) (by simpa using g) (by simpa using t))

theorem gains_length (c : Scn) : c.gains.length = 16 := by
  unfold Scn.gains
  split
  · simp [gInBlock]
  · simp

/-! ### The pass that begins (R2) -/

/-- What the front chain gives to the pass that begins now. -/
def State.frontOut (s : State) (block : List (Int × Int)) : ChainOut :=
  runChain s.lib s.loopOpen (block.map (·.2)) (if diverting s.scn.phase then some s.scn.outGains else none)
    s.sen.front.stages s.spl.mem (block.map (·.1))

/-- A pass on sixteen frames is under way, with an output for each; the boundary waits for none. -/
theorem State.beginPass_begun (s : State) {block : List (Int × Int)} (whole : block.length = 16) :
    (s.beginPass block).sen.awaiting = none ∧ (s.beginPass block).sen.load = s.passLoad ∧
    ∃ r, (s.beginPass block).sen.pass = some r ∧ r.outs.length = block.length := by
  refine ⟨rfl, rfl, _, rfl, ?_⟩
  have front := runChain_length s.lib s.loopOpen (block.map (·.2))
    (if diverting s.scn.phase then some s.scn.outGains else none) s.sen.front.stages s.spl.mem
    (block.map (·.1))
  obtain ⟨out, bus, send⟩ := front
  rw [List.length_map] at out bus send
  rw [List.length_zip, List.length_map, mixFrames_length]
  · rw [out, send, Nat.min_self]
  · rw [out]
    split
    · rw [(runChain_length ..).1, List.length_map]
    · simp
  · rw [gains_length, ← whole]
    split
    · rw [(runChain_length ..).1, List.length_map]
    · simp
  · rw [gains_length, addLists_length, runTails_length]
    · simp [whole]
    · rw [runTails_length, bus]
      simp

/-! ### Outside a switch, without tails -/

/-- Silence of a length. -/
def zeros (n : Nat) : List Int := List.replicate n 0

@[simp] theorem zeros_length (n : Nat) : (zeros n).length = n := List.length_replicate

theorem map_zero {α : Type} (xs : List α) : (xs.map fun _ => (0 : Int)) = zeros xs.length :=
  List.map_const' ..

theorem addLists_zeros : ∀ n, addLists (zeros n) (zeros n) = zeros n
  | 0 => rfl
  | n + 1 => congrArg ((0 : Int) :: ·) (addLists_zeros n)

theorem addLists_zeros_right : ∀ xs : List Int, addLists xs (zeros xs.length) = xs
  | [] => rfl
  | x :: xs => congrArg₂ List.cons (Int.add_zero x) (addLists_zeros_right xs)

/-- The sample range. -/
def InSampleRange (x : Int) : Prop := -8388608 ≤ x ∧ x ≤ 8388607

theorem sat_of_inRange {x : Int} (inside : InSampleRange x) : sat x = x := by
  obtain ⟨low, high⟩ := inside
  simp [sat, clampTo, sampleMin, sampleMax]
  omega

theorem sat_inRange (x : Int) : InSampleRange (sat x) := by
  unfold sat clampTo sampleMin sampleMax InSampleRange
  split
  · omega
  · split <;> omega

theorem map_sat_of_inRange {ys : List Int} (inside : ∀ y ∈ ys, InSampleRange y) : ys.map sat = ys :=
  (List.map_congr_left fun y mem => sat_of_inRange (inside y mem)).trans (List.map_id ys)

/-- In STEADY the front chain's samples pass the mix saturated. -/
theorem mixFrames_steady : ∀ {fs bs gs : List Int}, fs.length = bs.length → bs.length = gs.length →
    (mixFrames .steady fs bs gs (zeros fs.length)).map (·.1) = fs.map sat
  | [], [], [], _, _ => rfl
  | f :: fs, b :: bs, g :: gs, sameB, sameG => by
    have rest := mixFrames_steady (fs := fs) (bs := bs) (gs := gs) (by simpa using sameB)
      (by simpa using sameG)
    have first : (mixFrame .steady f b g 0).1 = sat f := by
      simp [mixFrame, chainMix, sat_of_inRange (sat_inRange f)]
    exact congrArg₂ List.cons first rest

/-- Outside a switch and without tails a pass puts out what its chain gives, where the chain gives
nothing to the tail bus. -/
theorem State.beginPass_outs {s : State} {block : List (Int × Int)} {r : PassRec}
    (whole : block.length = 16) (steady : s.scn.phase = .steady) (noTails : s.spl.tails = [])
    (begun : (s.beginPass block).sen.pass = some r)
    (bus : (s.frontOut block).bus = zeros block.length) :
    r.outs = ((s.frontOut block).out.map sat).zip (s.frontOut block).send := by
  have size : (s.frontOut block).out.length = block.length :=
    (runChain_length ..).1.trans (List.length_map _)
  rw [← Option.some.inj begun]
  refine congrArg (List.zip · (s.frontOut block).send) ?_
  change (mixFrames s.scn.phase (s.frontOut block).out _ s.scn.gains
    (addLists (s.frontOut block).bus (runTails _ _ s.spl.tails _).bus)).map (·.1) = _
  rw [noTails, runTails, map_zero, bus, List.length_map, addLists_zeros, ← size, steady]
  refine mixFrames_steady ?_ ?_
  · rw [if_neg (by decide)]
    simp [size]
  · rw [if_neg (by decide)]
    simp [gains_length, size, whole]

/-! ### Stages that hand their input on, VOLUME and LOOP -/

/-- The frames of a stage with no state of its own, one by one. -/
theorem runFrames_unit (f : Unit → Nat → Int → Unit × FrameOut) :
    ∀ (n j : Nat) (xs : List Int),
      (runFrames f j () xs).2[n]? = xs[n]?.map fun x => (f () (n + j) x).2
  | _, _, [] => rfl
  | 0, j, x :: xs => by simp [runFrames]
  | n + 1, j, x :: xs => by
    rw [runFrames, List.getElem?_cons_succ, List.getElem?_cons_succ, runFrames_unit f n (j + 1) xs,
      show n + 1 + j = n + (j + 1) by omega]

theorem wetFrame_disabled {σ : Type} (core : σ → Int → σ × Int × Bool) (mix : Nat → Int) :
    ∀ (j : Nat) (st : σ) (xs : List Int),
      (runFrames (wetFrame core .disabled mix) j st xs).2 = passThrough xs
  | _, _, [] => rfl
  | j, _, x :: xs => congrArg (FrameOut.plain x :: ·) (wetFrame_disabled core mix (j + 1) _ xs)

/-- A disabled stage hands its input on (R27). -/
theorem runStage_disabled (l : Lib) (o : Bool) (rs : List Int) {i : StageInst} (off : i.enabled = false)
    (mem : List (Nat × Int)) (xs : List Int) :
    (runStage l o rs .disabled i mem xs).frames = passThrough xs := by
  unfold runStage
  dsimp only
  split <;> simp only [off, wetFrame_disabled, Bool.false_eq_true, if_false, Bool.false_and]

theorem startPass_enabled (l : Lib) (i : StageInst) : (startPass l i).enabled = i.enabled := by
  unfold startPass StageInst.mark
  dsimp only
  split
  · split <;> rfl
  · split <;> rfl
  all_goals rfl

/-- A chain of disabled stages hands its input on, and gives nothing else (R27). -/
theorem runChain_disabled (l : Lib) (o : Bool) (rs : List Int) (g : Option (List Int)) :
    ∀ {is : List StageInst} (mem : List (Nat × Int)) (xs : List Int), (∀ i ∈ is, i.enabled = false) →
      (runChain l o rs g is mem xs).out = xs ∧
      (runChain l o rs g is mem xs).bus = zeros xs.length ∧
      (runChain l o rs g is mem xs).send = zeros xs.length
  | [], _, xs, _ => ⟨rfl, map_zero xs, map_zero xs⟩
  | i :: is, mem, xs, off => by
    have offI : (startPass l i).enabled = false := (startPass_enabled l i).trans (off i (by simp))
    have mode : (startPass l i).wetMode g = .disabled := by simp [StageInst.wetMode, offI]
    have frames := runStage_disabled l o rs offI mem xs
    have plain : (passThrough xs).map (·.y) = xs := by simp [passThrough, FrameOut.plain, Function.comp_def]
    have rest := runChain_disabled l o rs g (is := is)
      (runStage l o rs .disabled (startPass l i) mem xs).mem xs fun i mem => off i (by simp [mem])
    obtain ⟨out, bus, send⟩ := rest
    have quietBus : (passThrough xs).map (·.bus) = zeros xs.length := (List.map_map ..).trans (map_zero xs)
    have quietSend : (passThrough xs).map (·.send) = zeros xs.length := (List.map_map ..).trans (map_zero xs)
    simp only [runChain, mode, frames, plain, out, bus, send, quietBus, quietSend, addLists_zeros, and_self]

/-- A VOLUME that stands at its gain: each frame scaled, rounded and saturated (R47). -/
theorem glideAt_self (a : Int) (j : Nat) : glideAt a a j = a := by
  simp [glideAt]

/-- The frames of an enabled VOLUME (R47). -/
theorem runStage_volume (l : Lib) (o : Bool) (rs : List Int) (w : WetMode) {i : StageInst}
    (volume : i.run = .volume) (on : i.enabled = true) (mem : List (Nat × Int)) (xs : List Int) (n : Nat) :
    (runStage l o rs w i mem xs).frames[n]? = xs[n]?.map fun x =>
      { FrameOut.plain (sat (q12 (x * i.g 0 (n + 1)))) with clip := satHits (q12 (x * i.g 0 (n + 1))) } := by
  simp only [runStage, volume, on, if_true, runFrames_unit]
  rfl

/-- The frames of an enabled LOOP that is closed (R45). -/
theorem runStage_loop (l : Lib) (rs : List Int) (w : WetMode) {i : StageInst}
    (loop : i.run = .loop) (on : i.enabled = true) (mem : List (Nat × Int)) (xs : List Int) (n : Nat) :
    (runStage l false rs w i mem xs).frames[n]? = xs[n]?.map fun x => (loopFrame i rs () (n + 1) x).2 := by
  simp only [runStage, loop, on, Bool.not_false, Bool.and_self, if_true, runFrames_unit]

/-- An open LOOP hands its input on (R46). -/
theorem runStage_loop_open (l : Lib) (rs : List Int) (w : WetMode) {i : StageInst}
    (loop : i.run = .loop) (mem : List (Nat × Int)) (xs : List Int) :
    (runStage l true rs w i mem xs).frames = passThrough xs := by
  simp only [runStage, loop, Bool.not_true, Bool.and_false, Bool.false_eq_true, if_false]

theorem startPass_volume (l : Lib) {i : StageInst} (volume : i.run = .volume) : startPass l i = i := by
  simp [startPass, volume]

theorem startPass_loop (l : Lib) {i : StageInst} (loop : i.run = .loop) : startPass l i = i := by
  simp [startPass, loop]

/-- What is read off each frame of a stage, where it depends on the input alone. -/
theorem map_frames {frames : List FrameOut} {xs : List Int} {h : Nat → Int → FrameOut} {p : FrameOut → Int}
    {q : Int → Int} (at_ : ∀ n, frames[n]? = xs[n]?.map (h n)) (same : ∀ n x, p (h n x) = q x) :
    frames.map p = xs.map q := by
  refine List.ext_getElem? fun n => ?_
  rw [List.getElem?_map, List.getElem?_map, at_, Option.map_map]
  exact congrArg (Option.map · _) (funext (same n))

/-- A chain of one stage that makes nothing of the start of a pass. -/
theorem runChain_single {l : Lib} {i : StageInst} (start : startPass l i = i) (o : Bool) (rs : List Int)
    (g : Option (List Int)) (mem : List (Nat × Int)) (xs : List Int) :
    let frames := (runStage l o rs (i.wetMode g) i mem xs).frames
    (runChain l o rs g [i] mem xs).out = frames.map (·.y) ∧
    (runChain l o rs g [i] mem xs).bus = frames.map (·.bus) ∧
    (runChain l o rs g [i] mem xs).send = frames.map (·.send) := by
  intro frames
  have silent : (frames.map (·.y)).map (fun _ => (0 : Int)) = zeros frames.length := by
    rw [map_zero, List.length_map]
  refine ⟨by simp only [runChain, start]; rfl, ?_, ?_⟩
  · simp only [runChain, start]
    refine (congrArg (addLists (frames.map (·.bus))) silent).trans ?_
    rw [← List.length_map (f := (·.bus)) (as := frames), addLists_zeros_right]
  · simp only [runChain, start]
    refine (congrArg (addLists (frames.map (·.send))) silent).trans ?_
    rw [← List.length_map (f := (·.send)) (as := frames), addLists_zeros_right]

/-- A VOLUME that stands at its gain, over one sample. -/
def scaled (y : Int) (i : StageInst) : Int := sat ((y * i.cur.getD 0 0 + 2048) / 4096)

/-- An enabled VOLUME whose gain stands. -/
def SteadyVolume (i : StageInst) : Prop := i.run = .volume ∧ i.enabled = true ∧ i.tgt = i.cur

/-- A chain of VOLUMEs scales and saturates in order, and gives nothing else (R47). -/
theorem runChain_volumes (l : Lib) (o : Bool) (rs : List Int) (g : Option (List Int)) :
    ∀ {is : List StageInst} (mem : List (Nat × Int)) (xs : List Int), (∀ i ∈ is, SteadyVolume i) →
      (runChain l o rs g is mem xs).out = xs.map (is.foldl scaled) ∧
      (runChain l o rs g is mem xs).bus = zeros xs.length ∧
      (runChain l o rs g is mem xs).send = zeros xs.length
  | [], _, xs, _ => ⟨(List.map_id xs).symm, map_zero xs, map_zero xs⟩
  | i :: is, mem, xs, all => by
    obtain ⟨volume, on, stands⟩ := all i (by simp)
    have start := startPass_volume l volume
    have frames := runStage_volume l o rs (i.wetMode g) volume on mem xs
    have out : (runStage l o rs (i.wetMode g) i mem xs).frames.map (·.y) = xs.map (scaled · i) :=
      map_frames frames fun n x => by simp [FrameOut.plain, StageInst.g, stands, glideAt_self, scaled, q12]
    have bus : (runStage l o rs (i.wetMode g) i mem xs).frames.map (·.bus) = zeros xs.length :=
      (map_frames frames fun n x => rfl).trans (map_zero xs)
    have send : (runStage l o rs (i.wetMode g) i mem xs).frames.map (·.send) = zeros xs.length :=
      (map_frames frames fun n x => rfl).trans (map_zero xs)
    obtain ⟨restOut, restBus, restSend⟩ := runChain_volumes l o rs g (is := is)
      (runStage l o rs (i.wetMode g) i mem xs).mem (xs.map (scaled · i)) fun i mem => all i (by simp [mem])
    rw [List.length_map] at restBus restSend
    simp only [runChain, start, out, bus, send, restOut, restBus, restSend, addLists_zeros, List.map_map,
      and_true]
    rfl

theorem foldl_scaled_inRange : ∀ (is : List StageInst) {x : Int}, InSampleRange x →
    InSampleRange (is.foldl scaled x)
  | [], _, inside => inside
  | _ :: is, _, _ => foldl_scaled_inRange is (sat_inRange _)

/-- Samples paired with loop sends, frame by frame. -/
theorem zip_getElem? {α : Type} {out send : List Int} {block : List α} {a b : α → Int} {n : Nat}
    (outAt : out[n]? = block[n]?.map a) (sendAt : send[n]? = block[n]?.map b) :
    (out.zip send)[n]? = block[n]?.map fun f => (a f, b f) := by
  rw [List.zip, List.getElem?_zipWith, outAt, sendAt]
  cases block[n]? <;> rfl

theorem zip_zeros (xs : List Int) : xs.zip (zeros xs.length) = xs.map fun x => (x, 0) := by
  induction xs with
  | nil => rfl
  | cons x xs ih => exact congrArg ((x, (0 : Int)) :: ·) ih

section Steady

variable {s : State} {block : List (Int × Int)} {r : PassRec}

/-- A pass outside a switch, without tails: a chain of disabled stages hands its input on. -/
theorem State.outs_disabled (whole : block.length = 16) (steady : s.scn.phase = .steady)
    (noTails : s.spl.tails = []) (begun : (s.beginPass block).sen.pass = some r)
    (inside : ∀ f ∈ block, InSampleRange f.1) (off : ∀ i ∈ s.sen.front.stages, i.enabled = false) :
    r.outs = block.map fun f => (f.1, 0) := by
  obtain ⟨out, bus, send⟩ := runChain_disabled s.lib s.loopOpen (block.map (·.2))
    (if diverting s.scn.phase then some s.scn.outGains else none) s.spl.mem (block.map (·.1)) off
  rw [List.length_map] at bus
  have range : ∀ y ∈ block.map (·.1), InSampleRange y := by simpa using inside
  rw [State.beginPass_outs whole steady noTails begun bus, State.frontOut, out, send,
    map_sat_of_inRange range, zip_zeros, List.map_map]
  rfl

/-- VOLUMEs that stand scale and saturate in order. -/
theorem State.outs_volumes (whole : block.length = 16) (steady : s.scn.phase = .steady)
    (noTails : s.spl.tails = []) (begun : (s.beginPass block).sen.pass = some r)
    (inside : ∀ f ∈ block, InSampleRange f.1) (all : ∀ i ∈ s.sen.front.stages, SteadyVolume i) :
    r.outs = block.map fun f => (s.sen.front.stages.foldl scaled f.1, 0) := by
  obtain ⟨out, bus, send⟩ := runChain_volumes s.lib s.loopOpen (block.map (·.2))
    (if diverting s.scn.phase then some s.scn.outGains else none) s.spl.mem (block.map (·.1)) all
  have range : ∀ y ∈ (block.map (·.1)).map (s.sen.front.stages.foldl scaled), InSampleRange y := by
    intro y mem
    simp only [List.mem_map] at mem
    obtain ⟨_, ⟨f, mem, rfl⟩, rfl⟩ := mem
    exact foldl_scaled_inRange _ (inside f mem)
  have quiet := zip_zeros ((block.map (·.1)).map (s.sen.front.stages.foldl scaled))
  rw [List.length_map, List.length_map] at quiet
  rw [List.length_map] at bus send
  rw [State.beginPass_outs whole steady noTails begun bus, State.frontOut, out, send,
    map_sat_of_inRange range, quiet, List.map_map, List.map_map]
  rfl

/-- A chain of one stage that makes nothing of the start of a pass and gives the tail bus nothing, in
each frame given by a function of the frame number and the frame. -/
theorem State.outs_single {i : StageInst} {h : Nat → Int × Int → FrameOut} (whole : block.length = 16)
    (steady : s.scn.phase = .steady) (noTails : s.spl.tails = [])
    (begun : (s.beginPass block).sen.pass = some r) (only : s.sen.front.stages = [i])
    (start : startPass s.lib i = i)
    (frames : ∀ w n, (runStage s.lib s.loopOpen (block.map (·.2)) w i s.spl.mem (block.map (·.1))).frames[n]? =
      block[n]?.map (h n))
    (bus : ∀ n f, (h n f).bus = 0) (n : Nat) :
    r.outs[n]? = block[n]?.map fun f => (sat (h n f).y, (h n f).send) := by
  obtain ⟨out, busOut, send⟩ := runChain_single start s.loopOpen (block.map (·.2))
    (if diverting s.scn.phase then some s.scn.outGains else none) s.spl.mem (block.map (·.1))
  have at_ := frames (i.wetMode (if diverting s.scn.phase then some s.scn.outGains else none))
  have quiet : (s.frontOut block).bus = zeros block.length := by
    rw [State.frontOut, only, busOut, ← map_zero block]
    refine List.ext_getElem? fun n => ?_
    rw [List.getElem?_map, List.getElem?_map, at_, Option.map_map]
    exact congrArg (Option.map · _) (funext (bus n))
  rw [State.beginPass_outs whole steady noTails begun quiet, State.frontOut, only, out, send]
  refine zip_getElem? ?_ ?_
  · rw [List.getElem?_map, List.getElem?_map, at_, Option.map_map, Option.map_map]
    rfl
  · rw [List.getElem?_map, at_, Option.map_map]
    rfl

/-- One gliding VOLUME, frame by frame. -/
theorem State.outs_volume {i : StageInst} (whole : block.length = 16) (steady : s.scn.phase = .steady)
    (noTails : s.spl.tails = []) (begun : (s.beginPass block).sen.pass = some r)
    (only : s.sen.front.stages = [i]) (volume : i.run = .volume) (on : i.enabled = true) (n : Nat) :
    r.outs[n]? = block[n]?.map fun f => (sat (q12 (f.1 * i.g 0 (n + 1))), 0) := by
  rw [State.outs_single whole steady noTails begun only (startPass_volume s.lib volume)
    (h := fun n f => { FrameOut.plain (sat (q12 (f.1 * i.g 0 (n + 1)))) with
      clip := satHits (q12 (f.1 * i.g 0 (n + 1))) })
    (fun w n => by rw [runStage_volume _ _ _ _ volume on, List.getElem?_map, Option.map_map]; rfl)
    (fun _ _ => rfl)]
  refine congrArg (Option.map · _) (funext fun f => ?_)
  exact congrArg (·, (0 : Int)) (sat_of_inRange (sat_inRange _))

/-- One LOOP, closed. -/
theorem State.outs_loop {i : StageInst} (whole : block.length = 16) (steady : s.scn.phase = .steady)
    (noTails : s.spl.tails = []) (begun : (s.beginPass block).sen.pass = some r)
    (only : s.sen.front.stages = [i]) (loop : i.run = .loop) (on : i.enabled = true)
    (closed : s.loopOpen = false) {sg rg mix : Int} (cur : i.cur = [sg, rg, mix])
    (tgt : i.tgt = [sg, rg, mix]) :
    r.outs = block.map fun f => (sat (mixed (sat (q12 (f.2 * rg))) f.1 mix), sat (q12 (f.1 * sg))) := by
  refine List.ext_getElem? fun n => ?_
  have gains : ∀ j, i.g 0 j = sg ∧ i.g 1 j = rg ∧ i.g 2 j = mix := fun j => by
    simp [StageInst.g, cur, tgt, glideAt_self]
  have frame : ∀ n f, block[n]? = some f →
      (loopFrame i (block.map (·.2)) () (n + 1) f.1).2 =
        { y := mixed (sat (q12 (f.2 * rg))) f.1 mix, bus := 0, send := sat (q12 (f.1 * sg))
          clip := satHits (q12 (f.1 * sg)) || satHits (q12 (f.2 * rg)), satIn := false } := by
    intro n f at_
    obtain ⟨g0, g1, g2⟩ := gains (n + 1)
    simp [loopFrame, g0, g1, g2, List.getD_eq_getElem?_getD, at_]
  rw [State.outs_single whole steady noTails begun only (startPass_loop s.lib loop)
    (h := fun n f =>
      { y := mixed (sat (q12 (f.2 * rg))) f.1 mix, bus := 0, send := sat (q12 (f.1 * sg))
        clip := satHits (q12 (f.1 * sg)) || satHits (q12 (f.2 * rg)), satIn := false })
    (fun w n => ?_) (fun _ _ => rfl), List.getElem?_map]
  rw [closed, runStage_loop _ _ _ loop on, List.getElem?_map, Option.map_map]
  cases at_ : block[n]? with
  | none => rfl
  | some f => exact congrArg some (frame n f at_)

/-- One LOOP, open. -/
theorem State.outs_loop_open {i : StageInst} (whole : block.length = 16) (steady : s.scn.phase = .steady)
    (noTails : s.spl.tails = []) (begun : (s.beginPass block).sen.pass = some r)
    (inside : ∀ f ∈ block, InSampleRange f.1) (only : s.sen.front.stages = [i]) (loop : i.run = .loop)
    (opened : s.loopOpen = true) : r.outs = block.map fun f => (f.1, 0) := by
  refine List.ext_getElem? fun n => ?_
  rw [State.outs_single whole steady noTails begun only (startPass_loop s.lib loop)
    (h := fun _ f => .plain f.1) (fun w n => ?_) (fun _ _ => rfl), List.getElem?_map]
  · cases at_ : block[n]? with
    | none => rfl
    | some f =>
      exact congrArg (fun y => some (y, 0)) (sat_of_inRange (inside f (List.mem_of_getElem? at_)))
  · rw [opened, runStage_loop_open _ _ _ loop, passThrough, List.getElem?_map, List.getElem?_map,
      Option.map_map]
    rfl

end Steady

end Sys2Proof.Machine

/-! PROOFS. The block boundary (R1 to R3, R6, R99 to R109). -/

namespace Sys2Proof.Machine

/-! ### A boundary that nothing precedes -/

theorem State.boundarySteps_of_ready {s : State} (ready : s.boundaryBusy = false) :
    s.boundarySteps = s := by
  simp only [State.boundaryBusy, Bool.or_eq_false_iff] at ready
  obtain ⟨⟨⟨⟨starting, grant⟩, prepare⟩, commit⟩, gapIn⟩ := ready
  have step1 : s.startingComplete = s := by simp [State.startingComplete, starting]
  have step2 : s.grantAfterReclaim = s := by simp [State.grantAfterReclaim, grant]
  have step3 : s.endOfPrepare = s := by simp [State.endOfPrepare, prepare]
  have step4 : s.commit = s := by
    unfold State.commit
    split
    · rfl
    · next r at_ => rw [if_neg (by simpa [State.commitDue, at_] using commit)]
  have step5 : s.gapInEnd = s := by simp [State.gapInEnd, gapIn]
  rw [State.boundarySteps, step1, step2, step3, step4, step5]

theorem State.pendingTake_of_none {s : State} (noPending : s.scn.pendingRecall = none) :
    s.pendingTake = s := by simp [State.pendingTake, noPending]

theorem State.pendingTake_of_phase {s : State} (phase : s.scn.phase ≠ .steady) : s.pendingTake = s := by
  unfold State.pendingTake
  split
  · rw [if_neg phase]
  · rfl

theorem State.finishPass_of_none {s : State} (noPass : s.sen.pass = none) : s.finishPass = s := by
  simp [State.finishPass, noPass]

/-- The counts and the frames of a boundary, before the engine's part. -/
def State.atBoundary (s : State) : State :=
  { s with sen := s.sen.boundary, tun := s.tun.blockTests, opu := s.opu.holdBoundary }

/-- The part after the engine's part of a boundary, before its pass. -/
def State.beforePass (s : State) : State := s.atBoundary.engineBoundary

/-- What holds at a boundary that finds no step due, no pass under way and no recall to take. -/
structure Quiet (s : State) : Prop where
  free : s.por = false
  whole : s.sen.gathered.length = 16
  noPass : s.sen.pass = none
  ready : s.boundaryBusy = false
  noTake : s.scn.pendingRecall = none ∨ s.scn.phase ≠ .steady

theorem Quiet.boundary {s : State} (h : Quiet s) :
    exec .blockBoundary s = .next s.beforePass.beginDuePass := by
  have caught : s.catchUp = s := by
    rw [State.catchUp, State.boundarySteps_of_ready h.ready,
      h.noTake.elim State.pendingTake_of_none State.pendingTake_of_phase, State.finishPass_of_none h.noPass]
  refine (next_unlessReset h.free _).trans ?_
  rw [State.blockBoundary, if_pos h.whole.ge, caught]
  rfl

/-! ### What every boundary keeps -/

/-- What the engine's part of a boundary and the start of its pass leave. -/
def State.boundaryView (s : State) : Word32 × List (Int × Int) × List (Int × Int) × List (Int × Int) ×
    EngineState × Option RelayMove × Nat × Option FaultRecord × Relay × List Nat × Pif × Lib × Tgn × Lnk ×
    List Instr :=
  (s.sen.blockCount, s.sen.gathered, s.sen.ready, s.sen.outQueue, s.sen.engine, s.opu.move, s.opu.gain,
    s.opu.fault, s.opu.relay, s.spl.free, s.pif, s.lib, s.tgn, s.lnk, s.pending)

/-- What the engine's part of a boundary leaves beside. -/
def State.passView (s : State) : Option (List (Int × Int)) × Option PassRec × EngineState :=
  (s.sen.awaiting, s.sen.pass, s.sen.engine)

theorem State.beginDuePass_view (s : State) : s.beginDuePass.boundaryView = s.boundaryView := by
  unfold State.beginDuePass
  split
  · rfl
  · split
    · rfl
    · split <;> rfl

theorem State.beginDuePass_scn (s : State) : s.beginDuePass.scn = s.scn := by
  unfold State.beginDuePass
  split
  · rfl
  · split
    · rfl
    · split <;> rfl

theorem State.beginDuePass_opu (s : State) : s.beginDuePass.opu = s.opu := by
  unfold State.beginDuePass
  split
  · rfl
  · split
    · rfl
    · split <;> rfl

/-- Both views through the last block before a commit. -/
theorem State.lastBlock_view (s : State) :
    s.lastBlock.boundaryView = s.boundaryView ∧ s.lastBlock.passView = s.passView := by
  unfold State.lastBlock
  split <;> exact ⟨rfl, rfl⟩

theorem State.enterFade_view (s : State) (ph : SwitchPhase) (k : SwitchKind) (f : Nat) :
    (s.enterFade ph k f).boundaryView = s.boundaryView ∧ (s.enterFade ph k f).passView = s.passView := by
  unfold State.enterFade
  dsimp only
  split
  · exact State.lastBlock_view _
  · exact ⟨rfl, rfl⟩

theorem State.afterBuild_view (s : State) :
    s.afterBuild.boundaryView = s.boundaryView ∧ s.afterBuild.passView = s.passView := by
  unfold State.afterBuild
  split
  · split
    · exact State.lastBlock_view s
    · exact ⟨rfl, rfl⟩
  · exact ⟨rfl, rfl⟩

theorem Spl.markGrant_free (p : Spl) : p.markGrant.free = p.free := by
  unfold Spl.markGrant
  split <;> rfl

theorem Spl.markGrant_tails (p : Spl) : p.markGrant.tails = p.tails := by
  unfold Spl.markGrant
  split <;> rfl

theorem State.waitBoundary_view (s : State) (r : SwitchRec) :
    (s.waitBoundary r).boundaryView = s.boundaryView ∧ (s.waitBoundary r).passView = s.passView := by
  unfold State.waitBoundary
  dsimp only
  split <;> exact ⟨by simp only [State.boundaryView, Spl.markGrant_free], rfl⟩

theorem State.prepareBoundary_view (s : State) (r : SwitchRec) :
    (s.prepareBoundary r).boundaryView = s.boundaryView ∧
      (s.prepareBoundary r).passView = s.passView := by
  unfold State.prepareBoundary
  split
  · exact s.waitBoundary_view r
  · split
    · exact s.buildBack.afterBuild_view
    · split
      · exact s.enterFade_view ..
      · exact ⟨rfl, rfl⟩

theorem State.fadeBoundary_view (s : State) (r : SwitchRec) :
    (s.fadeBoundary r).boundaryView = s.boundaryView ∧ (s.fadeBoundary r).passView = s.passView := by
  unfold State.fadeBoundary
  dsimp only
  split
  · exact ⟨rfl, rfl⟩
  · split
    · exact State.lastBlock_view _
    · exact ⟨rfl, rfl⟩

theorem State.switchBoundary_view (s : State) :
    s.switchBoundary.boundaryView = s.boundaryView ∧ s.switchBoundary.passView = s.passView := by
  unfold State.switchBoundary
  split
  · exact ⟨rfl, rfl⟩
  · split
    · exact ⟨rfl, rfl⟩
    · exact s.prepareBoundary_view _
    · exact s.fadeBoundary_view _
    · exact s.fadeBoundary_view _
    · exact ⟨rfl, rfl⟩

theorem State.engineBoundary_view (s : State) :
    s.engineBoundary.boundaryView = s.boundaryView ∧ s.engineBoundary.passView = s.passView := by
  unfold State.engineBoundary
  split
  · split <;> exact ⟨rfl, rfl⟩
  · exact s.switchBoundary_view
  · exact ⟨rfl, rfl⟩
  · exact ⟨rfl, rfl⟩

/-- No tail comes of a boundary. -/
theorem cutOldest_nil (n : Nat) : cutOldest n [] = [] := by cases n <;> rfl

theorem State.lastBlock_noTails {s : State} (noTails : s.spl.tails = []) : s.lastBlock.spl.tails = [] := by
  have cut : ∀ n, cutOldest n s.spl.tails = [] := fun n => by rw [noTails, cutOldest_nil]
  unfold State.lastBlock
  split <;> exact cut _

theorem State.prepareBoundary_noTails {s : State} (r : SwitchRec) (noTails : s.spl.tails = []) :
    (s.prepareBoundary r).spl.tails = [] := by
  unfold State.prepareBoundary
  split
  · unfold State.waitBoundary
    dsimp only
    split <;> exact (Spl.markGrant_tails _).trans noTails
  · split
    · unfold State.afterBuild
      split
      · split
        · exact State.lastBlock_noTails (s := s.buildBack) noTails
        · exact noTails
      · exact noTails
    · split
      · unfold State.enterFade
        dsimp only
        split
        · exact State.lastBlock_noTails (by exact noTails)
        · exact noTails
      · exact noTails

theorem State.fadeBoundary_noTails {s : State} (r : SwitchRec) (noTails : s.spl.tails = []) :
    (s.fadeBoundary r).spl.tails = [] := by
  unfold State.fadeBoundary
  dsimp only
  split
  · exact noTails
  · split
    · exact State.lastBlock_noTails (by exact noTails)
    · exact noTails

theorem State.switchBoundary_noTails {s : State} (noTails : s.spl.tails = []) :
    s.switchBoundary.spl.tails = [] := by
  unfold State.switchBoundary
  split
  · exact noTails
  · split
    · exact noTails
    · exact State.prepareBoundary_noTails _ noTails
    · exact State.fadeBoundary_noTails _ noTails
    · exact State.fadeBoundary_noTails _ noTails
    · exact noTails

theorem State.engineBoundary_noTails {s : State} (noTails : s.spl.tails = []) :
    s.engineBoundary.spl.tails = [] := by
  unfold State.engineBoundary
  split
  · split <;> exact noTails
  · exact State.switchBoundary_noTails noTails
  · exact noTails
  · exact noTails

theorem State.beginDuePass_noTails {s : State} (noTails : s.spl.tails = []) :
    s.beginDuePass.spl.tails = [] := by
  have run : ∀ l xs mem, (runTails l xs s.spl.tails mem).tails = [] := fun l xs mem => by
    rw [noTails]
    rfl
  unfold State.beginDuePass
  split
  · exact noTails
  · split
    · exact noTails
    · split
      · exact run _ _ _
      · exact noTails

/-! ### The outcomes of a boundary -/

section Quiet

variable {s : State}

/-- The frames, the counts and the outputs at a boundary of sixteen frames (R1, R3). -/
theorem Quiet.counted (h : Quiet s) :
    let t := s.beforePass.beginDuePass
    t.sen.blockCount = s.sen.blockCount + 1 ∧ t.sen.gathered = [] ∧ t.sen.ready = [] ∧
    t.sen.outQueue = s.sen.outQueue ++ s.sen.ready ∧ t.sen.engine = s.sen.engine ∧
    t.opu.move = (s.opu.move.map fun m => { m with hold := m.hold.map (· - 1) }) ∧
    t.opu.gain = s.opu.gain ∧ t.opu.fault = s.opu.fault ∧ t.opu.relay = s.opu.relay ∧
    t.spl.free = s.spl.free ∧ t.pif = s.pif ∧ t.lib = s.lib ∧ t.tgn = s.tgn ∧ t.lnk = s.lnk ∧
    t.pending = s.pending := by
  have view := s.beforePass.beginDuePass_view.trans s.atBoundary.engineBoundary_view.1
  have emptied : s.atBoundary.sen.gathered = [] := List.drop_eq_nil_of_le h.whole.le
  simp only [State.boundaryView, emptied, Prod.mk.injEq] at view
  exact view

theorem Quiet.counted_noTails (noTails : s.spl.tails = []) :
    s.beforePass.beginDuePass.spl.tails = [] :=
  State.beginDuePass_noTails (State.engineBoundary_noTails noTails)

theorem Quiet.before (h : Quiet s) :
    s.beforePass.sen.awaiting = some s.sen.gathered ∧ s.beforePass.sen.pass = none ∧
      s.beforePass.sen.engine = s.sen.engine := by
  have view := s.atBoundary.engineBoundary_view.2
  have taken : s.atBoundary.sen.awaiting = some s.sen.gathered :=
    congrArg some (List.take_of_length_le h.whole.le)
  have noPass : s.atBoundary.sen.pass = none := h.noPass
  simp only [State.passView, taken, noPass, Prod.mk.injEq] at view
  exact view

/-- A step that precedes the pass is due: the pass waits. -/
theorem Quiet.due (h : Quiet s) (busy : s.beforePass.boundaryBusy = true) :
    s.beforePass.beginDuePass = s.beforePass ∧
      s.beforePass.beginDuePass.sen.awaiting = some s.sen.gathered ∧
      s.beforePass.beginDuePass.sen.pass = none := by
  obtain ⟨awaiting, noPass, _⟩ := h.before
  have same := State.beginDuePass_busy busy
  exact ⟨same, by rw [same, awaiting], by rw [same, noPass]⟩

/-- Nothing that precedes it is due: the pass begins. -/
theorem Quiet.begun (h : Quiet s) (run : s.sen.engine = .run) (ready : s.beforePass.boundaryBusy = false) :
    let t := s.beforePass.beginDuePass
    t = s.beforePass.beginPass s.sen.gathered ∧ t.sen.awaiting = none ∧
      t.sen.load = s.beforePass.passLoad ∧
      ∃ r, t.sen.pass = some r ∧ r.outs.length = s.sen.gathered.length := by
  obtain ⟨awaiting, _, engine⟩ := h.before
  have began := State.beginDuePass_run awaiting ready (engine.trans run)
  have pass := s.beforePass.beginPass_begun h.whole
  rw [began]
  exact ⟨rfl, pass⟩

end Quiet

/-- The load of a pass without tails (R15). -/
theorem State.passLoad_noTails {s : State} (noTails : s.spl.tails = []) :
    s.passLoad = s.sen.front.cost + if s.scn.phase = .fade then s.sen.back.cost else 0 := by
  simp [State.passLoad, noTails, tailsCost]

/-- Outside FADE a pass leaves the back context. -/
theorem State.beginDuePass_back {s : State} (phase : s.scn.phase ≠ .fade) :
    s.beginDuePass.sen.back = s.sen.back := by
  unfold State.beginDuePass
  split
  · rfl
  · split
    · rfl
    · split
      · simp only [State.beginPass, if_neg phase]
      · rfl

/-- In an engine state without passes a boundary's input is discarded or kept, and nothing else. -/
theorem State.beginDuePass_stopped {s : State} (engine : s.sen.engine ≠ .run) :
    s.beginDuePass.sen.front = s.sen.front ∧ s.beginDuePass.spl = s.spl := by
  unfold State.beginDuePass
  split
  · exact ⟨rfl, rfl⟩
  · split
    · exact ⟨rfl, rfl⟩
    · exact ⟨rfl, rfl⟩

/-! ### The stage of a build step (R12, R99) -/

theorem nextStage_of_entry {chain : List StageEntry} {c : Context} {e : StageEntry} (l : Lib)
    (period : Nat) (at_ : chain[c.stages.length]? = some e) :
    nextStage l period chain c = some (buildStage l period (c.granted.take e.need) e) := by
  simp [nextStage, at_]

theorem nextStage_of_done {chain : List StageEntry} {c : Context} (l : Lib) (period : Nat)
    (done : chain.length ≤ c.stages.length) : nextStage l period chain c = none := by
  simp [nextStage, List.getElem?_eq_none done]

/-- A stage built from its entry. -/
theorem buildStage_fields (l : Lib) (period : Nat) (segs : List Nat) (e : StageEntry) :
    let i := buildStage l period segs e
    i.kind = e.kind ∧ i.enabled = e.enabled ∧ i.spill = e.spill ∧ i.sync = e.sync ∧ i.cur = e.params ∧
      i.tgt = e.params ∧ i.beat = period ∧ i.segs = segs := by
  unfold buildStage
  dsimp only
  split <;> exact ⟨rfl, rfl, rfl, rfl, rfl, rfl, rfl, rfl⟩

end Sys2Proof.Machine

/-! PROOFS. The block boundary in each phase (R2, R6, R99 to R109). -/

namespace Sys2Proof.Machine

variable {s : State} {r : SwitchRec}

/-! ### The engine's part of a boundary, by phase -/

theorem State.beforePass_noSwitch (run : s.sen.engine = .run) (noSwitch : s.scn.switch = none) :
    s.beforePass = s.atBoundary := by
  simp only [State.beforePass, State.engineBoundary, State.switchBoundary,
    show s.atBoundary.sen.engine = s.sen.engine from rfl, show s.atBoundary.scn = s.scn from rfl, run, noSwitch]

theorem State.beforePass_starting (starting : s.sen.engine = .starting)
    (left : 1 ≤ s.sen.front.buildCount) : s.beforePass = s.atBoundary.buildFront := by
  simp only [State.beforePass, State.engineBoundary, show s.atBoundary.sen.engine = s.sen.engine from rfl,
    starting]
  exact if_pos left

/-- The switch's part of a boundary in RUN. -/
theorem State.beforePass_run (run : s.sen.engine = .run) : s.beforePass = s.atBoundary.switchBoundary := by
  simp only [State.beforePass, State.engineBoundary, show s.atBoundary.sen.engine = s.sen.engine from rfl, run]

theorem State.switchBoundary_prepare (switch : s.scn.switch = some r) (prepare : s.scn.phase = .prepare) :
    s.switchBoundary = s.prepareBoundary r := by
  simp [State.switchBoundary, switch, prepare]

theorem State.switchBoundary_fading (switch : s.scn.switch = some r)
    (fading : s.scn.phase = .fade ∨ s.scn.phase = .gapOut) : s.switchBoundary = s.fadeBoundary r := by
  rcases fading with phase | phase <;> simp [State.switchBoundary, switch, phase]

theorem State.switchBoundary_gapIn (switch : s.scn.switch = some r) (gapIn : s.scn.phase = .gapIn) :
    s.switchBoundary =
      State.removeReason { s with scn := s.scn.setBlocksLeft (r.blocksLeft - 1) } .switchGap := by
  simp [State.switchBoundary, switch, gapIn]

/-! ### What precedes the pass in RUN -/

/-- With a switch under way in RUN and no grant waiting, the steps that can precede the pass. -/
theorem State.boundaryBusy_switch (run : s.sen.engine = .run) (noGrant : s.spl.grant = none)
    (switch : s.scn.switch = some r) :
    s.boundaryBusy = (decide (s.scn.phase = .prepare ∧ s.sen.back.state = .building ∧
      s.sen.back.buildCount = 0) || r.commitDue || decide (s.scn.phase = .gapIn ∧ r.blocksLeft = 0)) := by
  simp [State.boundaryBusy, State.startingDue, State.grantDue, State.prepareDue, State.commitDue,
    State.gapInDue, run, noGrant, switch, Bool.and_assoc]

/-! ### PREPARE (R98 to R101) -/

/-- The selection of the commit to come, in STEADY numbers of the switch record (R68). -/
theorem State.select_switch (switch : s.scn.switch = some r) :
    s.select.scn = { s.scn with switch := some { r with selected := true } } := by
  simp [State.select, switch]

theorem Context.buildStep_counts (c : Context) (i : Option StageInst) :
    (c.buildStep i).buildCount = c.buildCount - 1 ∧ (c.buildStep i).state = c.state ∧
      (c.buildStep i).cost = c.cost := by
  unfold Context.buildStep
  split <;> exact ⟨rfl, rfl, rfl⟩

/-- A build step in PREPARE: its stage joins the back context, the blocks left count down, and the
closing block of a switch without a fade brings the selection. -/
theorem State.buildBack_afterBuild (switch : s.scn.switch = some r) (phase : s.scn.phase = .prepare) :
    let t := s.buildBack.afterBuild
    t.scn = { s.scn with switch := some { r with
        degraded := r.degraded ++ s.sen.back.buildDegraded s.nextBack
        blocksLeft := r.blocksLeft - 1
        selected := r.selected || (r.zeroFade && decide (s.sen.back.buildCount - 1 = 1)) } } ∧
    t.sen.back = s.sen.back.buildStep s.nextBack ∧ t.opu = s.opu ∧ t.spl.grant = s.spl.grant ∧
    t.sen.front.cost = s.sen.front.cost := by
  have count := (s.sen.back.buildStep_counts s.nextBack).1
  have built : s.buildBack.scn.switch = some { r with
      degraded := r.degraded ++ s.sen.back.buildDegraded s.nextBack, blocksLeft := r.blocksLeft - 1 } := by
    simp [State.buildBack, switch]
  have back : s.buildBack.sen.back = s.sen.back.buildStep s.nextBack := rfl
  have zero : ({ r with degraded := r.degraded ++ s.sen.back.buildDegraded s.nextBack
                        blocksLeft := r.blocksLeft - 1 } : SwitchRec).zeroFade = r.zeroFade := rfl
  intro t
  have closing : t = if r.zeroFade && decide (s.sen.back.buildCount - 1 = 1) then s.buildBack.select
      else s.buildBack := by
    have last : s.buildBack.lastBlock = s.buildBack.select :=
      if_neg (by rw [show s.buildBack.scn.phase = s.scn.phase from rfl, phase]; decide)
    simp only [t, State.afterBuild, built, back, count, zero, last]
  by_cases closes : (r.zeroFade && decide (s.sen.back.buildCount - 1 = 1)) = true
  · rw [closing, if_pos closes, State.select_switch built]
    simp only [closes, Bool.or_true]
    exact ⟨rfl, rfl, rfl, rfl, rfl⟩
  · have stays : (r.zeroFade && decide (s.sen.back.buildCount - 1 = 1)) = false := by simpa using closes
    rw [closing, if_neg closes]
    simp only [stays, Bool.or_false]
    exact ⟨congrArg (fun w => { s.scn with switch := w }) built, rfl, rfl, rfl, rfl⟩

theorem State.prepareBoundary_building (building : s.sen.back.state = .building)
    (noGrant : s.spl.grant = none) : s.prepareBoundary r = s.buildBack.afterBuild := by
  simp [State.prepareBoundary, building, noGrant]

theorem State.prepareBoundary_waiting {g : GrantWait} (waiting : s.spl.grant = some g) :
    s.prepareBoundary r = s.waitBoundary r := by
  simp [State.prepareBoundary, waiting]

theorem State.prepareBoundary_live (live : s.sen.back.state = .live) (noGrant : s.spl.grant = none) :
    s.prepareBoundary r = if r.budget then s.enterFade .fade r.kind r.fade else s.makeCommitDue := by
  simp [State.prepareBoundary, live, noGrant]

/-- A waiting grant whose cuts are done comes due (R54). -/
theorem State.waitBoundary_due {g : GrantWait} (waiting : s.spl.grant = some g)
    (done : ∀ x ∈ s.spl.tails, x.awaited = false) :
    s.waitBoundary r = { s with spl := { s.spl with grant := some { g with due := true } } } := by
  have mark : s.spl.markGrant = { s.spl with grant := some { g with due := true } } := by
    have none : s.spl.tails.any (·.awaited) = false := by simpa using done
    simp [Spl.markGrant, none, waiting]
  simp [State.waitBoundary, mark]

/-- A grant whose cuts are under way waits on, and a block of the wait has passed (R98). -/
theorem State.waitBoundary_waits {g : GrantWait} (waiting : s.spl.grant = some g) (notYet : g.due = false)
    (cuts : ∃ x ∈ s.spl.tails, x.awaited = true) :
    s.waitBoundary r = { s with scn := s.scn.setBlocksLeft (r.blocksLeft - 1) } := by
  have mark : s.spl.markGrant = s.spl := by
    have some_ : s.spl.tails.any (·.awaited) = true := by simpa using cuts
    simp [Spl.markGrant, some_]
  simp [State.waitBoundary, mark, waiting, notYet]

theorem Scn.setBlocksLeft_of_switch {c : Scn} (switch : c.switch = some r) (n : Nat) :
    c.setBlocksLeft n = { c with switch := some { r with blocksLeft := n } } := by
  simp [Scn.setBlocksLeft, switch]

/-- The start of FADE at the boundary after a budget block (R102). -/
theorem State.enterFade_fade (switch : s.scn.switch = some r) :
    let t := s.enterFade .fade r.kind r.fade
    t.scn = { s.scn with
      phase := .fade
      switch := some { r with
        blocksLeft := r.fade, budget := false, selected := r.selected || decide (r.fade = 1) } } ∧
    t.opu = s.opu ∧ t.spl.grant = s.spl.grant := by
  by_cases one : r.fade = 1
  · simp [State.enterFade, one, State.lastBlock, State.select, switch]
    rfl
  · simp [State.enterFade, one, switch]

/-! ### FADE, GAP_OUT and GAP_IN (R102, R107 to R109) -/

/-- The last block of a fade brings the selection and, in GAP_OUT, SWITCH_GAP (R104, R108). -/
theorem State.lastBlock_facts (switch : s.scn.switch = some r) :
    s.lastBlock.scn = { s.scn with switch := some { r with selected := true } } ∧
    s.lastBlock.opu.reasons = { s.opu.reasons with
      switchGap := s.opu.reasons.switchGap || decide (s.scn.phase = .gapOut) } ∧
    s.lastBlock.spl.grant = s.spl.grant ∧ s.lastBlock.sen.back = s.sen.back ∧
    s.lastBlock.sen.front.cost = s.sen.front.cost := by
  unfold State.lastBlock
  split
  · next gap =>
    refine ⟨s.select_switch switch, ?_, rfl, rfl, rfl⟩
    simp only [gap, decide_true, Bool.or_true]
    rfl
  · next other =>
    refine ⟨s.select_switch switch, ?_, rfl, rfl, rfl⟩
    simp only [other, decide_false, Bool.or_false]
    rfl

end Sys2Proof.Machine

/-! PROOFS. The block boundary (O16): each clause from the engine's part of the boundary in its phase and
the pass that begins or waits. -/

namespace Sys2Proof.Machine

variable {s : State}

/-- The load of the pass at a boundary without tails, from the contexts and the phase before it. -/
theorem Quiet.load (noTails : s.spl.tails = []) {front back : Nat} {phase : SwitchPhase}
    (frontCost : s.beforePass.sen.front.cost = front) (backCost : s.beforePass.sen.back.cost = back)
    (phaseThen : s.beforePass.scn.phase = phase) :
    s.beforePass.passLoad = front + if phase = .fade then back else 0 := by
  rw [State.passLoad_noTails (s := s.beforePass) (State.engineBoundary_noTails noTails), frontCost, backCost,
    phaseThen]

/-! ### What precedes the pass, in each phase -/

theorem State.starting_notBusy (steady : s.scn.phase = .steady) (noSwitch : s.scn.switch = none)
    (noGrant : s.spl.grant = none) (left : 1 ≤ s.sen.front.buildCount) : s.boundaryBusy = false := by
  simp [State.boundaryBusy, State.startingDue, State.grantDue, State.prepareDue, State.commitDue,
    State.gapInDue, steady, noSwitch, noGrant, Nat.ne_of_gt left]

/-- In STARTING the pass waits for the end of the start at the build's last boundary alone. -/
theorem State.starting_busy (starting : s.sen.engine = .starting) (steady : s.scn.phase = .steady)
    (noSwitch : s.scn.switch = none) (noGrant : s.spl.grant = none) (building : s.sen.front.state = .building)
    (left : 1 ≤ s.sen.front.buildCount) :
    s.beforePass.boundaryBusy = decide (s.sen.front.buildCount = 1) := by
  obtain ⟨count, state, _⟩ := s.sen.front.buildStep_counts s.nextFront
  have before := State.beforePass_starting starting left
  have frontThen : s.beforePass.sen.front = s.sen.front.buildStep s.nextFront := by
    rw [before]
    rfl
  have engine : s.beforePass.sen.engine = .starting := by
    rw [before]
    exact starting
  have scn : s.beforePass.scn = s.scn := by
    rw [before]
    rfl
  have grant : s.beforePass.spl.grant = none := by
    rw [before]
    exact noGrant
  have ended : s.sen.front.buildCount - 1 = 0 ↔ s.sen.front.buildCount = 1 := by omega
  simp [State.boundaryBusy, State.startingDue, State.grantDue, State.prepareDue, State.commitDue,
    State.gapInDue, frontThen, scn, grant, engine, count, state, building, steady, noSwitch, ended]

section
variable {r : SwitchRec} (run : s.sen.engine = .run) (switch : s.scn.switch = some r)
include run switch

theorem State.beforePass_building (prepare : s.scn.phase = .prepare) (building : s.sen.back.state = .building)
    (noGrant : s.spl.grant = none) : s.beforePass = s.atBoundary.buildBack.afterBuild := by
  rw [State.beforePass_run run, State.switchBoundary_prepare (s := s.atBoundary) switch prepare,
    State.prepareBoundary_building (s := s.atBoundary) building noGrant]

/-- In PREPARE the pass waits for the end of the build at its last boundary alone. -/
theorem State.building_busy (prepare : s.scn.phase = .prepare) (building : s.sen.back.state = .building)
    (noGrant : s.spl.grant = none) (notDue : r.commitDue = false) (left : 1 ≤ s.sen.back.buildCount)
    (engine : s.beforePass.sen.engine = .run) :
    s.beforePass.boundaryBusy = decide (s.sen.back.buildCount = 1) := by
  obtain ⟨scn, back, _, grant, _⟩ := State.buildBack_afterBuild (s := s.atBoundary) switch prepare
  rw [← State.beforePass_building run switch prepare building noGrant] at scn back grant
  obtain ⟨count, state, _⟩ := s.sen.back.buildStep_counts s.nextBack
  have backThen : s.beforePass.sen.back = s.sen.back.buildStep s.nextBack := back
  have ended : s.sen.back.buildCount - 1 = 0 ↔ s.sen.back.buildCount = 1 := by omega
  rw [State.boundaryBusy_switch engine (grant.trans noGrant) (congrArg Scn.switch scn)]
  simp [scn, backThen, count, state, building, notDue, ended, State.atBoundary, prepare]

/-- In PREPARE with a grant waiting nothing of the switch is due. -/
theorem State.waiting_notBusy {g : GrantWait} (prepare : s.scn.phase = .prepare) (waiting : s.spl.grant = some g)
    (notYet : g.due = false) (notDue : r.commitDue = false) : s.boundaryBusy = false := by
  simp [State.boundaryBusy, State.startingDue, State.grantDue, State.prepareDue, State.commitDue,
    State.gapInDue, run, waiting, notYet, prepare, switch, notDue]

theorem State.beforePass_waiting {g : GrantWait} (prepare : s.scn.phase = .prepare)
    (waiting : s.spl.grant = some g) : s.beforePass = s.atBoundary.waitBoundary r := by
  rw [State.beforePass_run run, State.switchBoundary_prepare (s := s.atBoundary) switch prepare,
    State.prepareBoundary_waiting (s := s.atBoundary) waiting]

theorem State.beforePass_live (prepare : s.scn.phase = .prepare) (live : s.sen.back.state = .live)
    (noGrant : s.spl.grant = none) : s.beforePass =
      if r.budget then s.atBoundary.enterFade .fade r.kind r.fade else s.atBoundary.makeCommitDue := by
  rw [State.beforePass_run run, State.switchBoundary_prepare (s := s.atBoundary) switch prepare,
    State.prepareBoundary_live (s := s.atBoundary) live noGrant]

theorem State.beforePass_fading (fading : s.scn.phase = .fade ∨ s.scn.phase = .gapOut) :
    s.beforePass = s.atBoundary.fadeBoundary r := by
  rw [State.beforePass_run run, State.switchBoundary_fading (s := s.atBoundary) switch fading]

/-- The end of a fade makes the commit due (R104, R108). -/
theorem State.beforePass_fadeEnd (fading : s.scn.phase = .fade ∨ s.scn.phase = .gapOut)
    (last : r.blocksLeft = 1) :
    s.beforePass = { s.atBoundary with
      scn := { s.scn with switch := some { r with blocksLeft := 0, commitDue := true } } } := by
  rw [State.beforePass_fading run switch fading]
  simp [State.fadeBoundary, last, State.makeCommitDue, Scn.setBlocksLeft, State.atBoundary, switch]

theorem State.beforePass_fadeLast (fading : s.scn.phase = .fade ∨ s.scn.phase = .gapOut)
    (two : r.blocksLeft = 2) :
    s.beforePass = State.lastBlock { s.atBoundary with
      scn := { s.scn with switch := some { r with blocksLeft := 1 } } } := by
  rw [State.beforePass_fading run switch fading]
  simp [State.fadeBoundary, two, Scn.setBlocksLeft, State.atBoundary, switch]

theorem State.beforePass_fadeOn (fading : s.scn.phase = .fade ∨ s.scn.phase = .gapOut)
    (many : 3 ≤ r.blocksLeft) :
    s.beforePass = { s.atBoundary with
      scn := { s.scn with switch := some { r with blocksLeft := r.blocksLeft - 1 } } } := by
  rw [State.beforePass_fading run switch fading]
  simp [State.fadeBoundary, show r.blocksLeft ≠ 1 by omega, show r.blocksLeft ≠ 2 by omega, Scn.setBlocksLeft,
    State.atBoundary, switch]

theorem State.beforePass_gapIn (gapIn : s.scn.phase = .gapIn) :
    s.beforePass = State.removeReason { s.atBoundary with
      scn := { s.scn with switch := some { r with blocksLeft := r.blocksLeft - 1 } } } .switchGap := by
  rw [State.beforePass_run run, State.switchBoundary_gapIn (s := s.atBoundary) switch gapIn,
    Scn.setBlocksLeft_of_switch (c := s.atBoundary.scn) switch]
  rfl

/-- In GAP_IN the pass waits for the end of the switch at the last block alone. -/
theorem State.gapIn_busy (gapIn : s.scn.phase = .gapIn) (noGrant : s.spl.grant = none)
    (notDue : r.commitDue = false) (left : 1 ≤ r.blocksLeft) (engine : s.beforePass.sen.engine = .run) :
    s.beforePass.boundaryBusy = decide (r.blocksLeft = 1) := by
  have before := State.beforePass_gapIn run switch gapIn
  have ended : r.blocksLeft - 1 = 0 ↔ r.blocksLeft = 1 := by omega
  rw [State.boundaryBusy_switch engine (by rw [before]; exact noGrant)
    (congrArg (fun u : State => u.scn.switch) before)]
  simp [before, gapIn, notDue, ended]

end

end Sys2Proof.Machine

namespace Sys2Proof

open Machine

/-- Settles O16. -/
theorem boundaryBeginsAPassAndADisabledChainIsTransparent :
    Obligations.BoundaryBeginsAPassAndADisabledChainIsTransparent := by
  unfold Obligations.BoundaryBeginsAPassAndADisabledChainIsTransparent
  intro quiet counted ready moved builtFrom begun due
  have countedOf : ∀ {s : State}, Quiet s → s.spl.tails = [] → counted s s.beforePass.beginDuePass := by
    intro s h noTails
    obtain ⟨c1, c2, c3, c4, c5, c6, c7, c8, c9, c10, c11, c12, c13, c14, c15⟩ := h.counted
    exact ⟨c1, c2, c3, c4, c5, c6, c7, c8, c9, c10, Quiet.counted_noTails noTails, c11, c12, c13, c14, c15⟩
  have movedOf : ∀ {s : State}, Quiet s → s.sen.engine = .run → moved s s.beforePass.beginDuePass := by
    intro s h run
    obtain ⟨c1, c2, _, c4, c5, c6, c7, c8, c9, _, _, c12, c13, c14, c15⟩ := h.counted
    exact ⟨c1, c2, c5.trans run, c4, c6, c7, c8, c9, c12, c13, c14, c15⟩
  refine ⟨?_, ?_, ?_, ?_, ?_, ?_, ?_⟩
  · rintro s ⟨free, whole, noBlock, noPass, noPending, noGrant, noTails⟩ run steady noSwitch
    have h : Quiet s := ⟨free, whole, noPass,
      State.boundaryBusy_steady (by simp [run]) steady noSwitch noGrant, .inl noPending⟩
    have before := State.beforePass_noSwitch run noSwitch
    have idle : s.atBoundary.boundaryBusy = false :=
      State.boundaryBusy_steady (show s.sen.engine ≠ .starting by simp [run]) steady noSwitch noGrant
    obtain ⟨began, waits, load, r, pass, size⟩ := h.begun run (by rw [before, idle])
    have cost := Quiet.load noTails (front := s.sen.front.cost) (back := s.sen.back.cost) (phase := .steady)
      (by rw [before]; rfl) (by rw [before]; rfl) (by rw [before]; exact steady)
    refine ⟨_, r, h.boundary, countedOf h noTails, ?_, ⟨waits, load.trans cost, r, pass, size⟩, pass, ?_⟩
    · rw [State.beginDuePass_scn, before]
      rfl
    · rw [began, before] at pass
      intro inside
      refine ⟨State.outs_disabled whole steady noTails pass inside,
        State.outs_volumes whole steady noTails pass inside, fun i a b only volume on cur tgt n x ret at_ => ?_,
        fun i sg rg mix only loop on cur tgt => ⟨fun closed => ?_, fun opened => ?_⟩⟩
      · rw [State.outs_volume whole steady noTails pass only volume on, at_]
        simp [StageInst.g, cur, tgt, glideAt, q12]
      · exact State.outs_loop whole steady noTails pass only loop on closed cur tgt
      · exact State.outs_loop_open whole steady noTails pass inside only loop opened
  · rintro s ⟨free, whole, noBlock, noPass, noPending, noGrant, noTails⟩ starting steady noSwitch building left
      wf
    have h : Quiet s := ⟨free, whole, noPass, State.starting_notBusy steady noSwitch noGrant left, .inl noPending⟩
    have before := State.beforePass_starting starting left
    have next : s.atBoundary.nextFront = s.nextFront := rfl
    obtain ⟨awaiting, noPass', engine⟩ := h.before
    have notRun : s.beforePass.sen.engine ≠ .run := by simp [engine, starting]
    obtain ⟨front, spl⟩ := State.beginDuePass_stopped notRun
    have built : s.beforePass.beginDuePass.sen.front = s.sen.front.buildStep s.nextFront := by
      rw [front, before]
      rfl
    have mem : s.beforePass.beginDuePass.spl =
        { s.spl with mem := s.sen.front.buildMem s.nextFront s.spl.mem } := by
      rw [spl, before]
      rfl
    obtain ⟨count, state, _⟩ := s.sen.front.buildStep_counts s.nextFront
    have busy := State.starting_busy starting steady noSwitch noGrant building left
    refine ⟨_, h.boundary, countedOf h noTails, ?_, by rw [built, count], by rw [built, state, building],
      fun last => ?_, fun more => ?_, ?_, ?_, fun e at_ => ?_, fun done => ?_⟩
    · rw [State.beginDuePass_scn, before]
      rfl
    · exact (h.due (by simp [busy, last])).2
    · rw [State.beginDuePass_idle awaiting (by simp [busy, more]) notRun]
      exact ⟨rfl, noPass'⟩
    · rw [State.beginDuePass_opu, before]
      rfl
    · rw [State.beginDuePass_opu, before]
      rfl
    · have stage := nextStage_of_entry s.lib s.tgn.period at_
      have fields := buildStage_fields s.lib s.tgn.period (s.sen.front.granted.take e.need) e
      rw [built, mem, State.nextFront, stage]
      exact ⟨_, rfl, fields, rfl, rfl, rfl⟩
    · have stage := nextStage_of_done s.lib s.tgn.period done
      rw [built, mem, State.nextFront, stage]
      exact ⟨rfl, rfl, fun a => memRead_clearSegments wf a _⟩
  · rintro s r ⟨free, whole, noBlock, noPass, noPending, noGrant, noTails⟩ run prepare switch notDue building
      left
    have h : Quiet s := ⟨free, whole, noPass, by
      rw [State.boundaryBusy_switch run noGrant switch]
      simp [prepare, notDue, Nat.ne_of_gt left], .inl noPending⟩
    have before := State.beforePass_building run switch prepare building noGrant
    obtain ⟨scn, back, opu, grant, frontCost⟩ := State.buildBack_afterBuild (s := s.atBoundary) switch prepare
    rw [← before] at scn back opu grant frontCost
    have next : s.atBoundary.nextBack = s.nextBack := rfl
    obtain ⟨count, state, cost⟩ := s.sen.back.buildStep_counts s.nextBack
    have backThen : s.beforePass.sen.back = s.sen.back.buildStep s.nextBack := back
    have built : s.beforePass.beginDuePass.sen.back = s.sen.back.buildStep s.nextBack := by
      rw [State.beginDuePass_back (by rw [scn, show s.atBoundary.scn = s.scn from rfl, prepare]; decide), back]
      rfl
    obtain ⟨_, _, engine⟩ := h.before
    have busy := State.building_busy run switch prepare building noGrant notDue left (engine.trans run)
    have selects : (r.zeroFade && decide (s.sen.back.buildCount - 1 = 1)) =
        (decide (r.kind = .immediate ∨ r.kind = .cut) && decide (s.sen.back.buildCount = 2)) := by
      rw [SwitchRec.zeroFade, Bool.decide_or]
      exact congrArg _ (decide_eq_decide.mpr (by omega))
    refine ⟨_, _, h.boundary, countedOf h noTails, by rw [State.beginDuePass_scn]; exact scn, ?_,
      by rw [built, count], by rw [built, state, building], fun last => ?_, fun more => ?_, ?_, ?_,
      fun e at_ => ?_, fun done => ?_⟩
    · rw [← selects]
      rfl
    · exact (h.due (by simp [busy, last])).2
    · obtain ⟨_, waits, load, pass⟩ := h.begun run (by simp [busy, more])
      refine ⟨waits, load.trans ?_, pass⟩
      exact Quiet.load noTails (phase := .prepare) frontCost rfl (by rw [scn]; exact prepare)
    · rw [State.beginDuePass_opu, opu]
      rfl
    · rw [State.beginDuePass_opu, opu]
      rfl
    · have stage := nextStage_of_entry s.lib s.tgn.period at_
      have fields := buildStage_fields s.lib s.tgn.period (s.sen.back.granted.take e.need) e
      rw [built, State.nextBack, stage]
      exact ⟨_, rfl, fields, rfl, rfl⟩
    · have stage := nextStage_of_done s.lib s.tgn.period done
      rw [built, State.nextBack, stage]
      exact ⟨rfl, rfl⟩
  · rintro s r g ⟨free, whole, noBlock, noPass, run⟩ prepare switch notDue building waiting notYet
    have notFade : s.scn.phase ≠ .fade := by simp [prepare]
    have h : Quiet s := ⟨free, whole, noPass, State.waiting_notBusy run switch prepare waiting notYet notDue,
      .inr (by simp [prepare])⟩
    have waits := State.beforePass_waiting run switch prepare waiting
    by_cases cuts : ∃ x ∈ s.spl.tails, x.awaited = true
    · have before := waits.trans (State.waitBoundary_waits (s := s.atBoundary) waiting notYet cuts)
      rw [Scn.setBlocksLeft_of_switch (c := s.atBoundary.scn) switch] at before
      have ready : s.beforePass.boundaryBusy = false := by
        rw [before]
        simp [State.boundaryBusy, State.startingDue, State.grantDue, State.prepareDue, State.commitDue,
          State.gapInDue, State.atBoundary, Sen.boundary, run, waiting, notYet, prepare, notDue]
      obtain ⟨began, noBlock', _, out, pass, _⟩ := h.begun run ready
      refine ⟨_, h.boundary, movedOf h run, ?_, ?_, ?_, fun none => ?_, fun _ => ⟨?_, ?_, ?_, noBlock', ?_⟩⟩
      · rw [State.beginDuePass_back (by rw [before]; exact notFade), before]
        rfl
      · rw [State.beginDuePass_opu, before]
        rfl
      · rw [State.beginDuePass_opu, before]
        rfl
      · obtain ⟨x, mem, awaited⟩ := cuts
        simp [none x mem] at awaited
      · rw [State.beginDuePass_scn, before]
        rfl
      · rw [began, before]
        exact waiting
      · rw [began, before]
        rfl
      · rw [pass]
        rfl
    · have done : ∀ x ∈ s.spl.tails, x.awaited = false := by simpa using cuts
      have before := waits.trans (State.waitBoundary_due (s := s.atBoundary) waiting done)
      have busy : s.beforePass.boundaryBusy = true := by
        rw [before]
        simp [State.boundaryBusy, State.grantDue]
      obtain ⟨same, block⟩ := h.due busy
      refine ⟨_, h.boundary, movedOf h run, ?_, ?_, ?_, fun _ => ⟨?_, ?_, block⟩, fun some_ => absurd some_ cuts⟩
      all_goals
        rw [same, before]
        rfl
  · rintro s r ⟨free, whole, noBlock, noPass, run⟩ prepare switch notDue live noGrant
    have h : Quiet s := ⟨free, whole, noPass, by
      rw [State.boundaryBusy_switch run noGrant switch]
      simp [prepare, live, notDue], .inr (by simp [prepare])⟩
    have goes := State.beforePass_live run switch prepare live noGrant
    refine ⟨fun noBudget => ?_, fun budget _ => ?_⟩
    · have before := goes.trans (if_neg (by simp [noBudget]))
      have scn : s.beforePass.scn = { s.scn with switch := some { r with commitDue := true } } := by
        rw [before]
        simp [State.makeCommitDue, State.atBoundary, switch]
      obtain ⟨same, block⟩ := h.due (by simp [State.boundaryBusy, State.commitDue, scn])
      refine ⟨_, h.boundary, movedOf h run, block, ?_, ?_, ?_, ?_⟩
      · rw [same, scn]
      all_goals
        rw [same, before]
        rfl
    · have before := goes.trans (if_pos budget)
      obtain ⟨scn, opu, grant⟩ := State.enterFade_fade (s := s.atBoundary) switch
      rw [← before] at scn opu grant
      obtain ⟨_, _, engine⟩ := h.before
      obtain ⟨_, noBlock', _, out, pass, _⟩ := h.begun run (by
        rw [State.boundaryBusy_switch (engine.trans run) (grant.trans noGrant) (congrArg Scn.switch scn)]
        simp [scn, notDue])
      obtain ⟨_, _, _, _, _, _, _, _, _, keeps, _⟩ := h.counted
      refine ⟨_, h.boundary, movedOf h run, noBlock', by rw [pass]; rfl, ?_, keeps, ?_⟩
      · rw [State.beginDuePass_scn, scn]
        rfl
      · rw [State.beginDuePass_opu, opu]
        rfl
  · rintro s r ⟨free, whole, noBlock, noPass, noPending, noGrant, noTails⟩ run fading switch notDue
    have notPrepare : s.scn.phase ≠ .prepare ∧ s.scn.phase ≠ .gapIn := by
      rcases fading with phase | phase <;> simp [phase]
    have h : Quiet s := ⟨free, whole, noPass, by
      rw [State.boundaryBusy_switch run noGrant switch]
      simp [notPrepare, notDue], .inl noPending⟩
    obtain ⟨_, _, engine⟩ := h.before
    refine ⟨fun last => ?_, fun two => ?_, fun many => ?_⟩
    · have before := State.beforePass_fadeEnd run switch fading last
      obtain ⟨same, block⟩ := h.due (by simp [State.boundaryBusy, State.commitDue, before])
      refine ⟨_, h.boundary, countedOf h noTails, block, ?_, ?_, ?_⟩
      · rw [same, before]
      · rw [same, before]
        rfl
      · rw [same, before]
        rfl
    · have before := State.beforePass_fadeLast run switch fading two
      obtain ⟨scn, reasons, grant, back, front⟩ := State.lastBlock_facts (s := { s.atBoundary with
        scn := { s.scn with switch := some { r with blocksLeft := 1 } } }) rfl
      rw [← before] at scn reasons grant back front
      obtain ⟨_, waits, load, pass⟩ := h.begun run (by
        rw [State.boundaryBusy_switch (engine.trans run) (grant.trans noGrant) (congrArg Scn.switch scn)]
        simp [scn, notPrepare, notDue])
      refine ⟨_, h.boundary, countedOf h noTails, ⟨waits, load.trans ?_, pass⟩, ?_, ?_⟩
      · exact Quiet.load noTails (phase := s.scn.phase) front (congrArg Context.cost back) (by rw [scn])
      · rw [State.beginDuePass_scn, scn]
      · rw [State.beginDuePass_opu, reasons]
        rfl
    · have before := State.beforePass_fadeOn run switch fading many
      obtain ⟨_, waits, load, pass⟩ := h.begun run (by
        rw [State.boundaryBusy_switch (engine.trans run) (by rw [before]; exact noGrant)
          (congrArg (fun u : State => u.scn.switch) before)]
        simp [before, notPrepare, notDue])
      refine ⟨_, h.boundary, countedOf h noTails, ⟨waits, load.trans ?_, pass⟩, ?_, ?_, ?_⟩
      · exact Quiet.load noTails (by rw [before]; rfl) (by rw [before]; rfl) (by rw [before])
      · rw [State.beginDuePass_scn, before]
      · rw [State.beginDuePass_opu, before]
        rfl
      · rw [State.beginDuePass_opu, before]
        rfl
  · rintro s r ⟨free, whole, noBlock, noPass, noPending, noGrant, noTails⟩ run gapIn switch notDue left
    have h : Quiet s := ⟨free, whole, noPass, by
      rw [State.boundaryBusy_switch run noGrant switch]
      simp [gapIn, notDue, Nat.ne_of_gt left], .inl noPending⟩
    have before := State.beforePass_gapIn run switch gapIn
    obtain ⟨_, _, engine⟩ := h.before
    have busy := State.gapIn_busy run switch gapIn noGrant notDue left (engine.trans run)
    refine ⟨_, h.boundary, countedOf h noTails, ?_, ?_, fun last => ?_, fun more => ?_⟩
    · rw [State.beginDuePass_scn, before]
      rfl
    · rw [State.beginDuePass_opu, before]
      rfl
    · exact (h.due (by simp [busy, last])).2
    · obtain ⟨_, waits, load, pass⟩ := h.begun run (by simp [busy, more])
      refine ⟨waits, load.trans ?_, pass⟩
      exact Quiet.load noTails (phase := .gapIn) (by rw [before]; rfl) rfl (by rw [before]; exact gapIn)

end Sys2Proof

/-! PROOFS. Notices, answers and the reclaim (R54, R55, R195): what changes nothing but notice queues, and
which tails a reclaim cuts. -/

namespace Sys2Proof.Machine

/-! ### States that differ by notices alone (R195) -/

/-- The second state is the first with notices raised. -/
def OnlyNotices (s t : State) : Prop := t = { s with pif := t.pif } ∧ t.pif.quiet = s.pif.quiet

theorem OnlyNotices.refl (s : State) : OnlyNotices s s := ⟨rfl, rfl⟩

theorem OnlyNotices.raise (s : State) (n : Notice) : OnlyNotices s (s.raise n) :=
  ⟨rfl, Pif.raise_quiet _ _⟩

theorem OnlyNotices.trans {s t u : State} (first : OnlyNotices s t) (second : OnlyNotices t u) :
    OnlyNotices s u := by
  refine ⟨?_, second.2.trans first.2⟩
  have eq := second.1
  rw [first.1] at eq
  exact eq

/-- A change that does not look at the ports keeps notices apart. -/
theorem OnlyNotices.map {s t : State} (h : OnlyNotices s t) {f : State → State}
    (blind : ∀ (u : State) (g : Pif), f { u with pif := g } = { f u with pif := g }) :
    OnlyNotices (f s) (f t) := by
  have ft : f t = { f s with pif := t.pif } := by rw [← blind s t.pif, ← h.1]
  have self : f s = { f s with pif := s.pif } := blind s s.pif
  have fs := congrArg State.pif self
  refine ⟨?_, ?_⟩
  · rw [ft]
  · rw [ft, fs]
    exact h.2

/-- An answer stands out against notices: what is quiet before it is quiet after it. -/
theorem Pif.quiet_port (f : Pif) (p : Port) :
    f.quiet.port p = { f.port p with notices := [], lost := false } := by cases p <;> rfl

theorem Pif.quiet_setPort (f : Pif) (p : Port) (x : PortState) :
    (f.setPort p x).quiet = f.quiet.setPort p { x with notices := [], lost := false } := by
  cases p <;> rfl

theorem PortState.fill_quiet (ps : PortState) (e : Nat) (st : Status) (f : Fields) :
    { ps.fill e st f with notices := [], lost := false } =
      ({ ps with notices := [], lost := false } : PortState).fill e st f := by
  unfold PortState.fill
  dsimp only
  split <;> rfl

/-- The answer to a ticket depends on what is quiet alone. -/
theorem State.answer_quiet {s t : State} (same : t.pif.quiet = s.pif.quiet) (k : Ticket) (st : Status)
    (f : Fields) : (t.answer k st f).pif.quiet = (s.answer k st f).pif.quiet := by
  simp only [State.answer, Pif.quiet_setPort, PortState.fill_quiet, ← Pif.quiet_port, same]

/-- An answer after notices is the answer, and notices. -/
theorem OnlyNotices.answer {s t : State} (h : OnlyNotices s t) (k : Ticket) (st : Status) (f : Fields) :
    OnlyNotices (s.answer k st f) (t.answer k st f) := by
  refine ⟨?_, State.answer_quiet h.2 k st f⟩
  unfold State.answer
  rw [h.1]

/-! ### The take of a request leaves the other replies (R192) -/

/-- A reserved entry stays reserved when another request is taken. -/
theorem Takes.entry {s : State} {p : Port} {tag : Byte} {q : Request} {e : Nat}
    (h : Takes s p tag q e) {t : Ticket} {tag' : Byte} {kind' : Nat}
    (reserved : s.pif.entry t = some (.reserved tag' kind')) :
    (s.taken p tag q.code e).pif.entry t = some (.reserved tag' kind') := by
  obtain ⟨_, _, _, free⟩ := h
  have empty := PortState.freeEntry_free free
  have at_ : (s.pif.port t.port).replies[t.entry]? = some (.reserved tag' kind') := reserved
  by_cases port : t.port = p
  · subst port
    have apart : e ≠ t.entry := fun same => by
      rw [same, State.port, at_] at empty
      simp at empty
    simp only [State.taken, State.setPort, Pif.entry, Pif.port_setPort, PortState.takenInto,
      List.getElem?_set_ne apart]
    exact at_
  · simp only [State.taken, State.setPort, Pif.entry, Pif.port_setPort_ne _ _ port]
    exact at_

/-! ### The reclaim (R55) -/

/-- The RUNNING tails of a list. -/
def runningTails (ts : List Tail) : List Tail := ts.filter fun x => decide (x.state = .running)

theorem runningTails_cons_of_running {t : Tail} (running : t.state = .running) (ts : List Tail) :
    runningTails (t :: ts) = t :: runningTails ts := by simp [runningTails, running]

theorem runningTails_cons_of_not {t : Tail} (not : t.state ≠ .running) (ts : List Tail) :
    runningTails (t :: ts) = runningTails ts := by simp [runningTails, not]

/-- What a reclaim makes of a tail, where the segments available before it are known. -/
def reclaimed (demand avail : Nat) (x : Tail) : Tail :=
  if x.state = .running ∧ avail < demand then
    { x with state := .cutting, cutRan := false, awaited := true }
  else { x with awaited := decide (x.state = .cutting) }

theorem reclaimed_congr {demand a b : Nat} {x : Tail} (same : a < demand ↔ b < demand) :
    reclaimed demand a x = reclaimed demand b x := by simp only [reclaimed, same]

theorem tailSegs_cons (t : Tail) (ts : List Tail) : tailSegs (t :: ts) = t.inst.segs ++ tailSegs ts := rfl

theorem reclaim_length (demand : Nat) : ∀ (ts : List Tail) (avail : Nat),
    (reclaim demand avail ts).length = ts.length
  | [], _ => rfl
  | t :: ts, avail => by
    unfold reclaim
    split <;> exact congrArg (· + 1) (reclaim_length demand ts _)

/-- Each RUNNING tail is cut while what is free, what was being cut and what the RUNNING tails before it
hold stay below the demand. -/
theorem reclaim_getElem? (demand : Nat) : ∀ (ts : List Tail) (avail n : Nat) {x : Tail},
    ts[n]? = some x → (reclaim demand avail ts)[n]? =
      some (reclaimed demand (avail + (tailSegs (runningTails (ts.take n))).length) x)
  | [], _, _, _, at_ => by simp at at_
  | t :: ts, avail, 0, x, at_ => by
    obtain rfl : t = x := by simpa using at_
    by_cases cut : t.state = .running ∧ avail < demand
    · simp [reclaim, reclaimed, cut, tailSegs, runningTails, Tail.cutNow]
    · simp [reclaim, reclaimed, cut, tailSegs, runningTails]
  | t :: ts, avail, n + 1, x, at_ => by
    have after : ts[n]? = some x := by simpa using at_
    rw [List.take_succ_cons]
    by_cases running : t.state = .running
    · rw [runningTails_cons_of_running running, tailSegs_cons, List.length_append, ← Nat.add_assoc]
      by_cases short : avail < demand
      · rw [reclaim, if_pos ⟨running, short⟩, List.getElem?_cons_succ]
        exact reclaim_getElem? demand ts _ n after
      · rw [reclaim, if_neg fun h => short h.2, List.getElem?_cons_succ,
          reclaim_getElem? demand ts avail n after]
        exact congrArg some (reclaimed_congr (by omega))
    · rw [reclaim, if_neg fun h => running h.1, List.getElem?_cons_succ, runningTails_cons_of_not running]
      exact reclaim_getElem? demand ts avail n after

/-- The first RUNNING tails are cut, as many as cover the demand where the RUNNING tails can, and no more
than it must. -/
theorem reclaim_oldest (demand : Nat) : ∀ (ts : List Tail) (avail : Nat),
    ∃ k, k ≤ (runningTails ts).length ∧
      (runningTails (reclaim demand avail ts)).map (·.inst) = ((runningTails ts).drop k).map (·.inst) ∧
      (∀ j, j < k → avail + (tailSegs ((runningTails ts).take j)).length < demand) ∧
      (demand ≤ avail + (tailSegs (runningTails ts)).length →
        demand ≤ avail + (tailSegs ((runningTails ts).take k)).length) ∧
      (demand ≤ avail → k = 0)
  | [], avail => ⟨0, by simp [runningTails, reclaim]⟩
  | t :: ts, avail => by
    by_cases running : t.state = .running
    · rw [runningTails_cons_of_running running]
      by_cases short : avail < demand
      · obtain ⟨k, few, left, below, covers, _⟩ := reclaim_oldest demand ts (avail + t.inst.segs.length)
        have cut : (t.cutNow.state) ≠ .running := by simp [Tail.cutNow, running]
        refine ⟨k + 1, by simpa using few, ?_, fun j less => ?_, fun enough => ?_, fun enough => by omega⟩
        · rw [reclaim, if_pos ⟨running, short⟩, runningTails_cons_of_not (by exact cut)]
          exact left
        · cases j with
          | zero => simpa [tailSegs] using short
          | succ j =>
            have := below j (by omega)
            rw [List.take_succ_cons, tailSegs_cons, List.length_append]
            omega
        · rw [tailSegs_cons, List.length_append, ← Nat.add_assoc] at enough
          rw [List.take_succ_cons, tailSegs_cons, List.length_append, ← Nat.add_assoc]
          exact covers enough
      · obtain ⟨k, _, left, _, _, none⟩ := reclaim_oldest demand ts avail
        have zero := none (by omega)
        subst zero
        refine ⟨0, Nat.zero_le _, ?_, by simp, fun _ => by omega, fun _ => rfl⟩
        rw [reclaim, if_neg fun h => short h.2, runningTails_cons_of_running (by exact running)]
        exact congrArg (t.inst :: ·) left
    · rw [runningTails_cons_of_not running, reclaim, if_neg fun h => running h.1,
        runningTails_cons_of_not (by exact running)]
      exact reclaim_oldest demand ts avail

end Sys2Proof.Machine

/-! PROOFS. The take of a recall (R93 to R98, R106) and the grant of its back context (R54). -/

namespace Sys2Proof.Machine

variable {s : State}

/-! ### The switch that begins (R94, R98) -/

/-- The record of a switch that begins, before its grant is asked for. -/
def newSwitch (silent : Bool) (t : Ticket) (slot : Nat) (rec_ : Preset) (fade : Nat) : SwitchRec :=
  { ticket := t, slot := slot, fade := (switchKind silent fade).2, kind := (switchKind silent fade).1
    blocksLeft := 0, degraded := [], tempo := rec_.tempo, budget := false, selected := false
    commitDue := false }

/-- The back context of a switch that begins, before its grant. -/
def newBack (g : Word16) (rec_ : Preset) : Context :=
  { Context.emptied with state := .building, generation := g, cost := chainCost rec_.chain }

/-- The scene of a switch that begins, with the blocks left of its record. -/
def Scn.begins (c : Scn) (w : SwitchRec) (rec_ : Preset) (blocks : Nat) : Scn :=
  { c with
    generation := nextGeneration c.generation, live := rec_, phase := .prepare
    switch := some { w with blocksLeft := blocks } }

/-- The part as a switch begins, before its grant is asked for. -/
def State.begins (s : State) (t : Ticket) (slot : Nat) (rec_ : Preset) (fade : Nat) : State :=
  { s with
    scn := s.scn.begins (newSwitch s.opu.reasons.tunerSilent t slot rec_ fade) rec_ 0
    sen := { s.sen with back := newBack (nextGeneration s.scn.generation) rec_ } }

theorem State.beginSwitch_notices (s : State) (t : Ticket) (slot : Nat) (rec_ : Preset) (fade : Nat) :
    OnlyNotices (s.begins t slot rec_ fade).requestGrant (s.beginSwitch t slot rec_ fade) :=
  .raise _ _

/-- With enough segments free the grant is made at once, the lowest numbers first. -/
theorem State.begins_granted {t : Ticket} {slot : Nat} {rec_ : Preset} {fade : Nat}
    (enough : chainDemand rec_.chain ≤ s.spl.free.length) :
    (s.begins t slot rec_ fade).requestGrant =
      (let w := newSwitch s.opu.reasons.tunerSilent t slot rec_ fade
       { s with
         scn := s.scn.begins w rec_ (w.prepareBlocks (buildLength rec_.chain))
         sen := { s.sen with
           back := Context.granting (newBack (nextGeneration s.scn.generation) rec_)
             (chainDemand rec_.chain) (buildLength rec_.chain) s.spl.free }
         spl := { s.spl with grant := none, free := s.spl.free.drop (chainDemand rec_.chain) } }) :=
  if_pos enough

/-- The tails when a grant of m segments waits. -/
def Spl.reclaiming (p : Spl) (m : Nat) : List Tail :=
  reclaim m (p.free.length + cuttingSegments p.tails) p.tails

/-- With too few segments free the grant waits on a reclaim. -/
theorem State.begins_waiting {t : Ticket} {slot : Nat} {rec_ : Preset} {fade : Nat}
    (few : s.spl.free.length < chainDemand rec_.chain) :
    (s.begins t slot rec_ fade).requestGrant =
      (let w := newSwitch s.opu.reasons.tunerSilent t slot rec_ fade
       let m := chainDemand rec_.chain
       { s with
         scn := s.scn.begins w rec_ (waitBlocks (s.spl.reclaiming m) (buildLength rec_.chain))
         sen := { s.sen with back := newBack (nextGeneration s.scn.generation) rec_ }
         spl := { s.spl with
           tails := s.spl.reclaiming m, grant := some { demand := m, due := false } } }) :=
  if_neg (Nat.not_le.mpr few)

/-! ### The take (R94) -/

/-- The latch word after the toggle of a recall (R94, step 3). -/
def toggled (latch : Word16) (r : RecallReq) : Word16 :=
  match r.cond with
  | none => latch
  | some c => if c.toggle then latch ^^^ (1#16 <<< c.bit.toNat) else latch

/-- The part with a latch word. -/
def State.latched (s : State) (w : Word16) : State := { s with scn := { s.scn with latch := w } }

theorem State.setLatch_notices (s : State) (w : Word16) (p : Port) :
    OnlyNotices (s.latched w) (s.setLatch w p) := by
  unfold State.setLatch
  split
  · next same => rw [same]; exact .refl s
  · exact .raise _ _

theorem State.toggleAfter_notices (s : State) (r : RecallReq) (p : Port) :
    OnlyNotices (s.latched (toggled s.scn.latch r)) (s.toggleAfter r p) := by
  unfold State.toggleAfter toggled
  cases r.cond with
  | none => exact .refl s
  | some c =>
    dsimp only
    split
    · exact s.setLatch_notices _ p
    · exact .refl s

theorem State.begins_blind (t : Ticket) (slot : Nat) (rec_ : Preset) (fade : Nat) (u : State) (g : Pif) :
    (State.begins { u with pif := g } t slot rec_ fade).requestGrant =
      { (u.begins t slot rec_ fade).requestGrant with pif := g } := by
  by_cases enough : chainDemand rec_.chain ≤ u.spl.free.length
  · rw [State.begins_granted (s := u) enough, State.begins_granted (s := { u with pif := g }) enough]
  · have few := Nat.lt_of_not_le enough
    rw [State.begins_waiting (s := u) few, State.begins_waiting (s := { u with pif := g }) few]

/-- The part as a recall is taken outside a switch, up to notices. -/
theorem State.takeRecall_notices {t : Ticket} {r : RecallReq} {rec_ : Preset}
    (found : s.scn.library.getD (recallChosen r s.scn.latch) none = some rec_)
    (noSwitch : s.scn.switch = none) :
    OnlyNotices ((s.latched (toggled s.scn.latch r)).begins t (recallChosen r s.scn.latch) rec_
      (resolveFade r rec_ s.scn.defaultFade)).requestGrant (s.takeRecall t r) := by
  have toggles := s.toggleAfter_notices r t.port
  have noSwitch' : (s.toggleAfter r t.port).scn.switch = none := by
    rw [toggles.1]
    exact noSwitch
  have keeps : (s.toggleAfter r t.port).supersede t.port = s.toggleAfter r t.port := by
    simp only [State.supersede, noSwitch']
  simp only [State.takeRecall, found, keeps]
  exact (OnlyNotices.map toggles (f := fun u => (State.begins u t _ rec_ _).requestGrant)
    (State.begins_blind _ _ _ _)).trans (State.beginSwitch_notices _ _ _ _ _)

theorem State.takeRecall_empty {t : Ticket} {r : RecallReq}
    (none_ : s.scn.library.getD (recallChosen r s.scn.latch) none = none) :
    s.takeRecall t r =
      s.answer t .empty (.recallEmpty (recallChosen r s.scn.latch) (recallChoosesB r s.scn.latch)) := by
  simp only [State.takeRecall, none_]

/-- The slot that a recall chooses, as its condition reads (R94, step 1). -/
theorem recallChosen_eq (r : RecallReq) (latch : Word16) :
    recallChosen r latch = match r.cond with
      | none => r.presetA.toNat
      | some c =>
        if latch.getLsbD c.bit.toNat = decide (c.polarity = 1) then r.presetA.toNat
        else c.presetB.toNat := by
  unfold recallChosen recallChoosesB
  cases r.cond with
  | none => rfl
  | some c => simp

theorem recallChoosesB_eq (r : RecallReq) (latch : Word16) :
    recallChoosesB r latch =
      r.cond.any fun c => latch.getLsbD c.bit.toNat != decide (c.polarity = 1) := by
  unfold recallChoosesB
  cases r.cond with
  | none => rfl
  | some c => simp [bne, Bool.beq_eq_decide_eq]

/-- A recall in STEADY is taken at once. -/
theorem ownRecall_steady {r : RecallReq} (t : Ticket) (inRange : recallInRange r = true)
    (run : s.sen.engine = .run) (steady : s.scn.phase = .steady)
    (noPending : s.scn.pendingRecall = none) : ownRecall r t s = s.takeRecall t r := by
  simp only [ownRecall, if_pos inRange, if_pos run, State.pendingTake_of_none noPending, State.arrive]
  exact if_pos (by simp [Scn.takesAtOnce, steady])

theorem resolveFade_eq (r : RecallReq) (rec_ : Preset) (d : Nat) :
    resolveFade r rec_ d = match r.fade, rec_.fade with
      | some f, _ => f.toNat
      | none, some f => f
      | none, none => d := by
  unfold resolveFade
  cases r.fade <;> cases rec_.fade <;> rfl

theorem switchKind_eq (silent : Bool) (fade : Nat) :
    switchKind silent fade =
      (if silent then .cut else if fade = 0 then .immediate else .faded, if silent then 0 else fade) := by
  unfold switchKind
  cases silent with
  | true => rfl
  | false => by_cases zero : fade = 0 <;> simp [zero]

theorem newSwitch_zeroFade (silent : Bool) (t : Ticket) (slot : Nat) (rec_ : Preset) (fade : Nat) :
    (newSwitch silent t slot rec_ fade).zeroFade = decide (silent = true ∨ fade = 0) := by
  unfold newSwitch SwitchRec.zeroFade switchKind
  cases silent with
  | true => rfl
  | false => by_cases zero : fade = 0 <;> simp [zero]

/-- The record of a switch that begins, field by field (R94, R98). -/
theorem newSwitch_eq (silent : Bool) (t : Ticket) (slot : Nat) (rec_ : Preset) (fade blocks : Nat) :
    { newSwitch silent t slot rec_ fade with blocksLeft := blocks } = {
      ticket := t, slot := slot, fade := if silent then 0 else fade
      kind := if silent then .cut else if fade = 0 then .immediate else .faded
      blocksLeft := blocks, degraded := [], tempo := rec_.tempo
      budget := false, selected := false, commitDue := false } := by
  simp only [newSwitch, switchKind_eq]

theorem newSwitch_prepareBlocks (silent : Bool) (t : Ticket) (slot : Nat) (rec_ : Preset)
    (fade n : Nat) : (newSwitch silent t slot rec_ fade).prepareBlocks n =
      if n = 1 ∧ (silent = true ∨ fade = 0) then 2 else n := by
  simp only [SwitchRec.prepareBlocks, newSwitch_zeroFade, Bool.and_eq_true, decide_eq_true_eq, and_comm]

/-- The scene of a switch that begins with its grant made (R94, R98). -/
theorem Scn.begins_granted (c : Scn) (silent : Bool) (t : Ticket) (slot : Nat) (rec_ : Preset)
    (fade : Nat) :
    let w := newSwitch silent t slot rec_ fade
    c.begins w rec_ (w.prepareBlocks (buildLength rec_.chain)) =
      { c with
        generation := nextGeneration c.generation, live := rec_, phase := .prepare
        switch := some {
          ticket := t, slot := slot, fade := if silent then 0 else fade
          kind := if silent then .cut else if fade = 0 then .immediate else .faded
          blocksLeft :=
            if buildLength rec_.chain = 1 ∧ (silent = true ∨ fade = 0) then 2
            else buildLength rec_.chain
          degraded := [], tempo := rec_.tempo
          budget := false, selected := false, commitDue := false } } := by
  dsimp only
  rw [newSwitch_prepareBlocks]
  unfold Scn.begins
  rw [newSwitch_eq]

theorem Scn.begins_eq (c : Scn) (silent : Bool) (t : Ticket) (slot : Nat) (rec_ : Preset)
    (fade blocks : Nat) :
    c.begins (newSwitch silent t slot rec_ fade) rec_ blocks =
      { c with
        generation := nextGeneration c.generation, live := rec_, phase := .prepare
        switch := some {
          ticket := t, slot := slot, fade := if silent then 0 else fade
          kind := if silent then .cut else if fade = 0 then .immediate else .faded
          blocksLeft := blocks, degraded := [], tempo := rec_.tempo
          budget := false, selected := false, commitDue := false } } := by
  unfold Scn.begins
  rw [newSwitch_eq]

end Sys2Proof.Machine

namespace Sys2Proof

open Machine

/-- Settles O26. -/
theorem recallIsTakenInSteady : Obligations.RecallIsTakenInSteady := by
  intro s p tag e r slot takes inRange run steady noSwitch noPending chosen
  obtain rfl : slot = recallChosen r s.scn.latch := chosen.trans (recallChosen_eq r s.scn.latch).symm
  have ran : exec (.recall p tag r) s = .next ((s.taken p tag 1 e).takeRecall ⟨p, e⟩ r) :=
    (exec_taken takes).trans
      (congrArg _ (ownRecall_steady (s := s.taken p tag 1 e) ⟨p, e⟩ inRange run steady noPending))
  refine ⟨fun none_ => ?_, fun rec_ found => ?_⟩
  · rw [ran, State.takeRecall_empty (s := s.taken p tag 1 e) none_]
    exact congrArg _ ((takes.answer _ _).trans (by rw [← recallChoosesB_eq]; rfl))
  · intro m n avail g asked silent
    obtain ⟨eq, quiet⟩ :=
      State.takeRecall_notices (s := s.taken p tag 1 e) (t := ⟨p, e⟩) (r := r) found noSwitch
    have fade : resolveFade r rec_ (s.taken p tag 1 e).scn.defaultFade = asked := resolveFade_eq ..
    refine ⟨_, ran, ?_⟩
    rw [fade] at eq quiet
    by_cases enough : m ≤ s.spl.free.length
    · have notFew := Nat.not_lt.mpr enough
      rw [State.begins_granted (by exact enough)] at eq quiet
      rw [eq]
      refine ⟨rfl, ?_, fun _ => ⟨rfl, rfl⟩, fun few => absurd few notFew, rfl, rfl, rfl, rfl, rfl, rfl,
        quiet⟩
      rw [if_neg notFew]
      exact Scn.begins_granted ..
    · have few := Nat.lt_of_not_le enough
      rw [State.begins_waiting (by exact few)] at eq quiet
      rw [eq]
      refine ⟨rfl, ?_, fun enough' => absurd enough' enough,
        fun _ => ⟨rfl, rfl, reclaim_length _ _ _, fun k x at_ => reclaim_getElem? _ _ _ _ at_⟩,
        rfl, rfl, rfl, rfl, rfl, rfl, quiet⟩
      rw [if_pos few]
      exact Scn.begins_eq ..

end Sys2Proof

/-! PROOFS. A recall by the phase it meets (R93, R95, R96) and the grant after a reclaim (R54, R98). -/

namespace Sys2Proof.Machine

variable {s : State}

/-- A recall that is not taken at once is left pending. -/
theorem ownRecall_later {r : RecallReq} (t : Ticket) (inRange : recallInRange r = true)
    (run : s.sen.engine = .run) (phase : s.scn.phase ≠ .steady) (later : s.scn.takesAtOnce = false) :
    ownRecall r t s = s.leavePending t r := by
  simp only [ownRecall, if_pos inRange, if_pos run, State.pendingTake_of_phase phase, State.arrive, later,
    Bool.false_eq_true, if_false]

theorem Scn.takesAtOnce_later {c : Scn}
    (h : c.phase = .fade ∨ c.phase = .gapOut ∨ c.phase = .gapIn ∨
      (c.phase = .prepare ∧ ∃ w, c.switch = some w ∧ w.selected = true)) :
    c.takesAtOnce = false ∧ c.phase ≠ .steady := by
  unfold Scn.takesAtOnce
  rcases h with phase | phase | phase | ⟨phase, w, switch, selected⟩
  · simp [phase]
  · simp [phase]
  · simp [phase]
  · simp [phase, switch, selected]

/-- A recall without a condition supersedes the switch under way, before its selection. -/
theorem ownRecall_supersedes {r : RecallReq} {w : SwitchRec} {rec_ : Preset} (t : Ticket)
    (inRange : recallInRange r = true) (run : s.sen.engine = .run) (phase : s.scn.phase = .prepare)
    (switch : s.scn.switch = some w) (before : w.selected = false) (plain : r.cond = none)
    (found : s.scn.library.getD r.presetA.toNat none = some rec_) :
    ownRecall r t s =
      (s.emptyBack.answer w.ticket .superseded (.superseded (some s.scn.generation) t.port)).beginSwitch
        t r.presetA.toNat rec_ (resolveFade r rec_ s.scn.defaultFade) := by
  have chosen : recallChosen r s.scn.latch = r.presetA.toNat := by simp [recallChosen, plain]
  have takes : s.scn.takesAtOnce = true := by simp [Scn.takesAtOnce, phase, switch, before]
  have pending : s.pendingTake = s := State.pendingTake_of_phase (by simp [phase])
  simp only [ownRecall, if_pos inRange, if_pos run, pending, State.arrive, takes, if_true,
    State.takeRecall, chosen, found, State.toggleAfter, plain, State.supersede, switch]

/-- No segment is lost as a switch begins with the back context empty. -/
theorem State.begins_heldSegs (t : Ticket) (slot : Nat) (rec_ : Preset) (fade : Nat)
    (noBack : s.sen.back.segs = []) :
    ((s.begins t slot rec_ fade).requestGrant).heldSegs.Perm s.heldSegs := by
  by_cases enough : chainDemand rec_.chain ≤ s.spl.free.length
  · rw [State.begins_granted enough]
    rw [List.perm_iff_count]
    intro x
    have split := congrArg (List.count x) (List.take_append_drop (chainDemand rec_.chain) s.spl.free)
    have none_ := congrArg (List.count x) noBack
    simp only [State.heldSegs, List.count_append, List.count_nil, newBack, Context.granting,
      Context.segs, Context.emptied, List.flatMap_nil] at split none_ ⊢
    omega
  · rw [State.begins_waiting (Nat.lt_of_not_le enough)]
    simp only [State.heldSegs, Spl.reclaiming, tailSegs_reclaim, noBack]
    exact .refl _

/-- Emptying the back context loses no segment. -/
theorem State.emptyBack_heldSegs (s : State) : s.emptyBack.heldSegs.Perm s.heldSegs := by
  have freed := putSegments_perm s.sen.back.segs s.spl.free
  rw [List.perm_iff_count] at freed ⊢
  intro x
  have freed := freed x
  have none_ : s.sen.back.clear.segs = [] := rfl
  simp only [State.heldSegs, State.emptyBack, none_, List.count_append, List.count_nil] at freed ⊢
  omega

/-- What a switch that begins keeps, whether its grant is made or waits. -/
theorem State.begins_fields (s : State) (t : Ticket) (slot : Nat) (rec_ : Preset) (fade : Nat) :
    let u := (s.begins t slot rec_ fade).requestGrant
    u.sen.front = s.sen.front ∧ u.pif = s.pif ∧ ∃ n, u.scn =
      s.scn.begins (newSwitch s.opu.reasons.tunerSilent t slot rec_ fade) rec_ n := by
  by_cases enough : chainDemand rec_.chain ≤ s.spl.free.length
  · rw [State.begins_granted enough]
    exact ⟨rfl, rfl, _, rfl⟩
  · rw [State.begins_waiting (Nat.lt_of_not_le enough)]
    exact ⟨rfl, rfl, _, rfl⟩

/-- Notices leave the replies. -/
theorem OnlyNotices.entry {s t : State} (h : OnlyNotices s t) (k : Ticket) :
    t.pif.entry k = s.pif.entry k := by
  have same := congrArg (fun f => Pif.entry f k) h.2
  simpa only [Pif.entry, Pif.quiet_port] using same

/-! ### The grant at its boundary (R54) -/

/-- A pass loses no segment. -/
theorem State.beginDuePass_heldSegs (s : State) : s.beginDuePass.heldSegs = s.heldSegs := by
  have run : ∀ (o : Bool) (rs : List Int) (g : Option (List Int)) (is : List StageInst)
      (mem : List (Nat × Int)) (xs : List Int),
      (runChain s.lib o rs g is mem xs).stages.flatMap (·.segs) = is.flatMap (·.segs) :=
    fun o rs g is mem xs => chainSegs_runChain s.lib o rs g is mem xs
  unfold State.beginDuePass
  split
  · rfl
  · split
    · rfl
    · split
      · simp only [State.heldSegs, State.beginPass, Context.segs, run, tailSegs_runTails]
        split
        · rw [run]
        · rfl
      · rfl

theorem State.beginDuePass_grant (s : State) : s.beginDuePass.spl.grant = s.spl.grant := by
  unfold State.beginDuePass
  split
  · rfl
  · split
    · rfl
    · split <;> rfl

/-- The selection loses no segment. -/
theorem State.lastBlock_heldSegs (s : State) : s.lastBlock.heldSegs = s.heldSegs := by
  have held := chainSegs_cutHolds
  unfold chainSegs at held
  have select : s.select.heldSegs = s.heldSegs := by
    simp only [State.heldSegs, State.select, State.selectFor, Context.segs, held, tailSegs_cutOldest]
  unfold State.lastBlock
  split <;> exact select

theorem State.afterBuild_heldSegs (s : State) : s.afterBuild.heldSegs = s.heldSegs := by
  unfold State.afterBuild
  split
  · split
    · exact s.lastBlock_heldSegs
    · rfl
  · rfl

/-- A build step loses no segment when it builds a stage of the next granted ones. -/
theorem State.buildBack_heldSegs {i : StageInst} (next : s.nextBack = some i)
    (segs : i.segs = s.sen.back.granted.take i.segs.length) : s.buildBack.heldSegs = s.heldSegs := by
  have split := List.take_append_drop i.segs.length s.sen.back.granted
  rw [← segs] at split
  simp only [State.heldSegs, State.buildBack, next, Context.buildStep, Context.segs, List.flatMap_append,
    List.flatMap_cons, List.flatMap_nil, List.append_nil, List.append_assoc]
  rw [← List.append_assoc i.segs, split]

/-- The grant of the back context loses no segment when nothing is granted yet. -/
theorem State.grantBack_heldSegs (nothing : s.sen.back.granted = []) :
    s.grantBack.heldSegs.Perm s.heldSegs := by
  rw [List.perm_iff_count]
  intro x
  have split := congrArg (List.count x)
    (List.take_append_drop (chainDemand s.scn.live.chain) s.spl.free)
  simp only [State.heldSegs, State.grantBack, Context.granting, Context.segs, nothing, List.append_nil,
    List.count_append] at split ⊢
  omega

end Sys2Proof.Machine

namespace Sys2Proof

open Machine

/-- Settles O27. -/
theorem recallByPhase : Obligations.RecallByPhase := by
  intro s p tag e r takes
  refine ⟨fun outside => ?_, fun inRange stopped => ?_, fun inRange run phase => ?_, ?_⟩
  · refine (exec_taken takes).trans (congrArg _ (Eq.trans ?_ (takes.answer .invalid .none)))
    exact if_neg (by simp [outside])
  · refine (exec_taken takes).trans (congrArg _ (Eq.trans ?_ (takes.answer .stopped .none)))
    exact (if_pos inRange).trans (if_neg stopped)
  · obtain ⟨later, unsteady⟩ := Scn.takesAtOnce_later phase
    have ran : exec (.recall p tag r) s = .next ((s.taken p tag 1 e).leavePending ⟨p, e⟩ r) :=
      (exec_taken takes).trans
        (congrArg _ (ownRecall_later (s := s.taken p tag 1 e) ⟨p, e⟩ inRange run unsteady later))
    refine ⟨_, ran, ?_, fun noPending => ?_, fun q tag' kind' pending reserved => ?_⟩
    · unfold State.leavePending
      split <;> rfl
    · simp only [State.leavePending, show (s.taken p tag 1 e).scn.pendingRecall = none from noPending]
    · simp only [State.leavePending, show (s.taken p tag 1 e).scn.pendingRecall = some q from pending]
      exact ⟨rfl, State.answer_entry _ _ (takes.entry reserved)⟩
  · intro w rec_ tag' kind' inRange run phase switch before plain found reserved
    have ran := (exec_taken takes).trans (congrArg _
      (ownRecall_supersedes (s := s.taken p tag 1 e) ⟨p, e⟩ inRange run phase switch before plain found))
    let u := (s.taken p tag 1 e).emptyBack.answer w.ticket .superseded
      (.superseded (some s.scn.generation) p)
    let fade := resolveFade r rec_ s.scn.defaultFade
    have entry := State.answer_entry (s := (s.taken p tag 1 e).emptyBack) .superseded
      (.superseded (some s.scn.generation) p) (takes.entry reserved)
    have notices := u.beginSwitch_notices ⟨p, e⟩ r.presetA.toNat rec_ fade
    obtain ⟨front, pif, n, scn⟩ := u.begins_fields ⟨p, e⟩ r.presetA.toNat rec_ fade
    have held := u.begins_heldSegs ⟨p, e⟩ r.presetA.toNat rec_ fade rfl
    have scn' : (u.beginSwitch ⟨p, e⟩ r.presetA.toNat rec_ fade).scn =
        s.scn.begins (newSwitch s.opu.reasons.tunerSilent ⟨p, e⟩ r.presetA.toNat rec_ fade) rec_ n := by
      rw [notices.1]
      exact scn
    refine ⟨u.beginSwitch ⟨p, e⟩ r.presetA.toNat rec_ fade,
      { newSwitch s.opu.reasons.tunerSilent ⟨p, e⟩ r.presetA.toNat rec_ fade with blocksLeft := n },
      ran, ?_⟩
    rw [scn']
    refine ⟨rfl, rfl, rfl, rfl, rfl, rfl, rfl, rfl, ?_, ?_, ?_⟩
    · refine (notices.entry w.ticket).trans (Eq.trans ?_ entry)
      rw [pif]
    · rw [notices.1]
      exact front
    · rw [notices.1]
      exact held.trans (s.taken p tag 1 e).emptyBack_heldSegs

/-- Settles O28. -/
theorem grantAfterReclaim : Obligations.GrantAfterReclaim := by
  refine ⟨fun m avail ts => ⟨reclaim_length m ts avail, fun n x at_ => reclaim_getElem? m ts avail n at_,
    reclaim_oldest m ts avail⟩, ?_, ?_⟩
  · intro s r e es d free grant switch phase building noStages nothing chain enough n
    have due : s.grantDue = true := by simp [State.grantDue, grant]
    have ran : exec .grantAfterReclaim s = .next s.grantBack.buildBack.afterBuild.beginDuePass :=
      (next_unlessReset free _).trans (congrArg _ (if_pos due))
    have fits : e.need ≤ chainDemand s.scn.live.chain := by
      rw [chain]
      exact Nat.le_add_right _ _
    have granted : s.grantBack.sen.back.granted.take e.need = s.spl.free.take e.need := by
      simp [State.grantBack, Context.granting, List.take_take, Nat.min_eq_left fits]
    have long : (s.spl.free.take e.need).length = e.need := by
      rw [List.length_take, Nat.min_eq_left (fits.trans enough)]
    have next : s.grantBack.nextBack = some (buildStage s.lib s.tgn.period (s.spl.free.take e.need) e) := by
      rw [← granted]
      refine nextStage_of_entry _ _ ?_
      simp [State.grantBack, Context.granting, noStages, chain]
    generalize built : buildStage s.lib s.tgn.period (s.spl.free.take e.need) e = i at next
    obtain ⟨kind, -, -, -, -, -, -, segs⟩ : i.kind = e.kind ∧ _ := built ▸ buildStage_fields ..
    have counted : s.grantBack.scn.switch = some { r with blocksLeft := r.prepareBlocks n } := by
      simp [State.grantBack, switch, n, buildLength, ceilDiv]
    obtain ⟨scn, back, opu, noGrant, -⟩ :=
      State.buildBack_afterBuild (s := s.grantBack) counted (show s.grantBack.scn.phase = _ from phase)
    have stages : s.grantBack.sen.back.stages = [] := noStages
    have held := State.buildBack_heldSegs next (by rw [segs, long, granted])
    have view := (State.beginDuePass_view _).trans s.grantBack.buildBack.afterBuild_view.1
    simp only [State.boundaryView, Prod.mk.injEq] at view
    obtain ⟨-, -, -, -, -, -, -, -, -, -, pif, -, tgn, lnk, pending⟩ := view
    have grown : s.grantBack.sen.back.buildStep (some i) = { s.grantBack.sen.back with
        stages := [i], granted := s.grantBack.sen.back.granted.drop i.segs.length, buildCount := n - 1 } := by
      simp only [Context.buildStep, stages, List.nil_append]
      rfl
    rw [next, grown] at back
    have left := congrArg Scn.switch ((State.beginDuePass_scn _).trans scn)
    have notFade : s.grantBack.buildBack.afterBuild.scn.phase ≠ .fade := by
      rw [scn]
      exact ne_of_eq_of_ne phase (by decide)
    refine ⟨_, i, _, ran, ?_, ?_, kind, segs, segs ▸ long, ?_, left, ?_, ?_, pif, ?_, lnk, tgn, pending⟩
    · rw [State.beginDuePass_grant, noGrant]
      rfl
    · rw [State.beginDuePass_back notFade, back]
    · rw [State.beginDuePass_back notFade, back]
    · simp [SwitchRec.prepareBlocks, SwitchRec.zeroFade, and_comm]
    · rw [State.beginDuePass_heldSegs, State.afterBuild_heldSegs, held]
      exact s.grantBack_heldSegs nothing
    · rw [State.beginDuePass_opu, opu]
      rfl
  · intro s notDue
    refine next_unlessReset_same (if_neg ?_)
    unfold State.grantDue
    cases grant : s.spl.grant with
    | none => simp
    | some g => simp [notDue g grant]

end Sys2Proof

/-! PROOFS. The end of PREPARE, the commit and the end of a switch (R99 to R109). -/

namespace Sys2Proof.Machine

variable {s : State} {r : SwitchRec}

/-! ### The budget check (R100) -/

/-- The budget check cuts no more of the oldest than it must. -/
theorem overBudget_spec {contexts : Nat} (fits : contexts ≤ 1600) (cs : List Nat) :
    contexts + (cs.drop (overBudget contexts cs)).sum ≤ 1600 ∧
      ∀ j, j < overBudget contexts cs → 1600 < contexts + (cs.drop j).sum := by
  induction cs with
  | nil => simpa [overBudget] using fits
  | cons c cs ih =>
    by_cases exceeds : budget < contexts + (c :: cs).sum
    · rw [overBudget, if_pos exceeds]
      refine ⟨ih.1, fun j less => ?_⟩
      cases j with
      | zero => exact exceeds
      | succ j => exact ih.2 j (by omega)
    · rw [overBudget, if_neg exceeds]
      exact ⟨Nat.le_of_not_lt exceeds, fun j less => absurd less (Nat.not_lt_zero j)⟩

theorem cutOldest_inst : ∀ (n : Nat) (ts : List Tail), (cutOldest n ts).map (·.inst) = ts.map (·.inst)
  | 0, _ => by simp [cutOldest]
  | _ + 1, [] => rfl
  | n + 1, t :: ts => by
    unfold cutOldest
    split
    · next running => simpa [Tail.cutNow, running] using cutOldest_inst n ts
    · exact congrArg (t.inst :: ·) (cutOldest_inst (n + 1) ts)

/-- The entry to FADE or GAP_OUT with the switch record known. -/
theorem State.enterFade_switch (switch : s.scn.switch = some r) (phase : SwitchPhase) (kind : SwitchKind)
    (fade : Nat) : s.enterFade phase kind fade =
      (let v := { s with scn := { s.scn with
         phase := phase, switch := some { r with kind := kind, blocksLeft := fade, budget := false } } }
       if fade = 1 then v.lastBlock else v) := by
  simp only [State.enterFade, switch, Option.map_some]

/-- The part with the back context LIVE. -/
def State.backLive (s : State) : State :=
  { s with sen := { s.sen with back := { s.sen.back with state := .live } } }

theorem State.endOfPrepare_due (due : s.prepareDue = true) (switch : s.scn.switch = some r) :
    s.endOfPrepare =
      (if r.zeroFade then s.backLive.zeroFadeEnd r else s.backLive.budgetCheck r).beginDuePass := by
  simp only [State.endOfPrepare, due, if_true, switch]
  rfl

/-! ### The commit (R13, R63, R105) -/

theorem numbered_eq_zipIdx {α : Type} : ∀ (n : Nat) (xs : List α),
    numbered n xs = (xs.zipIdx n).map Prod.swap
  | _, [] => rfl
  | n, x :: xs => congrArg ((n, x) :: ·) (numbered_eq_zipIdx (n + 1) xs)

/-- The admitted stages of a chain as tails, in chain order. -/
theorem admitted_eq (drain life : Nat) (gen : Word16) (is : List StageInst) :
    (admittedStages is).map (admission drain life gen) =
      (is.zipIdx.filter fun x => x.1.kind.mayHold && decide (x.1.spill = .hold) && !x.1.cut).map
        fun x => {
          inst := { x.1 with enabled := true, cut := false }
          cost := x.1.kind.cost
          originGen := gen
          originIdx := x.2
          state := .running
          drainReload := drain
          drain := drain
          life := 3000 * life
          cutRan := false
          awaited := false } := by
  rw [admittedStages, numbered_eq_zipIdx, List.filter_map, List.map_map]
  rfl

/-- The open LOOP stages of the front context, in chain order. -/
theorem State.openLoops_eq (s : State) : s.openLoops =
    if s.loopOpen then
      (s.sen.front.stages.zipIdx.filter fun x => decide (x.1.kind = .loop) && x.1.enabled).map
        fun x => { index := x.2, cause := .loopOpen }
    else [] := by
  unfold State.openLoops
  rw [numbered_eq_zipIdx, List.filter_map, List.map_map]
  rfl

theorem tailSegs_append (xs ys : List Tail) : tailSegs (xs ++ ys) = tailSegs xs ++ tailSegs ys :=
  List.flatMap_append

/-- The exchange of the contexts loses no segment. -/
theorem State.exchange_heldSegs (s : State) : s.exchange.heldSegs.Perm s.heldSegs := by
  have parts := Pooled.exchange_perm s.sen.front
  have freed := putSegments_perm
    ((s.sen.front.stages.filter fun i => !i.admitted).flatMap (·.segs) ++ s.sen.front.granted) s.spl.free
  have none_ : s.sen.front.clear.segs = [] := rfl
  rw [List.perm_iff_count] at parts freed ⊢
  intro x
  have partsX := parts x
  have freedX := freed x
  simp only [State.heldSegs, State.exchange, tailSegs_append, Pooled.admitted_segs, none_, List.count_append,
    List.count_nil] at partsX freedX ⊢
  omega

theorem State.noticeWrite_notices (s : State) (before : Nat) (w : TempoWriter) (p : Option Port) :
    OnlyNotices s (s.noticeWrite before w p) := by
  unfold State.noticeWrite
  split
  · exact .refl s
  · exact .raise s _

/-- A preset tempo and its notice (R130). -/
theorem State.presetTempo_notices (s : State) (p : Option Port) (tempo : Option Nat) :
    OnlyNotices { s with tgn := match tempo with
      | none => s.tgn
      | some b =>
        if s.tgn.source = .pulse then s.tgn
        else if s.tgn.source = .tap then { s.tgn with period := b, tapStamp := none, taps := [] }
        else { s.tgn with period := b } } (s.presetTempo p tempo) := by
  unfold State.presetTempo
  cases tempo with
  | none => exact .refl s
  | some b =>
    dsimp only
    by_cases pulse : s.tgn.source = .pulse
    · simp only [pulse, if_true]
      exact .refl s
    · simp only [pulse, if_false]
      exact State.noticeWrite_notices { s with tgn := { s.tgn with period := b }.emptyTapsInTap } _ _ _

/-- The scene after a commit, field by field (R105, R106). -/
theorem Scn.committed_eq (c : Scn) (r : SwitchRec) : c.committed r = { c with
    dirty := false
    origin := some r.slot
    phase := if r.kind = .gapped then .gapIn else .steady
    switch := if r.kind = .gapped then
        some { r with blocksLeft := r.fade, selected := false, commitDue := false }
      else none } := by
  unfold Scn.committed
  split <;> rfl

/-- The part with its contexts exchanged and its scene, tempo and level as the commit leaves them. -/
def State.committed (s : State) (r : SwitchRec) : State :=
  { s.exchange with
    scn := s.scn.committed r
    lnk := s.lnk.handLevel s.scn.live.level
    tgn := match r.tempo with
      | none => s.tgn
      | some b =>
        if s.tgn.source = .pulse then s.tgn
        else if s.tgn.source = .tap then { s.tgn with period := b, tapStamp := none, taps := [] }
        else { s.tgn with period := b } }

theorem OnlyNotices.answerCommit {s t : State} (h : OnlyNotices s t) (r : SwitchRec) :
    OnlyNotices (s.answerCommit r) (t.answerCommit r) := by
  have loops : t.openLoops = s.openLoops := by
    rw [h.1]
    rfl
  have scn : t.scn = s.scn := by rw [h.1]
  unfold State.answerCommit
  rw [loops, scn]
  exact h.answer _ _ _

/-- The commit up to the pass it begins, and its notices: what it leaves, and its answer. -/
theorem State.commit_due (switch : s.scn.switch = some r) (due : r.commitDue = true) :
    ∃ v : State, s.commit = v.beginDuePass ∧
      OnlyNotices ((s.committed r).answerCommit r) v := by
  have tempo := State.presetTempo_notices { s.exchange with scn := s.scn.committed r } (some r.ticket.port)
    r.tempo
  have level := tempo.map (f := State.handLevel) fun u g => rfl
  have live : (s.scn.committed r).live = s.scn.live := by rw [Scn.committed_eq]
  have base : State.handLevel { ({ s.exchange with scn := s.scn.committed r } : State) with
      tgn := (s.committed r).tgn } = s.committed r := by
    unfold State.handLevel State.committed
    rw [live]
    rfl
  have before : OnlyNotices (s.committed r) _ := (congrArg (OnlyNotices · _) base).mp level
  have answers := before.answerCommit r
  let u := ((State.presetTempo { s.exchange with scn := s.scn.committed r } (some r.ticket.port)
    r.tempo).handLevel).answerCommit r
  refine ⟨u.raise (u.scn.notice .commit (some r.ticket.port) (some r.slot) (some r.kind) none), ?_,
    answers.trans (.raise _ _)⟩
  simp only [State.commit, switch, due, if_true]
  rfl

/-- The part as its pending recall is taken. -/
def State.pendingTaken (s : State) : State := { s with scn := { s.scn with pendingRecall := none } }

theorem State.pendingTake_steady {q : PendingRecall} (pending : s.scn.pendingRecall = some q)
    (steady : s.scn.phase = .steady) :
    s.pendingTake = s.pendingTaken.takeRecall q.ticket q.req := by
  simp only [State.pendingTake, pending]
  exact if_pos steady

theorem SwitchRec.prepareBlocks_eq (r : SwitchRec) (n : Nat) : r.prepareBlocks n =
    if n = 1 ∧ (r.kind = .immediate ∨ r.kind = .cut) then 2 else n := by
  simp [SwitchRec.prepareBlocks, SwitchRec.zeroFade, and_comm]

end Sys2Proof.Machine

namespace Sys2Proof

open Machine

/-- Settles O29. -/
theorem endOfPrepareChecksTheBudget : Obligations.EndOfPrepareChecksTheBudget := by
  intro s r free phase switch building built noGrant contexts tails u
  have due : s.prepareDue = true := by simp [State.prepareDue, phase, building, built, noGrant]
  have ran : exec .endOfPrepare s = .next
      (if r.zeroFade then s.backLive.zeroFadeEnd r else s.backLive.budgetCheck r).beginDuePass :=
    (next_unlessReset free _).trans (congrArg _ (State.endOfPrepare_due due switch))
  have switch' : s.backLive.scn.switch = some r := switch
  have faded : r.kind = .faded → r.zeroFade = false := fun kind => by simp [SwitchRec.zeroFade, kind]
  have zero : (r.kind = .immediate ∨ r.kind = .cut) → r.zeroFade = true :=
    fun kind => by simpa [SwitchRec.zeroFade] using kind
  refine ⟨fun kind exceeds => ?_, fun kind fits => ?_, fun kind fits exceeds => ?_, fun kind selected => ?_,
    fun kind before => ?_⟩
  · rw [ran, faded kind, if_neg Bool.false_ne_true]
    refine congrArg (Host.Outcome.next ∘ State.beginDuePass) ?_
    exact (if_pos exceeds).trans (State.enterFade_switch switch' ..)
  · rw [ran, faded kind, if_neg Bool.false_ne_true]
    refine congrArg (Host.Outcome.next ∘ State.beginDuePass) ?_
    have within : ¬ budget < contexts := by
      have : contexts ≤ 1600 := (Nat.le_add_right _ _).trans fits
      exact Nat.not_lt.mpr this
    exact (if_neg within).trans ((if_pos fits).trans (State.enterFade_switch switch' ..))
  · rw [faded kind, if_neg Bool.false_ne_true] at ran
    have checked : s.backLive.budgetCheck r = _ :=
      (if_neg (Nat.not_lt.mpr fits)).trans (if_neg (Nat.not_le.mpr exceeds))
    rw [checked] at ran
    have costs := runningCosts_cutOldest (overBudget contexts (runningCosts s.spl.tails)) s.spl.tails
    obtain ⟨enough, least⟩ := overBudget_spec fits (runningCosts s.spl.tails)
    refine ⟨_, ran, rfl, rfl, rfl, cutOldest_inst _ _, ?_, _, costs, least⟩
    exact (congrArg (fun cs => contexts + List.sum cs) costs).trans_le enough
  · rw [ran, zero kind, if_pos rfl]
    refine congrArg (Host.Outcome.next ∘ State.beginDuePass) ?_
    rw [State.zeroFadeEnd, if_pos selected]
    simp only [State.makeCommitDue, switch', Option.map_some]
    rfl
  · rw [ran, zero kind, if_pos rfl]
    refine congrArg (Host.Outcome.next ∘ State.beginDuePass) ?_
    rw [State.zeroFadeEnd, if_neg (by simp [before]), Scn.setBlocksLeft_of_switch switch']
    rfl

/-- Settles O30. -/
theorem commitExchangesTheContexts : Obligations.CommitExchangesTheContexts := by
  intro s r tag kind free switch due reserved
  obtain ⟨v, commits, eq, quiet⟩ := State.commit_due switch due
  have ran : exec .commit s = .next v.beginDuePass := (next_unlessReset free _).trans (congrArg _ commits)
  refine ⟨v, ran, ?_⟩
  rw [eq]
  refine ⟨rfl, rfl, rfl, rfl, ?_, s.exchange_heldSegs, Scn.committed_eq .., rfl, rfl, ?_, rfl, rfl, rfl,
    rfl⟩
  · rw [← admitted_eq]
    rfl
  · intro ds
    refine quiet.trans ?_
    have scn : (s.committed r).scn.live = s.scn.live ∧
        (s.committed r).scn.generation = s.scn.generation := by
      unfold State.committed
      rw [Scn.committed_eq]
      exact ⟨rfl, rfl⟩
    have secondary : (s.committed r).loopOpen = s.loopOpen := by
      simp only [State.loopOpen, State.committed, Lnk.handLevel]
      split <;> rfl
    have loops : r.degraded ++ (s.committed r).openLoops = ds := by
      rw [State.openLoops_eq, secondary]
      rfl
    have status : doneOrDegraded ds = if ds = [] then .done else .degraded := by
      simp only [doneOrDegraded, List.isEmpty_iff]
    simp only [State.answerCommit, loops, scn, status]
    rfl

/-- Settles O31. -/
theorem switchEndTakesThePendingRecall : Obligations.SwitchEndTakesThePendingRecall := by
  refine ⟨fun s r free phase switch done => ?_, fun s q slot free phase noSwitch pending chosen => ?_,
    fun s idle => ?_⟩
  · have due : s.gapInDue = true := by simp [State.gapInDue, phase, switch, done]
    refine ⟨_, (next_unlessReset free _).trans (congrArg _ (if_pos due)), ?_⟩
    exact OnlyNotices.raise _ _
  · obtain rfl : slot = recallChosen q.req s.scn.latch :=
      chosen.trans (recallChosen_eq q.req s.scn.latch).symm
    have ran : exec .pendingRecallTake s = .next (s.pendingTaken.takeRecall q.ticket q.req) :=
      (next_unlessReset free _).trans (congrArg _ (State.pendingTake_steady pending phase))
    refine ⟨fun none_ => ?_, fun rec_ found => ?_⟩
    · rw [ran, State.takeRecall_empty (s := s.pendingTaken) none_]
      refine congrArg _ ?_
      rw [← recallChoosesB_eq]
      rfl
    · intro m n
      obtain ⟨eq, quiet⟩ :=
        State.takeRecall_notices (s := s.pendingTaken) (t := q.ticket) (r := q.req) found noSwitch
      generalize resolveFade q.req rec_ s.pendingTaken.scn.defaultFade = asked at eq quiet
      let w := newSwitch s.opu.reasons.tunerSilent q.ticket (recallChosen q.req s.scn.latch) rec_ asked
      by_cases enough : m ≤ s.spl.free.length
      · have notFew := Nat.not_lt.mpr enough
        rw [State.begins_granted (by exact enough)] at eq quiet
        refine ⟨_, { w with blocksLeft := w.prepareBlocks n }, ran, ?_⟩
        rw [eq]
        refine ⟨rfl, rfl, rfl, rfl, rfl, rfl, rfl, rfl, rfl, rfl, rfl, rfl, quiet, ?_,
          fun _ => ⟨rfl, rfl, rfl, rfl⟩, fun few => absurd few notFew⟩
        rw [if_neg notFew]
        simp only [SwitchRec.prepareBlocks_eq]
      · have few := Nat.lt_of_not_le enough
        rw [State.begins_waiting (by exact few)] at eq quiet
        refine ⟨_, { w with blocksLeft := waitBlocks (s.spl.reclaiming m) n }, ran, ?_⟩
        rw [eq]
        refine ⟨rfl, rfl, rfl, rfl, rfl, rfl, rfl, rfl, rfl, rfl, rfl, rfl, quiet, ?_,
          fun enough' => absurd enough' enough, fun _ => ⟨rfl, rfl, rfl, rfl⟩⟩
        exact (if_pos few).symm
  · refine next_unlessReset_same ?_
    rcases idle with phase | none_
    · exact State.pendingTake_of_phase phase
    · exact State.pendingTake_of_none none_

end Sys2Proof

/-! PROOFS. EDIT, BYPASS-STAGE and LATCH (R91, R92, R110 to R112). -/

namespace Sys2Proof.Machine

variable {s : State}

/-! ### The checks of an edit (R110) -/

theorem Scn.stale_of_ne {c : Scn} {g : Int} (ne : g ≠ c.generation.toNat) : c.stale (some g) = true := by
  simp [Scn.stale, ne]

theorem Scn.stale_of_matches {c : Scn} {expected : Option Int}
    (current : expected = none ∨ expected = some (c.generation.toNat : Int)) :
    c.stale expected = false := by
  rcases current with rfl | rfl <;> simp [Scn.stale]

theorem Scn.entryAt_absent {c : Scn} {stage : Int}
    (absent : stage < 0 ∨ (c.live.chain.length : Int) ≤ stage) : c.entryAt stage = none := by
  unfold Scn.entryAt
  split
  · rfl
  · next notNegative => exact List.getElem?_eq_none (by omega)

theorem Scn.entryAt_present {c : Scn} {stage : Int} {e : StageEntry} (notNegative : 0 ≤ stage)
    (at_ : c.live.chain[stage.toNat]? = some e) : c.entryAt stage = some e := by
  rw [Scn.entryAt, if_neg (by omega), at_]

/-! ### What an edit writes (R87, R110, R111) -/

/-- The stage engine with the stage that an edit reaches changed (R111). -/
def State.senEdited (s : State) (n : Nat) (f : StageInst → StageInst) : Sen :=
  if s.sen.engine = .starting ∨
      (s.sen.engine = .run ∧ (s.scn.phase = .steady ∨ s.scn.phase = .gapIn)) then
    { s.sen with front := { s.sen.front with stages := s.sen.front.stages.modify n f } }
  else if s.sen.engine = .run then
    { s.sen with back := { s.sen.back with stages := s.sen.back.stages.modify n f } }
  else s.sen

theorem State.editInst_eq (s : State) (n : Nat) (f : StageInst → StageInst) :
    s.editInst n f = { s with sen := s.senEdited n f } := by
  unfold State.editInst State.editReach State.senEdited
  cases engine : s.sen.engine with
  | stopped => simp
  | starting => simp [Context.modifyStage]
  | fault => simp
  | run => cases phase : s.scn.phase <;> simp [Context.modifyStage]

/-- The scene with an entry of its record changed and the dirty flag set (R87, R110). -/
def Scn.edited (c : Scn) (n : Nat) (e : StageEntry) : Scn :=
  { c with dirty := true, live := { c.live with chain := c.live.chain.set n e } }

/-- The part as an edit leaves it, up to notices and the answer. -/
def State.edited (s : State) (n : Nat) (e : StageEntry) (f : StageInst → StageInst) : State :=
  { s with scn := s.scn.edited n e, sen := s.senEdited n f }

theorem State.setDirty_notices (s : State) (p : Port) :
    OnlyNotices { s with scn := { s.scn with dirty := true } } (s.setDirty p) := by
  unfold State.setDirty
  split
  · next dirty =>
    have same : { s with scn := { s.scn with dirty := true } } = s := by rw [← dirty]
    rw [same]
    exact .refl s
  · exact .raise _ _

theorem State.setDirty_of_dirty (dirty : s.scn.dirty = true) (p : Port) : s.setDirty p = s := if_pos dirty

theorem modify_of_getElem? {α : Type} {xs : List α} {n : Nat} {x : α} (at_ : xs[n]? = some x)
    (f : α → α) : xs.modify n f = xs.set n (f x) := by
  rw [List.modify_eq_set_getElem?, at_]
  rfl

/-- An edit of an entry and of the stage it reaches marks the scene record (R87). -/
theorem State.edits_notices {n : Nat} {e : StageEntry} (at_ : s.scn.live.chain[n]? = some e)
    (f : StageEntry → StageEntry) (g : StageInst → StageInst) (p : Port) :
    OnlyNotices (s.edited n (f e) g) (((s.editEntry n f).editInst n g).setDirty p) := by
  have edits := State.setDirty_notices ((s.editEntry n f).editInst n g) p
  rw [State.editInst_eq] at edits ⊢
  simp only [State.editEntry, modify_of_getElem? at_] at edits ⊢
  exact edits

theorem State.edits_dirty {n : Nat} (dirty : s.scn.dirty = true) (f : StageEntry → StageEntry)
    (g : StageInst → StageInst) (p : Port) :
    (((s.editEntry n f).editInst n g).setDirty p).pif = s.pif := by
  rw [State.setDirty_of_dirty (by rw [State.editInst_eq]; exact dirty), State.editInst_eq]
  rfl

/-! ### The value of an EDIT (R25) -/

theorem clampTo_eq {lo hi v : Int} (ordered : lo ≤ hi) : clampTo lo hi v = max lo (min hi v) := by
  unfold clampTo
  split
  · omega
  · split <;> omega

theorem editValue_none {k : StageKind} {id v : Int}
    (h : id < 0 ∨ k.range id.toNat = none ∨ (k = .delay ∧ id = 0)) : editValue k id v = none := by
  unfold editValue
  split
  · rfl
  · next notNegative =>
    rcases h with negative | lacks | reach
    · exact absurd negative notNegative
    · rw [lacks]
    · cases k.range id.toNat with
      | none => rfl
      | some r => exact if_pos reach

theorem editValue_modType {k : StageKind} {v : Int} (mod : k = .mod) (ne0 : v ≠ 0) (ne1 : v ≠ 1) :
    editValue k 0 v = none := by
  subst mod
  simp [editValue, ne0, ne1, StageKind.range]

theorem editValue_some {k : StageKind} {id v lo hi : Int} (notNegative : 0 ≤ id)
    (range : k.range id.toNat = some (lo, hi)) (noReach : ¬(k = .delay ∧ id = 0))
    (modType : k = .mod ∧ id = 0 → v = 0 ∨ v = 1) :
    editValue k id v = some (max lo (min hi v), decide (max lo (min hi v) ≠ v)) := by
  have noType : ¬(k = .mod ∧ id = 0 ∧ v ≠ 0 ∧ v ≠ 1) := fun h => by
    have := modType ⟨h.1, h.2.1⟩
    omega
  simp only [editValue, if_neg (not_lt.mpr notNegative), range, if_neg noReach, if_neg noType,
    clampTo_eq (range_le range)]

/-- An EDIT of a stage present whose value is judged INVALID. -/
theorem ownEdit_refused {r : EditReq} {e : StageEntry} (t : Ticket)
    (current : r.expected = none ∨ r.expected = some (s.scn.generation.toNat : Int))
    (notNegative : 0 ≤ r.stage) (at_ : s.scn.live.chain[r.stage.toNat]? = some e)
    (refused : editValue e.kind r.param r.value = none) : ownEdit r t s = s.answer t .invalid .none := by
  simp only [ownEdit, Scn.stale_of_matches current, Bool.false_eq_true, if_false,
    Scn.entryAt_present notNegative at_, refused]

/-- The status of a taken EDIT of an entry (R51, R61). -/
def State.editedStatus (s : State) (e : StageEntry) (n id : Nat) (v : Int) (clamped : Bool) : Status :=
  editStatus (editDegrades s.lib e (s.instAt n) id v) clamped

/-- An EDIT whose value is taken: what it writes, and its answer. -/
theorem ownEdit_taken {r : EditReq} {e : StageEntry} {v : Int} {clamped : Bool} (t : Ticket)
    (current : r.expected = none ∨ r.expected = some (s.scn.generation.toNat : Int))
    (notNegative : 0 ≤ r.stage) (at_ : s.scn.live.chain[r.stage.toNat]? = some e)
    (judged : editValue e.kind r.param r.value = some (v, clamped)) :
    let n := r.stage.toNat
    let id := r.param.toNat
    let st := s.editedStatus e n id v clamped
    let fields := Fields.edited s.scn.generation n id v
    OnlyNotices ((s.edited n { e with params := e.params.set id v } (·.setParam id v)).answer t st fields)
      (ownEdit r t s) ∧
    (s.scn.dirty = true → (ownEdit r t s).pif = (s.answer t st fields).pif) := by
  intro n id st fields
  let write : StageEntry → StageEntry := fun e => { e with params := e.params.set id v }
  have own : ownEdit r t s = (((s.editEntry n write).editInst n (·.setParam id v)).setDirty t.port).answer t
      st fields := by
    simp only [ownEdit, Scn.stale_of_matches current, Bool.false_eq_true, if_false,
      Scn.entryAt_present notNegative at_, judged]
    rfl
  rw [own]
  refine ⟨(State.edits_notices at_ write (·.setParam id v) t.port).answer t st fields, fun dirty => ?_⟩
  simp only [State.answer, State.edits_dirty dirty]

theorem State.editedStatus_plain {e : StageEntry} {n id : Nat} {v : Int} {clamped : Bool}
    (drive : e.kind = .drive → id ≠ 2) (cab : e.kind = .cab → id ≠ 0)
    (delay : e.kind = .delay → id ≠ 1) :
    s.editedStatus e n id v clamped = doneOrClamped clamped := by
  have plain : editDegrades s.lib e (s.instAt n) id v = false := by
    unfold editDegrades
    split
    · next is => exact absurd rfl (drive is)
    · next is => exact absurd rfl (cab is)
    · next is => exact absurd rfl (delay is)
    · rfl
  rw [State.editedStatus, plain]
  rfl

theorem State.editedStatus_drive {e : StageEntry} {n : Nat} {v : Int} {clamped : Bool}
    (drive : e.kind = .drive) (unloaded : s.lib.curve v.toNat = none) :
    s.editedStatus e n 2 v clamped = .degraded := by
  simp [State.editedStatus, editDegrades, drive, unloaded, editStatus]

theorem State.editedStatus_cab {e : StageEntry} {n : Nat} {v : Int} {clamped : Bool}
    (cab : e.kind = .cab) (unloaded : s.lib.impulse v.toNat = none) :
    s.editedStatus e n 0 v clamped = .degraded := by
  simp [State.editedStatus, editDegrades, cab, unloaded, editStatus]

theorem ownBypassStage_absent {r : BypassReq} {t : Ticket}
    (current : r.expected = none ∨ r.expected = some (s.scn.generation.toNat : Int))
    (absent : r.stage < 0 ∨ (s.scn.live.chain.length : Int) ≤ r.stage) :
    ownBypassStage r t s = s.answer t .stageAbsent .none := by
  simp only [ownBypassStage, Scn.stale_of_matches current, Bool.false_eq_true, if_false,
    Scn.entryAt_absent absent]

/-- A BYPASS-STAGE that is taken: what it writes, and its answer (R112). -/
theorem ownBypassStage_taken {r : BypassReq} {e : StageEntry} (t : Ticket)
    (current : r.expected = none ∨ r.expected = some (s.scn.generation.toNat : Int))
    (notNegative : 0 ≤ r.stage) (at_ : s.scn.live.chain[r.stage.toNat]? = some e) :
    let n := r.stage.toNat
    OnlyNotices ((s.edited n { e with enabled := r.enabled } fun i => { i with enabled := r.enabled }).answer
      t .done (.bypassed s.scn.generation n r.enabled)) (ownBypassStage r t s) := by
  intro n
  let write : StageEntry → StageEntry := fun e => { e with enabled := r.enabled }
  have own : ownBypassStage r t s = (((s.editEntry n write).editInst n
      fun i => { i with enabled := r.enabled }).setDirty t.port).answer t .done
        (.bypassed s.scn.generation n r.enabled) := by
    simp only [ownBypassStage, Scn.stale_of_matches current, Bool.false_eq_true, if_false,
      Scn.entryAt_present notNegative at_]
    rfl
  rw [own]
  exact (State.edits_notices at_ write _ t.port).answer t _ _

/-! ### The latch word and the aux valid mark (R91, R92, R185) -/

theorem State.setAuxValid_notices (s : State) (b : Bool) :
    OnlyNotices { s with lnk := { s.lnk with auxValid := b } } (s.setAuxValid b) := by
  unfold State.setAuxValid
  split
  · next same =>
    rw [← same]
    exact .refl s
  · exact .raise _ _

theorem State.setLatch_same {w : Word16} (same : w = s.scn.latch) (p : Port) : s.setLatch w p = s :=
  if_pos same

theorem State.setLatch_moved {w : Word16} (moved : w ≠ s.scn.latch) (p : Port) :
    s.setLatch w p = (s.latched w).raise (.latch w p) := if_neg moved

/-- A LATCH up to its answer. -/
def State.latches (s : State) (r : LatchReq) (p : Port) : State :=
  (s.setLatch (latchAfter s.scn.latch r) p).setAuxValid true

theorem State.latches_notices (s : State) (r : LatchReq) (p : Port) :
    OnlyNotices { s.latched (latchAfter s.scn.latch r) with lnk := { s.lnk with auxValid := true } }
      (s.latches r p) :=
  ((s.setLatch_notices (latchAfter s.scn.latch r) p).map
    (f := fun u => { u with lnk := { u.lnk with auxValid := true } }) fun _ _ => rfl).trans
    (State.setAuxValid_notices _ true)

/-- With the aux output word valid a LATCH raises its own notice alone. -/
theorem State.latches_valid (valid : s.lnk.auxValid = true) (r : LatchReq) (p : Port) :
    s.latches r p = s.setLatch (latchAfter s.scn.latch r) p := by
  refine if_pos ?_
  rw [(s.setLatch_notices _ p).1]
  exact valid

/-- Each of the sixteen bits is set, cleared and then toggled. -/
theorem latchAfter_bit (w : Word16) (r : LatchReq) {i : Nat} (inWord : i < 16) :
    (latchAfter w r).getLsbD i =
      (((w.getLsbD i || r.set.getLsbD i) && !r.clear.getLsbD i) ^^ r.toggle.getLsbD i) := by
  simp [latchAfter, inWord]

end Sys2Proof.Machine

namespace Sys2Proof

open Machine

/-- Settles O32. -/
theorem editWritesRecordAndInstance : Obligations.EditWritesRecordAndInstance := by
  intro s p tag e r takes
  have ran : exec (.edit p tag r) s = .next (ownEdit r ⟨p, e⟩ (s.taken p tag 2 e)) := exec_taken takes
  have scn : (s.taken p tag 2 e).scn = s.scn := rfl
  refine ⟨fun g expected ne => ?_, fun current => ⟨fun absent => ?_, fun ent notNegative at_ => ?_⟩⟩
  · refine ran.trans (congrArg _ (Eq.trans ?_ (takes.answer .stale (.stale s.scn.generation))))
    exact if_pos (by rw [expected]; exact Scn.stale_of_ne ne)
  · refine ran.trans (congrArg _ (Eq.trans ?_ (takes.answer .stageAbsent .none)))
    simp only [ownEdit, scn, Scn.stale_of_matches current, Bool.false_eq_true, if_false,
      Scn.entryAt_absent absent]
    rfl
  · have refuse : editValue ent.kind r.param r.value = none →
        exec (.edit p tag r) s = .next (s.replied p tag 2 e .invalid .none) := fun refused =>
      ran.trans (congrArg _ ((ownEdit_refused (s := s.taken p tag 2 e) ⟨p, e⟩ current notNegative at_
        refused).trans (takes.answer .invalid .none)))
    refine ⟨fun refused => refuse (editValue_none refused),
      fun mod type ne0 ne1 => refuse (type ▸ editValue_modType mod ne0 ne1),
      fun lo hi named range noReach modType => ?_⟩
    intro n id v upd
    obtain ⟨⟨eq, quiet⟩, whenDirty⟩ := ownEdit_taken (s := s.taken p tag 2 e) ⟨p, e⟩ current
      notNegative
      at_ (editValue_some named range noReach modType)
    have replied := fun st => congrArg State.pif (takes.answer st (.edited s.scn.generation n id v))
    refine ⟨_, s.editedStatus ent n id v (decide (v ≠ r.value)), ran, ?_⟩
    refine ⟨?_, ?_, quiet.trans (congrArg Pif.quiet (replied _)),
      fun dirty => (whenDirty dirty).trans (replied _), fun drive cab delay => ?_,
      fun drive id2 unloaded => ?_, fun cab id0 unloaded => ?_, ?_⟩
    · rw [eq]
      rfl
    · rw [eq]
      rfl
    · rw [State.editedStatus_plain drive cab delay]
      by_cases same : v = r.value <;> simp [doneOrClamped, same]
    · rw [id2]
      exact State.editedStatus_drive drive unloaded
    · rw [id0]
      exact State.editedStatus_cab cab unloaded
    · rw [eq]
      exact ⟨rfl, rfl, rfl, rfl, rfl, rfl, rfl⟩

/-- Settles O33. -/
theorem bypassStageWritesTheFlag : Obligations.BypassStageWritesTheFlag := by
  intro s p tag e r takes
  have ran : exec (.bypassStage p tag r) s = .next (ownBypassStage r ⟨p, e⟩ (s.taken p tag 3 e)) :=
    exec_taken takes
  refine ⟨fun g expected ne => ?_, fun current => ⟨fun absent => ?_, fun ent notNegative at_ => ?_⟩⟩
  · refine ran.trans (congrArg _ (Eq.trans ?_ (takes.answer .stale (.stale s.scn.generation))))
    exact if_pos (by rw [expected]; exact Scn.stale_of_ne ne)
  · refine ran.trans (congrArg _ (Eq.trans ?_ (takes.answer .stageAbsent .none)))
    exact ownBypassStage_absent (s := s.taken p tag 3 e) current absent
  · intro n upd
    obtain ⟨eq, quiet⟩ := ownBypassStage_taken (s := s.taken p tag 3 e) ⟨p, e⟩ current notNegative at_
    have replied := congrArg State.pif (takes.answer .done (.bypassed s.scn.generation n r.enabled))
    refine ⟨_, ran, ?_⟩
    rw [eq]
    exact ⟨rfl, rfl, quiet.trans (congrArg Pif.quiet replied), rfl, rfl, rfl, rfl, rfl, rfl, rfl⟩

/-- Settles O34. -/
theorem latchAppliesItsMasks : Obligations.LatchAppliesItsMasks := by
  intro s p tag e r takes
  let w := latchAfter s.scn.latch r
  have latches := (s.taken p tag 8 e).latches_notices r p
  have word : ((s.taken p tag 8 e).latches r p).scn.latch = w := by
    rw [latches.1]
    rfl
  obtain ⟨eq, quiet⟩ := latches.answer ⟨p, e⟩ .done (.latched w)
  have replied := congrArg State.pif (takes.answer .done (.latched w))
  have ran : exec (.latch p tag r) s = .next
      (((s.taken p tag 8 e).latches r p).answer ⟨p, e⟩ .done (.latched w)) := by
    rw [← word]
    exact exec_taken takes
  refine ⟨_, ran, ?_⟩
  have scn : (((s.taken p tag 8 e).latches r p).answer ⟨p, e⟩ .done (.latched w)).scn.latch = w := word
  rw [scn]
  refine ⟨?_, fun i inWord => latchAfter_bit s.scn.latch r inWord, ?_,
    quiet.trans (congrArg Pif.quiet replied), fun same valid => ?_, fun moved valid => ?_, ?_⟩
  · rw [eq]
    rfl
  · rw [eq]
    rfl
  · rw [State.latches_valid (s := s.taken p tag 8 e) valid,
      State.setLatch_same (by exact same)]
    exact replied
  · rw [State.latches_valid (s := s.taken p tag 8 e) valid,
      State.setLatch_moved (by exact moved), State.raise_answer]
    exact congrArg (Pif.raise · (.latch w p)) replied
  · rw [eq]
    exact ⟨rfl, rfl, rfl, rfl, rfl, rfl, rfl⟩

end Sys2Proof

/-! PROOFS. The preset library and the shape library (R48 to R50, R72 to R81). -/

namespace Sys2Proof.Machine

variable {s : State}

/-! ### Numbers in range -/

theorem inRange_none {lo hi v : Int} (outside : v < lo ∨ hi < v) : inRange lo hi v = none :=
  if_neg (by omega)

theorem inRange_some {lo hi v : Int} (low : lo ≤ v) (high : v ≤ hi) : inRange lo hi v = some v.toNat :=
  if_pos ⟨low, high⟩

theorem slotOf_none {v : Int} (outside : v < 0 ∨ 127 < v) : slotOf v = none := inRange_none outside

theorem slotOf_some {v : Int} (low : 0 ≤ v) (high : v ≤ 127) : slotOf v = some v.toNat :=
  inRange_some low high

/-! ### The checks of WRITE-PRESET (R75) -/

/-- Checks 4 to 8 of an entry, condition by condition. -/
theorem entryFault_eq (x : EntryReq) : entryFault x =
    match kindOfCode x.kind with
    | none => some .kind
    | some k =>
      if x.params.length ≠ k.paramCount then some .paramCount
      else if ¬(x.spill = 0 ∨ (x.spill = 1 ∧ (k = .delay ∨ k = .reverb))) then some .spill
      else if (x.sync.any fun c => !decide ((k = .delay ∨ k = .mod) ∧ c ≤ 9)) = true then
        some .sync
      else if k = .mod ∧ x.params.getD 0 0 ≠ 0 ∧ x.params.getD 0 0 ≠ 1 then some .type
      else none := by
  unfold entryFault
  cases kindOfCode x.kind with
  | none => rfl
  | some k =>
    have spill : (!spillAllowed k x.spill) = true ↔
        ¬(x.spill = 0 ∨ (x.spill = 1 ∧ (k = .delay ∨ k = .reverb))) := by
      cases k <;> simp [spillAllowed, StageKind.mayHold]
    have sync : (!syncAllowed k x.sync) =
        (x.sync.any fun c => !decide ((k = .delay ∨ k = .mod) ∧ c ≤ 9)) := by
      cases x.sync with
      | none => rfl
      | some c => cases k <;> simp [syncAllowed, StageKind.maySync]
    have type : (!typeAllowed k x.params) = true ↔
        (k = .mod ∧ x.params.getD 0 0 ≠ 0 ∧ x.params.getD 0 0 ≠ 1) := by
      simp [typeAllowed, and_assoc]
    simp only [spill, sync, type]

theorem firstEntryFault_at {reason : PresetReason} : ∀ {es : List EntryReq} (m : Nat) {n : Nat}
    {x : EntryReq}, es[n]? = some x → entryFault x = some reason →
    (∀ (j : Nat) (y : EntryReq), j < n → es[j]? = some y → entryFault y = none) →
    firstEntryFault m es = some (reason, m + n)
  | [], _, _, _, at_, _, _ => by simp at at_
  | d :: es, m, 0, x, at_, fails, _ => by
    obtain rfl : d = x := by simpa using at_
    simp [firstEntryFault, fails]
  | d :: es, m, n + 1, x, at_, fails, before => by
    have clean : entryFault d = none := before 0 d (Nat.succ_pos n) rfl
    have rest := firstEntryFault_at (es := es) (m + 1) (n := n) (by simpa using at_) fails
      fun j y less at_ => before (j + 1) y (Nat.succ_lt_succ less) (by simpa using at_)
    rw [firstEntryFault, clean, rest]
    exact congrArg (fun k => some (reason, k)) (by omega)

theorem firstEntryFault_of_clean : ∀ {es : List EntryReq} (m : Nat),
    (∀ e ∈ es, entryFault e = none) → firstEntryFault m es = none
  | [], _, _ => rfl
  | e :: es, m, clean => by
    rw [firstEntryFault, clean e List.mem_cons_self]
    exact firstEntryFault_of_clean (m + 1) fun d inside => clean d (List.mem_cons_of_mem _ inside)

/-- The LOOP entries by their indices. -/
theorem mem_loopIndices {i : Nat} : ∀ {es : List EntryReq} {m : Nat}, i ∈ loopIndices m es ↔
    ∃ n, i = m + n ∧ ∃ x, es[n]? = some x ∧ kindOfCode x.kind = some .loop
  | [], m => by simp [loopIndices]
  | e :: es, m => by
    have rest := mem_loopIndices (i := i) (es := es) (m := m + 1)
    have split : (∃ n, i = m + n ∧ ∃ x, (e :: es)[n]? = some x ∧ kindOfCode x.kind = some .loop) ↔
        (i = m ∧ kindOfCode e.kind = some .loop) ∨ i ∈ loopIndices (m + 1) es := by
      rw [rest]
      constructor
      · rintro ⟨n, here, x, at_, loop⟩
        cases n with
        | zero =>
          obtain rfl : e = x := by simpa using at_
          exact .inl ⟨here, loop⟩
        | succ n => exact .inr ⟨n, by omega, x, by simpa using at_, loop⟩
      · rintro (⟨here, loop⟩ | ⟨n, here, x, at_, loop⟩)
        · exact ⟨0, here, e, rfl, loop⟩
        · exact ⟨n + 1, by omega, x, by simpa using at_, loop⟩
    rw [split, loopIndices]
    by_cases loop : kindOfCode e.kind = some .loop <;> simp [loop]

theorem loopIndices_sorted : ∀ (es : List EntryReq) (m : Nat), (loopIndices m es).Pairwise (· < ·)
  | [], _ => .nil
  | e :: es, m => by
    rw [loopIndices]
    split
    · refine .cons (fun i inside => ?_) (loopIndices_sorted es (m + 1))
      obtain ⟨n, here, -⟩ := mem_loopIndices.mp inside
      omega
    · exact loopIndices_sorted es (m + 1)

/-- The first two of a rising list of numbers. -/
theorem sorted_firstTwo {a n : Nat} : ∀ {xs : List Nat}, xs.Pairwise (· < ·) → a ∈ xs → n ∈ xs →
    a < n → (∀ b ∈ xs, b < n → b = a) → ∃ rest, xs = a :: n :: rest
  | [], _, hasA, _, _, _ => by simp at hasA
  | x :: xs, sorted, hasA, hasN, less, between => by
    obtain ⟨low, sorted⟩ := List.pairwise_cons.mp sorted
    have xLe : x ≤ a := by
      rcases List.mem_cons.mp hasA with rfl | inside
      · exact Nat.le_refl _
      · exact Nat.le_of_lt (low a inside)
    obtain rfl : x = a := between x List.mem_cons_self (by omega)
    have hasN : n ∈ xs := (List.mem_cons.mp hasN).resolve_left (by omega)
    cases xs with
    | nil => simp at hasN
    | cons y ys =>
      have yGt := low y List.mem_cons_self
      have yLe : y ≤ n := by
        rcases List.mem_cons.mp hasN with rfl | inside
        · exact Nat.le_refl _
        · exact Nat.le_of_lt ((List.pairwise_cons.mp sorted).1 n inside)
      have yIs : y = n := by
        by_contra other
        have := between y (by simp) (by omega)
        omega
      exact ⟨ys, by rw [yIs]⟩

theorem presetFault_slot {r : WritePresetReq} (outside : r.slot < 0 ∨ 127 < r.slot) :
    presetFault r = some (.slot, none) := by
  simp [presetFault, slotOf_none outside]

theorem presetFault_name {r : WritePresetReq} (low : 0 ≤ r.slot) (high : r.slot ≤ 127)
    (name : nameOk r.name = false) : presetFault r = some (.name, none) := by
  simp [presetFault, slotOf_some low high, name]

theorem presetFault_count {r : WritePresetReq} (low : 0 ≤ r.slot) (high : r.slot ≤ 127)
    (name : nameOk r.name = true) (count : r.entries = [] ∨ 10 < r.entries.length) :
    presetFault r = some (.stageCount, none) := by
  have outside : r.entries.length < 1 ∨ 10 < r.entries.length := by
    rcases count with none_ | many
    · simp [none_]
    · exact .inr many
  simp only [presetFault, slotOf_some low high, Option.isNone_some, Bool.false_eq_true, if_false, name,
    Bool.not_true, if_pos outside]

/-- Past the first three checks the entries decide. -/
theorem presetFault_entries {r : WritePresetReq} (low : 0 ≤ r.slot) (high : r.slot ≤ 127)
    (name : nameOk r.name = true) (atLeast : 1 ≤ r.entries.length) (atMost : r.entries.length ≤ 10) :
    presetFault r = match firstEntryFault 0 r.entries with
      | some (reason, n) => some (reason, some n)
      | none =>
        match loopIndices 0 r.entries with
        | _ :: n :: _ => some (.loopCount, some n)
        | _ => none := by
  have inside : ¬(r.entries.length < 1 ∨ 10 < r.entries.length) := by omega
  simp only [presetFault, slotOf_some low high, Option.isNone_some, Bool.false_eq_true, if_false, name,
    Bool.not_true, if_neg inside] <;> rfl

/-! ### The shape library (R49, R50) -/

/-- A slot list after a write of one slot: that slot, and the others. -/
theorem slots_set {xs : List (Option (List Int))} {k : Nat} (inside : k < xs.length)
    (x : Option (List Int)) : (xs.set k x).getD k none = x := by
  simp [List.getD_eq_getElem?_getD, inside]

theorem slots_set_ne {xs : List (Option (List Int))} {k n : Nat} (other : k ≠ n)
    (x : Option (List Int)) : (xs.set k x).getD n none = xs.getD n none := by
  simp [List.getD_eq_getElem?_getD, other]

theorem Lib.curve_set {l : Lib} {k : Nat} (named : 1 ≤ k) (inside : k - 1 < l.curves.length)
    (x : List Int) : ({ l with curves := l.curves.set (k - 1) (some x) } : Lib).curve k = some x :=
  (if_neg (by omega)).trans (slots_set inside _)

theorem Lib.curve_set_ne {l : Lib} {k n : Nat} {x : Option (List Int)} (named : 1 ≤ k) (other : n ≠ k) :
    ({ l with curves := l.curves.set (k - 1) x } : Lib).curve n = l.curve n := by
  unfold Lib.curve
  split
  · rfl
  · exact slots_set_ne (by omega) _

theorem Lib.impulse_set {l : Lib} {k : Nat} (named : 1 ≤ k) (inside : k - 1 < l.impulses.length)
    (x : List Int) : ({ l with impulses := l.impulses.set (k - 1) (some x) } : Lib).impulse k = some x :=
  (if_neg (by omega)).trans (slots_set inside _)

theorem Lib.impulse_set_ne {l : Lib} {k n : Nat} {x : Option (List Int)} (named : 1 ≤ k)
    (other : n ≠ k) : ({ l with impulses := l.impulses.set (k - 1) x } : Lib).impulse n = l.impulse n := by
  unfold Lib.impulse
  split
  · rfl
  · exact slots_set_ne (by omega) _

/-- The part with its live scene record stored in a slot (R81). -/
def State.storing (s : State) (n : Nat) (q : Preset) : State :=
  State.setSlot { s with scn := { s.scn with live := q, origin := some n, dirty := false } } n (some q)

/-- Each stored parameter of an entry is the value carried, clamped (R77). -/
theorem storedParams_clamped {k : StageKind} {vs : List Int} {id : Nat} {v lo hi : Int}
    (at_ : vs[id]? = some v) (range : k.range id = some (lo, hi)) :
    (storedParams k 0 vs)[id]? = some (max lo (min hi v)) := by
  obtain ⟨inside, is⟩ := List.getElem?_eq_some_iff.mp at_
  have stored := storedParams_getD k vs 0 id inside
  have inside' : id < (storedParams k 0 vs).length := by rwa [storedParams_length]
  rw [List.getD_eq_getElem _ _ inside', List.getD_eq_getElem _ _ inside, is, Nat.zero_add] at stored
  rw [List.getElem?_eq_getElem inside', stored]
  simp [storedValue, range, clampTo_eq (range_le range)]

theorem entryKind_eq {x : EntryReq} (clean : entryFault x = none) :
    kindOfCode x.kind = some (entryKind x) := by
  rw [entryFault_eq] at clean
  unfold entryKind
  cases known : kindOfCode x.kind with
  | none => simp [known] at clean
  | some k => rfl

end Sys2Proof.Machine

namespace Sys2Proof

open Machine

/-- Settles O35. -/
theorem writePresetStoresAValidRecord : Obligations.WritePresetStoresAValidRecord := by
  intro s p tag e r takes q cost demand
  have ran : exec (.writePreset p tag r) s = .next (ownWritePreset r ⟨p, e⟩ (s.taken p tag 5 e)) :=
    exec_taken takes
  refine ⟨fun reason n fault => ?_, presetFault_slot, presetFault_name, presetFault_count,
    fun low high name atLeast atMost => ?_, fun clean => ⟨fun costly => ?_, fun cheap large => ?_,
      fun cheap small => ?_⟩⟩
  · refine ran.trans (congrArg _ (Eq.trans ?_ (takes.answer .invalid (.presetInvalid reason n))))
    simp only [ownWritePreset, fault]
    rfl
  · intro fails isLoop
    have fails_eq : ∀ x, entryFault x = fails x := entryFault_eq
    have checks := presetFault_entries low high name atLeast atMost
    refine ⟨fun n x reason at_ fault before => ?_, fun allClean => ?_⟩
    · have first := firstEntryFault_at 0 at_ ((fails_eq x).trans fault)
        fun j y less at_ => (fails_eq y).trans (before j y less at_)
      simp only [checks, first, Nat.zero_add]
    · have none_ := firstEntryFault_of_clean 0 fun x inside => (fails_eq x).trans (allClean x inside)
      have mem : ∀ i, i ∈ loopIndices 0 r.entries ↔ isLoop i := fun i => by
        rw [mem_loopIndices]
        simp only [Nat.zero_add, exists_eq_left', isLoop]
      have sorted := loopIndices_sorted r.entries 0
      refine ⟨fun a n less loopA loopN between => ?_, fun atMostOne => ?_⟩
      · obtain ⟨rest, two⟩ := sorted_firstTwo sorted ((mem a).mpr loopA) ((mem n).mpr loopN) less
          fun b inside => (between b · ((mem b).mp inside))
        simp only [checks, none_, two]
      · simp only [checks, none_]
        cases loops : loopIndices 0 r.entries with
        | nil => rfl
        | cons a rest =>
          cases rest with
          | nil => rfl
          | cons b rest =>
            rw [loops] at sorted mem
            have apart := (List.pairwise_cons.mp sorted).1 b List.mem_cons_self
            have same := atMostOne a b ((mem a).mp (by simp)) ((mem b).mp (by simp))
            omega
  · refine ran.trans (congrArg _ (Eq.trans ?_ (takes.answer .overBudget (.overBudget cost))))
    simp only [ownWritePreset, clean]
    exact if_pos costly
  · refine ran.trans (congrArg _ (Eq.trans ?_ (takes.answer .overMemory (.overMemory demand))))
    simp only [ownWritePreset, clean]
    exact (if_neg (Nat.not_lt.mpr cheap)).trans (if_pos large)
  · obtain ⟨-, -, -, allClean, -⟩ := presetFault_none clean
    refine ⟨storedPreset_ok clean cheap small, rfl, List.length_map _, fun n x at_ => ?_, ?_⟩
    · refine ⟨storedEntry x, by simp [q, storedPreset, at_], ?_, rfl, rfl, ?_, ?_⟩
      · exact entryKind_eq (allClean x (List.mem_of_getElem? at_))
      · by_cases hold : x.spill = 1 <;> simp [storedEntry, hold]
      · exact fun id v lo hi at_ range => storedParams_clamped at_ range
    · have own : ownWritePreset r ⟨p, e⟩ (s.taken p tag 5 e) =
          ((s.taken p tag 5 e).setSlot r.slot.toNat (some q)).answer ⟨p, e⟩
            (doneOrClamped !(clampMarks r).isEmpty)
            (.presetWritten r.slot.toNat cost demand (clampMarks r)) := by
        simp only [ownWritePreset, clean]
        exact (if_neg (Nat.not_lt.mpr cheap)).trans (if_neg (Nat.not_lt.mpr small))
      have status : doneOrClamped (!(clampMarks r).isEmpty) =
          if clampMarks r = [] then .done else .clamped := by
        by_cases none_ : clampMarks r = [] <;> simp [doneOrClamped, none_]
      rw [ran, own, status]
      exact congrArg (fun u => Host.Outcome.next (u.setSlot r.slot.toNat (some q)))
        (takes.answer _ (.presetWritten r.slot.toNat cost demand (clampMarks r)))

/-- Settles O36. -/
theorem presetReadEraseStore : Obligations.PresetReadEraseStore := by
  intro s p tag e
  refine ⟨fun r takes => ?_, fun r takes => ?_, fun r takes => ?_⟩
  · have ran : exec (.readPreset p tag r) s = .next (ownReadPreset r ⟨p, e⟩ (s.taken p tag 6 e)) :=
      exec_taken takes
    refine ⟨fun outside => ?_, fun low high => ⟨fun none_ => ?_, fun q found => ?_⟩⟩
    · refine ran.trans (congrArg _ (Eq.trans ?_ (takes.answer .invalid .none)))
      simp only [ownReadPreset, slotOf_none outside]
      rfl
    · refine ran.trans (congrArg _ (Eq.trans ?_ (takes.answer .empty .none)))
      simp only [ownReadPreset, slotOf_some low high,
        show (s.taken p tag 6 e).scn.library.getD r.slot.toNat none = none from none_]
      rfl
    · refine ran.trans (congrArg _ (Eq.trans ?_ (takes.answer .done
        (.presetRead q (chainCost q.chain) (chainDemand q.chain)))))
      simp only [ownReadPreset, slotOf_some low high,
        show (s.taken p tag 6 e).scn.library.getD r.slot.toNat none = some q from found]
      rfl
  · have ran : exec (.erasePreset p tag r) s = .next (ownErasePreset r ⟨p, e⟩ (s.taken p tag 7 e)) :=
      exec_taken takes
    refine ⟨fun outside => ?_, fun low high => ?_⟩
    · refine ran.trans (congrArg _ (Eq.trans ?_ (takes.answer .invalid .none)))
      simp only [ownErasePreset, slotOf_none outside]
      rfl
    · rw [ran]
      simp only [ownErasePreset, slotOf_some low high]
      exact congrArg (fun u => Host.Outcome.next (u.setSlot r.slot.toNat none)) (takes.answer .done
        (.erased (s.scn.library.getD r.slot.toNat none).isSome))
  · have ran : exec (.store p tag r) s = .next (ownStore r ⟨p, e⟩ (s.taken p tag 4 e)) :=
      exec_taken takes
    refine ⟨fun outside => ?_, fun low high => ⟨fun n named bad => ?_, fun good =>
      ⟨fun busy => ?_, fun steady => ?_⟩⟩⟩
    · refine ran.trans (congrArg _ (Eq.trans ?_ (takes.answer .invalid (.presetInvalid .slot none))))
      simp only [ownStore, slotOf_none outside]
      rfl
    · refine ran.trans (congrArg _ (Eq.trans ?_ (takes.answer .invalid (.presetInvalid .name none))))
      simp only [ownStore, slotOf_some low high]
      exact if_pos (by simp [named, bad])
    · have named : r.name.any (fun x => !nameOk x) = false := by
        cases name : r.name with
        | none => rfl
        | some n => simp [good n name]
      refine ran.trans (congrArg _ (Eq.trans ?_ (takes.answer .busy .none)))
      simp only [ownStore, slotOf_some low high, named]
      exact if_pos busy
    · intro q n u
      have named : r.name.any (fun x => !nameOk x) = false := by
        cases name : r.name with
        | none => rfl
        | some n => simp [good n name]
      have own : ownStore r ⟨p, e⟩ (s.taken p tag 4 e) = (s.taken p tag 4 e).store n r.name ⟨p, e⟩ := by
        simp only [ownStore, slotOf_some low high, named]
        exact if_neg (not_not.mpr steady)
      have notice : (u.storing n q).scn.notice .store (some p) none none none = .scene {
          event := .store, generation := s.scn.generation, phase := .steady, origin := some n
          dirty := false, name := q.name, port := some p, slot := none, kind := none
          phaseThen := none } := by
        rw [← show u.scn.phase = .steady from steady]
        rfl
      rw [ran, own, State.store, State.raise_answer, ← notice]
      exact congrArg (fun u : State => Host.Outcome.next
        ((u.storing n q).raise ((u.storing n q).scn.notice .store (some p) none none none)))
        (takes.answer .done (.stored n q.name (chainCost q.chain) (chainDemand q.chain)))

/-- Settles O37. -/
theorem shapeLibraryWrites : Obligations.ShapeLibraryWrites := by
  intro s p tag e
  refine ⟨fun r takes => ?_, fun r takes => ?_⟩
  · have ran : exec (.writeCurve p tag r) s = .next (ownWriteCurve r ⟨p, e⟩ (s.taken p tag 11 e)) :=
      exec_taken takes
    refine ⟨fun outside => ?_, fun low high => ⟨fun wrong => ⟨.badRequest 11 (some 2), ?_⟩, fun long =>
      ⟨_, ?_, rfl, fun seven => ⟨?_, fun n other => Lib.curve_set_ne (by omega) other⟩⟩⟩⟩
    · refine ran.trans (congrArg _ (Eq.trans ?_ (takes.answer .invalid .none)))
      simp only [ownWriteCurve, inRange_none outside]
      rfl
    · refine ran.trans (congrArg _ (Eq.trans ?_ (takes.answer .badRequest (.badRequest 11 (some 2)))))
      simp only [ownWriteCurve, inRange_some low high]
      exact if_pos wrong
    · rw [ran]
      simp only [ownWriteCurve, inRange_some low high, if_neg (not_not.mpr long)]
      exact congrArg (fun u : State => Host.Outcome.next { u with lib := { s.lib with
        curves := s.lib.curves.set (r.slot.toNat - 1) (some r.points) } }) (takes.answer .done .none)
    · exact Lib.curve_set (by omega) (by omega) _
  · have ran : exec (.writeImpulse p tag r) s = .next (ownWriteImpulse r ⟨p, e⟩ (s.taken p tag 12 e)) :=
      exec_taken takes
    refine ⟨fun outside => ?_, fun low high => ⟨fun wrong => ⟨.badRequest 12 (some 2), ?_⟩, fun long =>
      ⟨_, ?_, rfl, fun three => ⟨?_, fun n other => Lib.impulse_set_ne (by omega) other⟩⟩⟩⟩
    · refine ran.trans (congrArg _ (Eq.trans ?_ (takes.answer .invalid .none)))
      simp only [ownWriteImpulse, inRange_none outside]
      rfl
    · refine ran.trans (congrArg _ (Eq.trans ?_ (takes.answer .badRequest (.badRequest 12 (some 2)))))
      simp only [ownWriteImpulse, inRange_some low high]
      exact if_pos wrong
    · rw [ran]
      simp only [ownWriteImpulse, inRange_some low high, if_neg (not_not.mpr long)]
      exact congrArg (fun u : State => Host.Outcome.next { u with lib := { s.lib with
        impulses := s.lib.impulses.set (r.slot.toNat - 1) (some r.taps) } }) (takes.answer .done .none)
    · exact Lib.impulse_set (by omega) (by omega) _

end Sys2Proof

/-! PROOFS. The requests that set settings and the read requests (R23, R70, R84, R148, R164). -/

namespace Sys2Proof.Machine

variable {s : State}

/-! ### Settings as they are clamped -/

theorem clampNat_eq {lo hi : Nat} (ordered : lo ≤ hi) (v : Int) :
    clampNat lo hi v = (max (lo : Int) (min hi v)).toNat := by
  rw [clampNat, clampTo_eq (by omega)]

/-- A setting present is clamped, a setting absent stands. -/
theorem optSetting_eq {lo hi : Nat} (ordered : lo ≤ hi) (v : Option Int) (now : Nat) :
    optSetting lo hi v now = match v with
      | some v => (max (lo : Int) (min hi v)).toNat
      | none => now := by
  cases v with
  | none => rfl
  | some v => exact clampNat_eq ordered v

theorem optClamps_iff {lo hi : Nat} (ordered : lo ≤ hi) (v : Option Int) :
    optClamps lo hi v = true ↔ ∃ x, v = some x ∧ (x < lo ∨ hi < x) := by
  cases v with
  | none => simp [optClamps]
  | some v =>
    have moved : clampTo lo hi v ≠ v ↔ v < lo ∨ hi < v := by
      rw [clampTo_eq (by omega)]
      omega
    simp [optClamps, clamps, moved]

/-- CLAMPED when one of two settings was clamped. -/
theorem clampedStatus {a b : Bool} {A B : Prop} [Decidable (A ∨ B)] (ha : a = true ↔ A)
    (hb : b = true ↔ B) : doneOrClamped (a || b) = if A ∨ B then .clamped else .done := by
  have both : (a || b) = true ↔ A ∨ B := by rw [Bool.or_eq_true, ha, hb]
  simp only [doneOrClamped, both]

theorem clampedStatus_one {a : Bool} {A : Prop} [Decidable A] (ha : a = true ↔ A) :
    doneOrClamped a = if A then .clamped else .done := by
  simp only [doneOrClamped, ha]

theorem optChoice_refused {α : Type} {f : Int → Option α} {v : Option Int} {x : Int} (is : v = some x)
    (none_ : f x = none) : optChoice f v = none := by
  subst is
  simp [optChoice, none_]

/-! ### The tails' settings (R70) -/

/-- The tails after a cut option: every RUNNING one is CUTTING. -/
theorem cutOption_eq (cut : Option Bool) (ts : List Tail) :
    (if cut = some true then ts.map (·.cutNow) else ts) =
      ts.map fun x => if cut = some true ∧ x.state = .running then
        { x with state := .cutting, cutRan := false } else x := by
  by_cases asked : cut = some true
  · simp only [asked, true_and]
    rfl
  · simp [asked]

/-- The segment pool after SET-TAILS, field by field. -/
theorem Spl.setTails_eq (p : Spl) (r : SetTailsReq) : p.setTails r = { p with
    drainSetting := optSetting 1 255 r.drain p.drainSetting
    lifeSetting := optSetting 1 60 r.life p.lifeSetting
    tails := p.tails.map fun x => if r.cut = some true ∧ x.state = .running then
      { x with state := .cutting, cutRan := false } else x } := by
  rw [Spl.setTails, cutOption_eq]

/-! ### The monitor mode and the relay policy (R164) -/

theorem monModeOf_none {v : Int} (outside : v < 0 ∨ 2 < v) : monModeOf v = none := by
  unfold monModeOf
  rw [if_neg (by omega), if_neg (by omega), if_neg (by omega)]

theorem policyOf_none {v : Int} (outside : v < 0 ∨ 1 < v) : policyOf v = none := by
  unfold policyOf
  rw [if_neg (by omega), if_neg (by omega)]

/-- A monitor mode in range, or none: what the request makes of the mode in force. -/
theorem monMode_choice (v : Option Int) (now : MonMode) : (∀ x, v = some x → 0 ≤ x ∧ x ≤ 2) →
    ∃ m, optChoice monModeOf v = some m ∧ m.getD now = match v with
      | none => now
      | some 0 => .off
      | some 1 => .report
      | some _ => .failover := by
  intro inside
  cases v with
  | none => exact ⟨none, rfl, rfl⟩
  | some x =>
    obtain ⟨low, high⟩ := inside x rfl
    obtain rfl | rfl | rfl : x = 0 ∨ x = 1 ∨ x = 2 := by omega
    · exact ⟨some .off, rfl, rfl⟩
    · exact ⟨some .report, rfl, rfl⟩
    · exact ⟨some .failover, rfl, rfl⟩

theorem policy_choice (v : Option Int) (now : Policy) : (∀ x, v = some x → 0 ≤ x ∧ x ≤ 1) →
    ∃ m, optChoice policyOf v = some m ∧ m.getD now = match v with
      | none => now
      | some 0 => .bypass
      | some _ => .hold := by
  intro inside
  cases v with
  | none => exact ⟨none, rfl, rfl⟩
  | some x =>
    obtain ⟨low, high⟩ := inside x rfl
    obtain rfl | rfl : x = 0 ∨ x = 1 := by omega
    · exact ⟨some .bypass, rfl, rfl⟩
    · exact ⟨some .hold, rfl, rfl⟩

/-- The settings of the protection after a request, field by field. -/
theorem Opu.protect_eq (o : Opu) (mode : Option MonMode) (limit : Option Int) (policy : Option Policy) :
    o.protect mode limit policy = { o with
      monMode := mode.getD o.monMode
      limit := optSetting 0 7 limit o.limit
      policy := policy.getD o.policy
      elapsed := if mode.getD o.monMode = o.monMode ∧ optSetting 0 7 limit o.limit = o.limit then o.elapsed
        else 0 } := rfl

/-! ### The tuner's settings (R148) -/

theorem averagingOf_none {v : Int} (other : v ≠ 4 ∧ v ≠ 8 ∧ v ≠ 16) : averagingOf v = none := by
  unfold averagingOf
  rw [if_neg other.1, if_neg other.2.1, if_neg other.2.2]

theorem averaging_choice {v : Option Int} (named : ∀ x, v = some x → x = 4 ∨ x = 8 ∨ x = 16) :
    optChoice averagingOf v = some (v.map Int.toNat) := by
  cases v with
  | none => rfl
  | some x => rcases named x rfl with rfl | rfl | rfl <;> rfl

/-- The tuner after TUNER-SET, field by field. -/
theorem Tun.set_eq (t : Tun) (reference : Option Int) (k : Option Nat) (floor : Option Int) :
    ((t.setReference reference).setK k).setFloor floor =
      (let r := optSetting 4000 4800 reference t.reference
       let n := k.getD t.k
       { t with
         reference := r, k := n, floor := optSetting 64 1048576 floor t.floor
         table := if r = t.reference then t.table else noteTable r
         series := if n = t.k then t.series else [] }) := by
  have first : t.setReference reference =
      (let r := optSetting 4000 4800 reference t.reference
       { t with reference := r, table := if r = t.reference then t.table else noteTable r }) := by
    cases reference with
    | none => simp [Tun.setReference, optSetting]
    | some v =>
      by_cases same : clampNat 4000 4800 v = t.reference <;> simp [Tun.setReference, optSetting, same]
  have second : ∀ u : Tun, u.setK k =
      { u with k := k.getD u.k, series := if k.getD u.k = u.k then u.series else [] } := fun u => by
    cases k with
    | none => simp [Tun.setK]
    | some n => by_cases same : n = u.k <;> simp [Tun.setK, same]
  have third : ∀ u : Tun, u.setFloor floor = { u with floor := optSetting 64 1048576 floor u.floor } :=
    fun u => by cases floor <;> rfl
  rw [first, second, third]

theorem noteIndexOf_none {v : Int} (outside : v < 0 ∨ 71 < v) : noteIndexOf v = none := inRange_none outside

theorem note_choice {v : Option Int} (inside : ∀ x, v = some x → 0 ≤ x ∧ x ≤ 71) :
    optChoice noteIndexOf v = some (v.map Int.toNat) := by
  cases v with
  | none => rfl
  | some x =>
    have := inRange_some (inside x rfl).1 (inside x rfl).2
    simp [optChoice, noteIndexOf, this]

/-! ### The free entries of a port (R198) -/

/-- An entry that is FREE no more counts no more. -/
theorem freeCount_set {x : ReplyEntry} (taken : x ≠ .free) : ∀ {es : List ReplyEntry} {e : Nat},
    es[e]? = some .free → freeCount (es.set e x) + 1 = freeCount es
  | [], _, at_ => by simp at at_
  | y :: es, 0, at_ => by
    obtain rfl : y = .free := by simpa using at_
    simp [freeCount, taken]
  | y :: es, e + 1, at_ => by
    have rest := freeCount_set taken (es := es) (e := e) (by simpa using at_)
    unfold freeCount at rest
    by_cases free : y = .free <;> simp [freeCount, free] <;> omega

theorem Takes.freeCount {p : Port} {tag : Byte} {q : Request} {e : Nat} (h : Takes s p tag q e) :
    Machine.freeCount ((s.taken p tag q.code e).port p).replies + 1 =
      Machine.freeCount (s.port p).replies := by
  obtain ⟨_, _, _, free⟩ := h
  simp only [State.taken, State.setPort, State.port, Pif.port_setPort]
  exact freeCount_set (by simp) (PortState.freeEntry_free free)

theorem State.taken_requests (s : State) (p : Port) (tag : Byte) (kind e : Nat) :
    ((s.taken p tag kind e).port p).requests = (s.port p).requests.drop 1 := by
  simp only [State.taken, State.setPort, State.port, Pif.port_setPort]
  rfl

theorem State.taken_restarts (s : State) (p : Port) (tag : Byte) (kind e : Nat) :
    (s.taken p tag kind e).pif.restartCount = s.pif.restartCount ∧
      (s.taken p tag kind e).pif.lastStart = s.pif.lastStart := by
  cases p <;> exact ⟨rfl, rfl⟩

/-- METERS: its answer, and what it clears (R23). -/
theorem ownMeters_eq (r : MetersReq) (t : Ticket) (s : State) : ownMeters r t s =
    { (if r.clear then s.clearMeters else s) with
      pif := (s.answer t .done (.meters s.metersReport)).pif } := by
  unfold ownMeters
  split <;> rfl

theorem metersReport_records (live : s.sen.front.state = .live) :
    s.metersReport.records = s.sen.front.stages.zipIdx.map fun x =>
      { index := x.2, kind := x.1.kind, status := x.1.status } := by
  simp only [State.metersReport, live, if_true, numbered_eq_zipIdx, List.map_map]
  rfl

end Sys2Proof.Machine

namespace Sys2Proof

open Machine

/-- Settles O38. -/
theorem settingsRequestsClamp : Obligations.SettingsRequestsClamp := by
  intro s p tag e
  refine ⟨fun r takes => ?_, fun r takes => ?_,
    fun r takes => ⟨fun refused => ?_, fun modes policies => ?_⟩,
    fun r takes => ⟨fun refused => ?_, fun named => ?_⟩⟩
  · intro safe fade
    have safe_eq : optSetting 0 127 r.safe s.scn.safeIdx = safe := optSetting_eq (by decide) ..
    have fade_eq : optSetting 0 255 r.fade s.scn.defaultFade = fade := optSetting_eq (by decide) ..
    have status := clampedStatus (optClamps_iff (lo := 0) (hi := 127) (by decide) r.safe)
      (optClamps_iff (lo := 0) (hi := 255) (by decide) r.fade)
    refine (exec_taken takes).trans ?_
    refine Eq.trans ?_ (congrArg (fun u : State => Host.Outcome.next
      { u with scn := { s.scn with safeIdx := safe, defaultFade := fade } })
      (takes.answer _ (.sceneOptions safe fade)))
    show Host.Outcome.next (State.answer { s.taken p tag 10 e with scn := { s.scn with
      safeIdx := optSetting 0 127 r.safe s.scn.safeIdx
      defaultFade := optSetting 0 255 r.fade s.scn.defaultFade } } ⟨p, e⟩
      (doneOrClamped (optClamps 0 127 r.safe || optClamps 0 255 r.fade))
      (.sceneOptions (optSetting 0 127 r.safe s.scn.safeIdx)
        (optSetting 0 255 r.fade s.scn.defaultFade))) = _
    rw [safe_eq, fade_eq, status]
    rfl
  · intro drain life tails
    have drain_eq : optSetting 1 255 r.drain s.spl.drainSetting = drain := optSetting_eq (by decide) ..
    have life_eq : optSetting 1 60 r.life s.spl.lifeSetting = life := optSetting_eq (by decide) ..
    have status := clampedStatus (optClamps_iff (lo := 1) (hi := 255) (by decide) r.drain)
      (optClamps_iff (lo := 1) (hi := 60) (by decide) r.life)
    have set : (s.taken p tag 14 e).spl.setTails r =
        { s.spl with drainSetting := drain, lifeSetting := life, tails := tails } := by
      rw [Spl.setTails_eq, ← drain_eq, ← life_eq]
      rfl
    refine (exec_taken takes).trans ?_
    refine Eq.trans ?_ (congrArg (fun u : State => Host.Outcome.next
      { u with spl := { s.spl with drainSetting := drain, lifeSetting := life, tails := tails } })
      (takes.answer _ (.tails drain life (tails.map (·.report)))))
    show Host.Outcome.next (ownSetTails r ⟨p, e⟩ (s.taken p tag 14 e)) = _
    simp only [ownSetTails, set, status]
    rfl
  · have choices : optChoice monModeOf r.mode = none ∨ optChoice policyOf r.policy = none := by
      rcases refused with ⟨v, is, outside⟩ | ⟨v, is, outside⟩
      · exact .inl (optChoice_refused is (monModeOf_none outside))
      · exact .inr (optChoice_refused is (policyOf_none outside))
    refine (exec_taken takes).trans (congrArg _ (Eq.trans ?_ (takes.answer .invalid .none)))
    show ownSetProtection r ⟨p, e⟩ (s.taken p tag 27 e) = _
    unfold ownSetProtection
    rcases choices with mode | policy
    · rw [mode]
      rfl
    · rw [policy]
      cases optChoice monModeOf r.mode <;> rfl
  · intro mode policy limit
    obtain ⟨m, mode_eq, isMode⟩ := monMode_choice r.mode s.opu.monMode modes
    obtain ⟨q, policy_eq, isPolicy⟩ := policy_choice r.policy s.opu.policy policies
    have limit_eq : optSetting 0 7 r.limit s.opu.limit = limit := optSetting_eq (by decide) ..
    have status := clampedStatus_one (optClamps_iff (lo := 0) (hi := 7) (by decide) r.limit)
    have protect : (s.taken p tag 27 e).opu.protect m r.limit q = { s.opu with
        monMode := mode, limit := limit, policy := policy
        elapsed := if mode = s.opu.monMode ∧ limit = s.opu.limit then s.opu.elapsed else 0 } := by
      rw [Opu.protect_eq, ← limit_eq, ← show m.getD s.opu.monMode = mode from isMode,
        ← show q.getD s.opu.policy = policy from isPolicy]
      rfl
    refine (exec_taken takes).trans ?_
    refine Eq.trans ?_ (congrArg (fun u : State => Host.Outcome.next { u with opu := { s.opu with
      monMode := mode, limit := limit, policy := policy
      elapsed := if mode = s.opu.monMode ∧ limit = s.opu.limit then s.opu.elapsed else 0 } })
      (takes.answer _ (.protection mode limit policy)))
    show Host.Outcome.next (ownSetProtection r ⟨p, e⟩ (s.taken p tag 27 e)) = _
    simp only [ownSetProtection, mode_eq, policy_eq, protect, status]
    rfl
  · obtain ⟨v, is, other⟩ := refused
    refine (exec_taken takes).trans (congrArg _ (Eq.trans ?_ (takes.answer .invalid .none)))
    show ownTunerSet r ⟨p, e⟩ (s.taken p tag 20 e) = _
    simp only [ownTunerSet, optChoice_refused is (averagingOf_none other)]
    rfl
  · intro ref k fl
    have ref_eq : optSetting 4000 4800 r.reference s.tun.reference = ref := optSetting_eq (by decide) ..
    have floor_eq : optSetting 64 1048576 r.floor s.tun.floor = fl := optSetting_eq (by decide) ..
    have k_eq : (r.k.map Int.toNat).getD s.tun.k = k := by cases given : r.k <;> simp [k, given]
    have status := clampedStatus (optClamps_iff (lo := 4000) (hi := 4800) (by decide) r.reference)
      (optClamps_iff (lo := 64) (hi := 1048576) (by decide) r.floor)
    have set : (((s.taken p tag 20 e).tun.setReference r.reference).setK (r.k.map Int.toNat)).setFloor
        r.floor = { s.tun with
          reference := ref, k := k, floor := fl
          table := if ref = s.tun.reference then s.tun.table else noteTable ref
          series := if k = s.tun.k then s.tun.series else [] } := by
      rw [Tun.set_eq, ← ref_eq, ← floor_eq, ← k_eq]
      rfl
    refine (exec_taken takes).trans ?_
    refine Eq.trans ?_ (congrArg (fun u : State => Host.Outcome.next { u with tun := { s.tun with
      reference := ref, k := k, floor := fl
      table := if ref = s.tun.reference then s.tun.table else noteTable ref
      series := if k = s.tun.k then s.tun.series else [] } })
      (takes.answer _ (.tunerSettings ref k fl)))
    show Host.Outcome.next (ownTunerSet r ⟨p, e⟩ (s.taken p tag 20 e)) = _
    simp only [ownTunerSet, averaging_choice named, set, status]
    rfl

/-- Settles O39. -/
theorem readRequestsReportAndChangeNothing : Obligations.ReadRequestsReportAndChangeNothing := by
  intro s p tag e
  refine ⟨fun takes => ?_, fun takes => ?_, fun r takes => ⟨fun refused => ?_, fun inside => ?_⟩,
    fun takes => ?_, fun takes => ?_, fun takes => ?_, fun r takes => ?_⟩
  · exact (exec_taken takes).trans (congrArg _ (takes.answer .done _))
  · exact (exec_taken takes).trans (congrArg _ (takes.answer .done _))
  · obtain ⟨v, is, outside⟩ := refused
    refine (exec_taken takes).trans (congrArg _ (Eq.trans ?_ (takes.answer .invalid .none)))
    show ownTunerRead r ⟨p, e⟩ (s.taken p tag 21 e) = _
    simp only [ownTunerRead, optChoice_refused is (noteIndexOf_none outside)]
    rfl
  · have own : ownTunerRead r ⟨p, e⟩ (s.taken p tag 21 e) =
        (s.taken p tag 21 e).answer ⟨p, e⟩ .done (.tuner (s.tun.report (r.note.map Int.toNat))) := by
      simp only [ownTunerRead, note_choice inside]
      rfl
    have report : s.tun.report (r.note.map Int.toNat) = _ := rfl
    refine (exec_taken takes).trans (congrArg _ (own.trans ((takes.answer .done _).trans ?_)))
    simp only [Tun.report, Option.map_map]
    rfl
  · exact (exec_taken takes).trans (congrArg _ (takes.answer .done _))
  · exact (exec_taken takes).trans (congrArg _ (takes.answer .done _))
  · refine ⟨_, (exec_taken takes).trans (congrArg _ ((takes.answer .done _).trans ?_)), takes.freeCount⟩
    simp only [State.identityReport, State.taken_requests, List.length_drop, State.taken_restarts]
    rfl
  · have ran : exec (.meters p tag r) s = .next (ownMeters r ⟨p, e⟩ (s.taken p tag 13 e)) :=
      exec_taken takes
    rw [ownMeters_eq] at ran
    refine ⟨_, (s.taken p tag 13 e).metersReport, ran, ?_, rfl, rfl, rfl, rfl, rfl, rfl, fun dead => ?_,
      fun live => ?_, fun kept => ?_, fun cleared => ?_⟩
    · have answered := congrArg State.pif (takes.answer .done (.meters (s.taken p tag 13 e).metersReport))
      exact answered
    · exact if_neg dead
    · exact metersReport_records (s := s.taken p tag 13 e) live
    · rw [kept]
      rfl
    · rw [cleared]
      exact rfl

end Sys2Proof

/-! PROOFS. The tempo generator: writes of the period, taps, pulses and beats (R117 to R128). -/

namespace Sys2Proof.Machine

variable {s : State}

/-! ### Beat events (R119) -/

theorem Context.handBeat_eq (b : Nat) (c : Context) :
    c.handBeat b = { c with stages := c.stages.map (·.atBeat b) } := by
  have stage : (fun i : StageInst => if i.sync.isSome then { i with beat := b } else i) =
      fun i => i.atBeat b := by
    funext i
    cases synced : i.sync <;> simp [StageInst.atBeat, synced]
  rw [Context.handBeat, stage]

/-- What a beat event leaves, and its notice. -/
theorem State.beatEvent_eq (s : State) (c : BeatCause) : s.beatEvent c = s.afterBeat
    (s.pif.raise (.beat {
      count := s.tgn.beatCount + 1, inForce := s.tgn.period, cause := c
      source := s.tgn.source, pulse := s.tgn.pulse })) s.tgn.beat s.tgn.period := by
  simp only [State.beatEvent, Context.handBeat_eq]
  rfl

theorem State.beatEvent_notices (s : State) (c : BeatCause) :
    OnlyNotices (s.afterBeat s.pif s.tgn.beat s.tgn.period) (s.beatEvent c) := by
  rw [State.beatEvent_eq]
  exact ⟨rfl, Pif.raise_quiet _ _⟩

theorem State.beatEvent_answer (s : State) (c : BeatCause) (t : Ticket) (st : Status) (f : Fields) :
    ((s.beatEvent c).answer t st f).pif = (s.answer t st f).pif.raise (.beat {
      count := s.tgn.beatCount + 1, inForce := s.tgn.period, cause := c
      source := s.tgn.source, pulse := s.tgn.pulse }) := by
  simp only [State.beatEvent, State.raise_answer]
  rfl

theorem State.noticeWrite_tgn (s : State) (before : Nat) (w : TempoWriter) (p : Option Port) :
    (s.noticeWrite before w p).tgn = s.tgn := by rw [(s.noticeWrite_notices before w p).1]

/-- A register write's notice and an answer, the answer first. -/
theorem State.noticeWrite_answer (s : State) (before : Nat) (w : TempoWriter) (p : Option Port)
    (t : Ticket) (st : Status) (f : Fields) : (s.noticeWrite before w p).answer t st f =
      if s.tgn.period = before then s.answer t st f
      else (s.answer t st f).raise (s.tgn.notice (some w) false false p false) := by
  unfold State.noticeWrite
  split
  · rfl
  · exact State.raise_answer ..

/-- Up to notices only the tempo generator is changed. -/
theorem OnlyNotices.tempoAlone {s u t : State} (h : OnlyNotices u t)
    (alone : u = { s with pif := u.pif, tgn := u.tgn }) : t = { s with pif := t.pif, tgn := t.tgn } := by
  have tgn : t.tgn = u.tgn := by rw [h.1]
  rw [tgn]
  exact h.1.trans (congrArg (fun x : State => { x with pif := t.pif }) alone)

/-- Up to notices a beat event alone. -/
theorem OnlyNotices.beatAlone {s u t : State} {b : Nat} (h : OnlyNotices u t)
    (alone : u = s.afterBeat u.pif u.tgn b) : t = s.afterBeat t.pif t.tgn b := by
  have tgn : t.tgn = u.tgn := by rw [h.1]
  rw [tgn]
  exact h.1.trans (congrArg (fun x : State => { x with pif := t.pif }) alone)

/-! ### TEMPO-SET (R121) -/

theorem Tgn.emptyTapsInTap_eq (t : Tgn) : t.emptyTapsInTap = { t with
    tapStamp := if t.source = .tap then none else t.tapStamp
    taps := if t.source = .tap then [] else t.taps } := by
  unfold Tgn.emptyTapsInTap
  split <;> rfl

/-- The part with its period register written (R121). -/
def State.periodWritten (s : State) (v : Nat) : State :=
  { s with tgn := { s.tgn with
      period := v
      tapStamp := if s.tgn.source = .tap then none else s.tgn.tapStamp
      taps := if s.tgn.source = .tap then [] else s.tgn.taps } }

/-- A TEMPO-SET that is taken, without and with the restart of the beat. -/
theorem ownTempoSet_eq {r : TempoSetReq} (t : Ticket) (source : s.tgn.source ≠ .pulse) :
    ownTempoSet r t s =
      (let v := clampNat 12000 144000 r.period
       let u := if r.restart then (s.periodWritten v).beatEvent .restart else s.periodWritten v
       (u.noticeWrite s.tgn.period .tempoSet (some t.port)).answer t
         (doneOrClamped (clamps 12000 144000 r.period))
         (.tempoSet v (if r.restart then v else s.tgn.inForce) s.tgn.source)) := by
  have written : { s with tgn := ({ s.tgn with
      period := clampNat 12000 144000 r.period } : Tgn).emptyTapsInTap } =
      s.periodWritten (clampNat 12000 144000 r.period) := by
    rw [Tgn.emptyTapsInTap_eq]
    rfl
  simp only [ownTempoSet, if_neg source, written, State.noticeWrite_tgn]
  cases r.restart <;> rfl

theorem clamps_iff {lo hi : Nat} (ordered : lo ≤ hi) (v : Int) :
    clamps lo hi v = true ↔ v < lo ∨ hi < v := by
  simpa [optClamps] using optClamps_iff ordered (some v)

/-! ### TEMPO-SOURCE (R122) -/

theorem tempoSourceOf_none {v : Int} (outside : v < 0 ∨ 2 < v) : tempoSourceOf v = none := by
  unfold tempoSourceOf
  rw [if_neg (by omega), if_neg (by omega), if_neg (by omega)]

theorem pulseEdgeOf_none {v : Int} (outside : v < 0 ∨ 2 < v) : pulseEdgeOf v = none := by
  unfold pulseEdgeOf
  rw [if_neg (by omega), if_neg (by omega), if_neg (by omega)]

theorem tempoSource_choice {v : Int} (low : 0 ≤ v) (high : v ≤ 2) :
    tempoSourceOf v = some (if v = 0 then .internal else if v = 1 then .tap else .pulse) := by
  obtain rfl | rfl | rfl : v = 0 ∨ v = 1 ∨ v = 2 := by omega
  · rfl
  · rfl
  · rfl

theorem pulseEdge_choice (v : Option Int) (now : PulseEdge) : (∀ x, v = some x → 0 ≤ x ∧ x ≤ 2) →
    ∃ m, optChoice pulseEdgeOf v = some m ∧ m.getD now = match v with
      | none => now
      | some 0 => .rising
      | some 1 => .falling
      | some _ => .both := by
  intro inside
  cases v with
  | none => exact ⟨none, rfl, rfl⟩
  | some x =>
    obtain ⟨low, high⟩ := inside x rfl
    obtain rfl | rfl | rfl : x = 0 ∨ x = 1 ∨ x = 2 := by omega
    · exact ⟨some .rising, rfl, rfl⟩
    · exact ⟨some .falling, rfl, rfl⟩
    · exact ⟨some .both, rfl, rfl⟩

/-- The part with its tempo source taken. -/
def State.sourceTaken (s : State) (g : Tgn) : State := { s with tgn := g }

/-- A TEMPO-SOURCE that is taken, where the beat under way runs on or was held back. -/
theorem ownTempoSource_eq {r : TempoSourceReq} {src : TempoSource} {edge : Option PulseEdge} {g : Tgn}
    {st : Status} (t : Ticket) (source : tempoSourceOf r.source = some src)
    (edges : optChoice pulseEdgeOf r.edge = some edge) (select : s.tgn.select src edge r.n = g)
    (status : doneOrClamped (optClamps 1 96 r.n) = st) : ownTempoSource r t s =
      (let u := if s.tgn.waitsForPulse then (s.sourceTaken g).beatEvent .counter else s.sourceTaken g
       (u.raise (u.tgn.notice none true false none false)).answer t st
          (.tempoSource g.source g.pulse g.edge g.n)) := by
  simp only [ownTempoSource, source, edges, select, status]
  cases s.tgn.waitsForPulse <;> rfl

theorem Tgn.waitsForPulse_iff (t : Tgn) :
    t.waitsForPulse = true ↔ t.pulse = some .following ∧ t.counter = 0 := by
  simp [Tgn.waitsForPulse]

/-- The tempo generator with another source, field by field. -/
theorem Tgn.select_eq (t : Tgn) (src : TempoSource) (edge : Option PulseEdge) (n : Option Int) :
    t.select src edge n = { t with
      source := src, pulse := if src = .pulse then some .waiting else none
      edge := edge.getD t.edge, n := optSetting 1 96 n t.n, pulseCount := 0
      pulseStamp := none, tapStamp := none, taps := [] } := by
  cases n <;> rfl

end Sys2Proof.Machine

namespace Sys2Proof

open Machine

/-- Settles O40. -/
theorem tempoSetWritesThePeriod : Obligations.TempoSetWritesThePeriod := by
  intro s p tag e r takes
  refine ⟨fun pulse => ?_, fun source => ?_⟩
  · refine (exec_taken takes).trans (congrArg _ (Eq.trans ?_ (takes.answer .wrongState .none)))
    exact if_pos pulse
  · intro v st g
    have ran : exec (.tempoSet p tag r) s = .next (ownTempoSet r ⟨p, e⟩ (s.taken p tag 16 e)) :=
      exec_taken takes
    have value : clampNat 12000 144000 r.period = v := clampNat_eq (by decide) _
    have status : doneOrClamped (clamps 12000 144000 r.period) = st :=
      clampedStatus_one (clamps_iff (by decide) r.period)
    rw [ownTempoSet_eq (s := s.taken p tag 16 e) ⟨p, e⟩ source, value, status] at ran
    cases restart : r.restart with
    | false =>
      simp only [restart, Bool.false_eq_true, if_false] at ran ⊢
      have replied := congrArg State.pif (takes.answer st (.tempoSet v s.tgn.inForce s.tgn.source))
      have notices := (State.noticeWrite_notices ((s.taken p tag 16 e).periodWritten v) s.tgn.period
        .tempoSet (some p)).answer ⟨p, e⟩ st (.tempoSet v s.tgn.inForce s.tgn.source)
      refine ⟨_, ran, ?_, ?_, fun _ => ?_, fun _ same => ?_, fun _ moved => ?_, nofun⟩
      · exact congrArg State.tgn notices.1
      · exact notices.2.trans (congrArg Pif.quiet replied)
      · exact notices.tempoAlone (s := s) rfl
      · refine (congrArg State.pif (State.noticeWrite_answer ..)).trans ?_
        rw [if_pos (by exact same)]
        exact replied
      · refine (congrArg State.pif (State.noticeWrite_answer ..)).trans ?_
        rw [if_neg (by exact moved)]
        exact congrArg (Pif.raise · _) replied
    | true =>
      simp only [restart, if_true] at ran ⊢
      have replied := congrArg State.pif (takes.answer st (.tempoSet v v s.tgn.source))
      let written := (s.taken p tag 16 e).periodWritten v
      have notices := ((written.beatEvent_notices .restart).trans
        (State.noticeWrite_notices (written.beatEvent .restart) s.tgn.period .tempoSet (some p))).answer
          ⟨p, e⟩ st (.tempoSet v v s.tgn.source)
      refine ⟨_, ran, ?_, ?_, nofun, nofun, nofun, fun _ => ⟨?_, ?_⟩⟩
      · exact congrArg State.tgn notices.1
      · exact notices.2.trans (congrArg Pif.quiet replied)
      · exact notices.beatAlone (s := s) rfl
      · refine (congrArg State.pif (State.noticeWrite_answer ..)).trans ?_
        have beat := (State.beatEvent_answer written .restart ⟨p, e⟩ st (.tempoSet v v s.tgn.source)).trans
          (congrArg (Pif.raise · _) replied)
        by_cases same : v = s.tgn.period
        · rw [if_pos (by exact same), if_pos same]
          exact beat
        · rw [if_neg (by exact same), if_neg same]
          exact congrArg (Pif.raise · _) beat

/-- Settles O41. -/
theorem tempoSourceSelects : Obligations.TempoSourceSelects := by
  intro s p tag e r takes
  have ran : exec (.tempoSource p tag r) s = .next (ownTempoSource r ⟨p, e⟩ (s.taken p tag 15 e)) :=
    exec_taken takes
  refine ⟨fun refused => ?_, fun low high edges => ?_⟩
  · refine ran.trans (congrArg _ (Eq.trans ?_ (takes.answer .invalid .none)))
    have choices : tempoSourceOf r.source = none ∨ optChoice pulseEdgeOf r.edge = none := by
      rcases refused with low | high | ⟨v, is, outside⟩
      · exact .inl (tempoSourceOf_none (.inl low))
      · exact .inl (tempoSourceOf_none (.inr high))
      · exact .inr (optChoice_refused is (pulseEdgeOf_none outside))
    unfold ownTempoSource
    rcases choices with source | edge
    · rw [source]
      rfl
    · rw [edge]
      cases tempoSourceOf r.source <;> rfl
  · intro src edge n pulse g
    obtain ⟨m, edge_eq, isEdge⟩ := pulseEdge_choice r.edge s.tgn.edge edges
    have status := clampedStatus_one (optClamps_iff (lo := 1) (hi := 96) (by decide) r.n)
    rw [show (if ∃ v, r.n = some v ∧ (v < 1 ∨ 96 < v) then Status.clamped else Status.done) =
      doneOrClamped (optClamps 1 96 r.n) from status.symm]
    obtain ⟨st, isSt⟩ : ∃ st, doneOrClamped (optClamps 1 96 r.n) = st := ⟨_, rfl⟩
    rw [isSt]
    have number : optSetting 1 96 r.n s.tgn.n = n := optSetting_eq (by decide) ..
    have waiting : (if src = .pulse then some PulseState.waiting else none) = pulse := by
      simp only [src, pulse]
      obtain zero | one | two : r.source = 0 ∨ r.source = 1 ∨ r.source = 2 := by omega
      · simp [zero]
      · simp [one]
      · simp [two]
    have select : (s.taken p tag 15 e).tgn.select src m r.n = g := by
      rw [Tgn.select_eq, waiting]
      simp only [g, ← number, ← show m.getD s.tgn.edge = edge from isEdge]
      rfl
    rw [ownTempoSource_eq (s := s.taken p tag 15 e) ⟨p, e⟩ (tempoSource_choice low high) edge_eq
      select isSt] at ran
    have waits : (s.taken p tag 15 e).tgn.waitsForPulse = true ↔
        s.tgn.pulse = some .following ∧ s.tgn.counter = 0 := Tgn.waitsForPulse_iff s.tgn
    have replied := fun st => congrArg State.pif (takes.answer st (.tempoSource src pulse edge n))
    let u := (s.taken p tag 15 e).sourceTaken g
    by_cases held : s.tgn.pulse = some .following ∧ s.tgn.counter = 0
    · rw [if_pos (waits.mpr held)] at ran
      rw [if_pos held]
      have notices := ((u.beatEvent_notices .counter).trans (.raise _ ((u.beatEvent .counter).tgn.notice none
        true false none false))).answer ⟨p, e⟩ st (.tempoSource src pulse edge n)
      exact ⟨_, ran, congrArg State.tgn notices.1, notices.2.trans (congrArg Pif.quiet (replied _)),
        fun _ => notices.beatAlone (s := s) rfl, fun free => absurd held free⟩
    · rw [if_neg (waits.not.mpr held)] at ran
      rw [if_neg held]
      have notices := (OnlyNotices.raise u (u.tgn.notice none true false none false)).answer ⟨p, e⟩ st
        (.tempoSource src pulse edge n)
      refine ⟨_, ran, congrArg State.tgn notices.1, notices.2.trans (congrArg Pif.quiet (replied _)),
        fun waits => absurd waits held, fun _ => ⟨notices.tempoAlone (s := s) rfl, ?_⟩⟩
      rw [State.raise_answer]
      exact congrArg (Pif.raise · _) (replied _)

end Sys2Proof

/-! PROOFS. Taps, pulses and the events of the beat counter (R117 to R119, R123 to R128). -/

namespace Sys2Proof.Machine

variable {s : State}

/-! ### Taps (R123) -/

/-- The part with a tap's stamp and its series empty. -/
def State.seriesBegun (s : State) : State :=
  { s with tgn := { s.tgn with tapStamp := some s.tgn.frameCount, taps := [] } }

/-- A tap that begins a series changes no period. -/
theorem ownTap_begins {o : TapOutcome} {i : Option Nat} (t : Ticket) (source : s.tgn.source = .tap)
    (running : s.lnk.state = .running) (notValid : o ≠ .valid)
    (tap : s.tgn.tap = (s.seriesBegun.tgn, o, i)) :
    ownTap t s = s.seriesBegun.answer t .done (.tapped o i 0 s.tgn.period) := by
  have same : s.seriesBegun.noticeWrite s.tgn.period .tap (some t.port) = s.seriesBegun := if_pos rfl
  rw [ownTap, if_neg (not_not.mpr source), if_neg (not_not.mpr running)]
  simp only [tap, if_neg notValid, State.noticeWrite_tgn]
  exact congrArg (State.answer · t .done (.tapped o i 0 s.tgn.period)) same

/-- The part with a valid tap's interval and its mean written. -/
def State.tapWritten (s : State) (xs : List Nat) (v : Nat) : State :=
  { s with tgn := { s.tgn with tapStamp := some s.tgn.frameCount, taps := xs, period := v } }

/-- The list of intervals keeps the last four. -/
theorem pushTap_eq {xs : List Nat} (few : xs.length ≤ 4) (i : Nat) :
    pushTap xs i = (if xs.length = 4 then xs.drop 1 else xs) ++ [i] := by
  unfold pushTap
  split
  · next four => rw [four, List.drop_append_of_le_length (by omega)]
  · next fewer => rw [show xs.length + 1 - 4 = 0 by omega, List.drop_zero]

/-- A valid tap writes the period and makes a beat. -/
theorem ownTap_valid {i v : Nat} {xs : List Nat} (t : Ticket) (source : s.tgn.source = .tap)
    (running : s.lnk.state = .running)
    (tap : s.tgn.tap = ((s.tapWritten xs v).tgn, .valid, some i)) :
    OnlyNotices (((s.tapWritten xs v).afterBeat s.pif (s.tapWritten xs v).tgn.beat v).answer t .done
      (.tapped .valid (some i) xs.length v)) (ownTap t s) := by
  have own : ownTap t s = (((s.tapWritten xs v).beatEvent .tap).noticeWrite s.tgn.period .tap
      (some t.port)).answer t .done (.tapped .valid (some i) xs.length v) := by
    rw [ownTap, if_neg (not_not.mpr source), if_neg (not_not.mpr running)]
    simp only [tap, if_true, State.noticeWrite_tgn]
    rfl
  rw [own]
  exact (((s.tapWritten xs v).beatEvent_notices .tap).trans (State.noticeWrite_notices _ _ _ _)).answer
    t .done _

/-! ### The tap timeout, and pulse beats (R124 to R127) -/

theorem Tgn.tapOverdue_iff {t : Tgn} {last : Word32} (source : t.source = .tap)
    (stamped : t.tapStamp = some last) :
    t.tapOverdue = true ↔ 144000 < (t.frameCount - last).toNat := by
  simp only [Tgn.tapOverdue, source, stamped, decide_true, Bool.true_and, Option.any_some,
    decide_eq_true_eq]

/-- A change of the tempo generator with its beat and a notice. -/
theorem State.beat_noticed (s : State) (g : Tgn) (c : BeatCause) (n : Notice) :
    OnlyNotices (s.afterBeat s.pif g.beat g.period)
      ((State.beatEvent { s with tgn := g } c).raise n) :=
  (State.beatEvent_notices { s with tgn := g } c).trans (.raise _ n)

/-- The registers after the first edge of WAITING (R125). -/
def Tgn.firstEdge (t : Tgn) : Tgn :=
  { t with pulseStamp := some t.frameCount, pulseCount := 0, pulse := some .following }

/-- The registers after a pulse beat, before its beat event (R126). -/
def Tgn.pulseBeat (t : Tgn) (v : Nat) : Tgn :=
  { t with pulseCount := 0, period := v, pulseStamp := some t.frameCount }

/-- The registers after the loss of the pulse, before its beat event (R127). -/
def Tgn.lost (t : Tgn) : Tgn := { t with pulse := some .holding, pulseCount := 0 }

theorem State.pulseBeat_notices {v : Nat} (measured : clampNat 12000 144000 s.tgn.pulseInterval = v) :
    OnlyNotices (s.afterBeat s.pif (s.tgn.pulseBeat v).beat v) s.pulseBeat := by
  unfold State.pulseBeat
  simp only [measured]
  split
  · exact State.beatEvent_notices { s with tgn := s.tgn.pulseBeat v } .pulse
  · exact s.beat_noticed (s.tgn.pulseBeat v) .pulse _

/-- The interval since the last pulse beat, clamped. -/
theorem Tgn.pulseInterval_clamped {t : Tgn} {last : Word32} (stamped : t.pulseStamp = some last) :
    clampNat 12000 144000 t.pulseInterval = max 12000 (min 144000 (t.frameCount - last).toNat) := by
  rw [Tgn.pulseInterval, stamped, Option.getD_some, clampNat_eq (by decide)]
  omega

end Sys2Proof.Machine

namespace Sys2Proof

open Machine

/-- Settles O42. -/
theorem tapsAreAveraged : Obligations.TapsAreAveraged := by
  intro s p tag e takes
  have ran : exec (.tap p tag) s = .next (ownTap ⟨p, e⟩ (s.taken p tag 17 e)) := exec_taken takes
  refine ⟨fun other => ?_, fun source down => ?_, fun source running => ?_⟩
  · exact ran.trans (congrArg _ ((if_pos other).trans (takes.answer .wrongState .none)))
  · refine ran.trans (congrArg _ (Eq.trans ?_ (takes.answer .notReady .none)))
    exact (if_neg (not_not.mpr source)).trans (if_pos down)
  · intro now
    have begins : ∀ (o : TapOutcome) (i : Option Nat), o ≠ .valid →
        s.tgn.tap = (s.seriesBegun.tgn, o, i) → exec (.tap p tag) s = .next
          { s.replied p tag 17 e .done (.tapped o i 0 s.tgn.period) with tgn := s.seriesBegun.tgn } :=
      fun o i notValid tap => by
        rw [ran, ownTap_begins (s := s.taken p tag 17 e) ⟨p, e⟩ source running notValid tap]
        exact congrArg (fun u : State => Host.Outcome.next { u with tgn := s.seriesBegun.tgn })
          (takes.answer .done (.tapped o i 0 s.tgn.period))
    refine ⟨fun first => ?_, fun last stamped => ?_⟩
    · exact begins .first none (by decide) (by simp only [Tgn.tap, first]; rfl)
    · intro i
      refine ⟨fun outside => ?_, fun low high few => ?_⟩
      · refine begins .restarted (some i) (by decide) ?_
        simp only [Tgn.tap, stamped]
        exact if_pos outside
      · intro xs v
        have pushed : pushTap s.tgn.taps i = xs := pushTap_eq few i
        have inside : ¬(i < 12000 ∨ 144000 < i) := by omega
        have tap : s.tgn.tap = ((s.tapWritten xs v).tgn, .valid, some i) := by
          simp only [Tgn.tap, stamped]
          refine (if_neg inside).trans ?_
          rw [pushed]
          rfl
        have notices := ownTap_valid (s := s.taken p tag 17 e) ⟨p, e⟩ source running tap
        have replied := congrArg State.pif (takes.answer .done (.tapped .valid (some i) xs.length v))
        refine ⟨_, ran, congrArg State.tgn notices.1, notices.2.trans (congrArg Pif.quiet replied),
          fun each => Tgn.meanInterval_range ?_ ?_, notices.beatAlone (s := s) rfl⟩
        · simp [xs]
        · intro x isOne
          simp only [xs, List.mem_append, List.mem_singleton] at isOne
          rcases isOne with old | rfl
          · split at old
            · exact each x (List.mem_of_mem_drop old)
            · exact each x old
          · exact ⟨low, high⟩

/-- Settles O43. -/
theorem beatsReloadTheCounter : Obligations.BeatsReloadTheCounter := by
  refine ⟨State.beatEvent_eq, fun s free running => ⟨fun zero other => ?_, fun stays => ?_,
    fun lit below => ?_, fun stays => ?_, fun last source stamped => ⟨fun old => ?_, fun young => ?_⟩,
      fun stays => ?_⟩, fun s down => ⟨?_, ?_, ?_, ?_⟩⟩
  · exact (next_unlessReset free _).trans (congrArg _ (if_pos ⟨running, zero, other⟩))
  · refine next_unlessReset_same (if_neg fun h => ?_)
    rcases stays with counts | follows
    · exact counts h.2.1
    · exact h.2.2 follows
  · exact (next_unlessReset free _).trans (congrArg _ (if_pos ⟨running, lit, below⟩))
  · refine next_unlessReset_same (if_neg fun h => ?_)
    rcases stays with dark | above
    · simp [dark] at h
    · omega
  · have overdue := (Tgn.tapOverdue_iff source stamped).mpr old
    exact (next_unlessReset free _).trans (congrArg _ (if_pos ⟨running, overdue⟩))
  · refine next_unlessReset_same (if_neg fun h => ?_)
    have overdue := (Tgn.tapOverdue_iff source stamped).mp h.2
    omega
  · refine next_unlessReset_same (if_neg fun h => ?_)
    have overdue := h.2
    rcases stays with source | none_
    · simp [Tgn.tapOverdue, source] at overdue
    · simp [Tgn.tapOverdue, none_] at overdue
  · exact next_unlessReset_same (if_neg fun h => down h.1)
  · exact next_unlessReset_same (if_neg fun h => down h.1)
  · exact next_unlessReset_same (if_neg fun h => down h.1)
  · exact next_unlessReset_same (if_neg fun h => down h.1)

/-- Settles O44. -/
theorem pulseEdgesMakeBeats : Obligations.PulseEdgesMakeBeats := by
  refine ⟨fun s d free => ⟨fun stays => ?_, fun running direction => ?_⟩,
    fun s free => ⟨fun running follows old => ?_, fun stays => ?_⟩⟩
  · refine next_unlessReset_same ?_
    unfold State.pulseEdge
    split
    · next counts =>
      rcases stays with down | none_ | ⟨rising, falling⟩ | ⟨falling, rising⟩
      · exact absurd counts.1 down
      · simp only [State.countedEdge, none_]
      · simp [rising, falling, PulseEdge.counts] at counts
      · simp [rising, falling, PulseEdge.counts] at counts
    · rfl
  · have counts : s.tgn.edge.counts d = true := by
      rcases direction with both | ⟨rising, d_eq⟩ | ⟨falling, d_eq⟩
      · simp [both, PulseEdge.counts]
      · simp [rising, d_eq, PulseEdge.counts]
      · simp [falling, d_eq, PulseEdge.counts]
    have ran : exec (.pulseEdge d) s = .next s.countedEdge :=
      (next_unlessReset free _).trans (congrArg _ (if_pos ⟨running, counts⟩))
    refine ⟨fun waiting => ?_, fun follows early => ?_, fun last follows nth stamped => ?_,
      fun holding => ?_⟩
    · have edge : s.countedEdge = s.firstEdge := by simp only [State.countedEdge, waiting]
      have notices : OnlyNotices _ s.firstEdge := s.beat_noticed s.tgn.firstEdge .pulse _
      rw [edge] at ran
      exact ⟨_, ran, congrArg State.tgn notices.1, notices.2, notices.beatAlone (s := s) rfl⟩
    · refine ran.trans (congrArg _ ?_)
      simp only [State.countedEdge, follows]
      exact if_pos early
    · intro v
      have edge : s.countedEdge = s.pulseBeat := by
        simp only [State.countedEdge, follows]
        exact if_neg (by omega)
      have notices := State.pulseBeat_notices (Tgn.pulseInterval_clamped stamped)
      rw [edge] at ran
      exact ⟨_, ran, congrArg State.tgn notices.1, notices.2, notices.beatAlone (s := s) rfl⟩
    · have notices : OnlyNotices { s with tgn := { s.tgn with pulse := some .waiting, pulseCount := 0 } }
          s.countedEdge := by
        simp only [State.countedEdge, holding]
        exact .raise _ _
      exact ⟨_, ran, congrArg State.tgn notices.1, notices.tempoAlone (s := s) rfl, notices.2⟩
  · have notices : OnlyNotices _ _ := s.beat_noticed s.tgn.lost .hold
      (s.tgn.lost.beat.notice none false true none false)
    have ran : exec .pulseLost s = .next _ :=
      (next_unlessReset free _).trans (congrArg _ (if_pos ⟨running, follows, old⟩))
    exact ⟨_, ran, congrArg State.tgn notices.1, notices.2, notices.beatAlone (s := s) rfl⟩
  · refine next_unlessReset_same (if_neg fun h => ?_)
    rcases stays with down | other | young
    · exact down h.1
    · exact other h.2.1
    · omega

end Sys2Proof

/-! PROOFS. The tuner: its mode, its frames and captures, and the block tests (R135 to R145). -/

namespace Sys2Proof.Machine

variable {s : State}

/-! ### TUNER-MODE (R145) -/

theorem tunerModeOf_none {v : Int} (outside : v < 0 ∨ 2 < v) : tunerModeOf v = none := by
  unfold tunerModeOf
  rw [if_neg (by omega), if_neg (by omega), if_neg (by omega)]

theorem tunerMode_choice {v : Int} (low : 0 ≤ v) (high : v ≤ 2) :
    tunerModeOf v = some (if v = 0 then .off else if v = 1 then .monitor else .silent) := by
  obtain rfl | rfl | rfl : v = 0 ∨ v = 1 ∨ v = 2 := by omega
  · rfl
  · rfl
  · rfl

/-- A change of mode turns TUNER_SILENT with it. -/
theorem State.setTunerMode_eq (s : State) (m : TunerMode) : s.setTunerMode m = { s with
    tun := s.tun.setMode m
    opu := s.opu.setReasons { s.opu.reasons with tunerSilent := decide (m = .silent) } } := by
  unfold State.setTunerMode
  by_cases silent : m = .silent
  · simp only [silent, if_true, decide_true]
    rfl
  · simp only [silent, if_false, decide_false]
    rfl

theorem ownTunerMode_same {r : TunerModeReq} (t : Ticket) (mode : tunerModeOf r.mode = some s.tun.mode) :
    ownTunerMode r t s = s.answer t .done (.tunerMode s.tun.mode s.tun.state) := by
  simp only [ownTunerMode, mode, if_true]

theorem ownTunerMode_changes {r : TunerModeReq} {m : TunerMode} (t : Ticket)
    (mode : tunerModeOf r.mode = some m) (other : m ≠ s.tun.mode) :
    ownTunerMode r t s = ((s.setTunerMode m).answer t .done
      (.tunerMode (s.tun.setMode m).mode (s.tun.setMode m).state)).raise
        ((s.tun.setMode m).notice .mode) := by
  have tun : (s.setTunerMode m).tun = s.tun.setMode m := by rw [State.setTunerMode_eq]
  simp only [ownTunerMode, mode, if_neg other, ← State.raise_answer, tun]
  rw [State.raise_tun, tun]

theorem Tun.setMode_mode (t : Tun) (m : TunerMode) : (t.setMode m).mode = m := by
  unfold Tun.setMode
  split
  · rfl
  · split <;> rfl

theorem Tun.setMode_readingCount (t : Tun) (m : TunerMode) :
    (t.setMode m).readingCount = t.readingCount := by
  unfold Tun.setMode
  split
  · rfl
  · split <;> rfl

end Sys2Proof.Machine

namespace Sys2Proof

open Machine

/-- Settles O46. -/
theorem tunerModeAndTimeout : Obligations.TunerModeAndTimeout := by
  refine ⟨fun s p tag e r takes => ⟨fun outside => ?_, fun low high => ?_⟩,
    fun s free => ⟨fun on count reading => ?_, fun stays => ?_⟩⟩
  · refine (exec_taken takes).trans (congrArg _ (Eq.trans ?_ (takes.answer .invalid .none)))
    show ownTunerMode r ⟨p, e⟩ (s.taken p tag 19 e) = _
    simp only [ownTunerMode, tunerModeOf_none outside]
    rfl
  · intro m fresh u
    have mode : tunerModeOf r.mode = some m := tunerMode_choice low high
    have ran : exec (.tunerMode p tag r) s = .next (ownTunerMode r ⟨p, e⟩ (s.taken p tag 19 e)) :=
      exec_taken takes
    by_cases same : s.tun.mode = m
    · have here : u = s.tun := if_pos same
      have answered := ran.trans (congrArg _ ((ownTunerMode_same (s := s.taken p tag 19 e) ⟨p, e⟩
        (mode.trans (congrArg some same.symm))).trans (takes.answer .done (.tunerMode s.tun.mode s.tun.state))))
      rw [here]
      refine ⟨_, answered, rfl, by rw [same]; rfl, fun _ => by rw [same]; rfl, fun other => absurd same other,
        rfl, rfl, rfl, rfl, rfl, rfl, rfl⟩
    · have here : s.tun.setMode m = u := (if_neg same).symm.trans rfl
      have set : (s.taken p tag 19 e).setTunerMode m = _ := State.setTunerMode_eq ..
      have mode' : u.mode = m := here ▸ s.tun.setMode_mode m
      have count : u.readingCount = s.tun.readingCount := here ▸ s.tun.setMode_readingCount m
      have replied := congrArg State.pif (takes.answer .done (.tunerMode m u.state))
      rw [ownTunerMode_changes (s := s.taken p tag 19 e) ⟨p, e⟩ mode (Ne.symm same), set,
        show (s.taken p tag 19 e).tun.setMode m = u from here, Tun.notice, mode', count] at ran
      exact ⟨_, ran, rfl, (Pif.raise_quiet _ _).trans (congrArg Pif.quiet replied),
        fun same' => absurd same' same, fun _ => ⟨rfl, congrArg (Pif.raise · _) replied⟩,
        rfl, rfl, rfl, rfl, rfl, rfl, rfl⟩
  · refine (next_unlessReset free _).trans (congrArg _ ?_)
    exact if_pos ⟨on, count, reading⟩
  · refine next_unlessReset_same (if_neg fun h => ?_)
    rcases stays with off | other | none_
    · exact h.1 off
    · exact other h.2.1
    · exact h.2.2 none_

end Sys2Proof

/-! PROOFS. The tuner's frames: captures, periods and readings (R135 to R143). -/

namespace Sys2Proof.Machine

/-! ### The five steps of a frame (R135) -/

/-- What a capture and a reading leave alone. -/
theorem Tun.crossing_keeps (t : Tun) (x : Int) :
    let c := t.crossing x
    c = { t with
      armed := c.armed, prevCapture := c.prevCapture, wraps := c.wraps, series := c.series
      reading := c.reading, readingCount := c.readingCount, sinceReading := c.sinceReading
      state := c.state } := by
  unfold Tun.crossing
  split
  · split <;> rfl
  · rfl

theorem Tun.fires_iff (t : Tun) (x : Int) : t.fires x = true ↔
    t.mode ≠ .off ∧ t.armed = true ∧ 0 ≤ x ∧ ∃ u, t.prevSample = some u ∧ u < 0 := by
  unfold Tun.fires
  cases t.prevSample with
  | none => simp
  | some u => simp; tauto

theorem Tun.arming_eq (t : Tun) (x : Int) : t.arming x = { t with
    armed := if t.mode ≠ .off ∧ x < -((t.floor / 2 : Nat) : Int) then true else t.armed } := by
  unfold Tun.arming
  split <;> rfl

theorem Tun.advance_eq (t : Tun) (carried : Bool) : t.advance carried = { t with
    timebase := if 65472 < t.timebase + 64 then 0 else t.timebase + 64
    wraps := if 65472 < t.timebase + 64 then (if carried then t.wraps else min 3 (t.wraps + 1))
      else t.wraps } := by
  unfold Tun.advance
  split
  · next below => rw [if_neg (Nat.not_lt.mpr below), if_neg (Nat.not_lt.mpr below)]
  · next above => rw [if_pos (Nat.lt_of_not_le above), if_pos (Nat.lt_of_not_le above)]

theorem Tun.peak_eq (t : Tun) (x : Int) : t.peak x = { t with
    blockPeak := if t.mode ≠ .off then max t.blockPeak x.natAbs else t.blockPeak } := by
  unfold Tun.peak
  split <;> rfl

/-- The registers after a frame, by what the crossing check leaves. -/
theorem Tun.frame_eq {t : Tun} (x : Int) (goesOn : t.returned = false) :
    t.frame x =
      (let c := t.crossing x
       { c with
         armed := if t.mode ≠ .off ∧ x < -((t.floor / 2 : Nat) : Int) then true else c.armed
         timebase := if 65472 < t.timebase + 64 then 0 else t.timebase + 64
         wraps := if 65472 < t.timebase + 64 then
             (if t.fires x && t.carries x then c.wraps else min 3 (c.wraps + 1))
           else c.wraps
         blockPeak := if t.mode ≠ .off then max t.blockPeak x.natAbs else t.blockPeak
         prevSample := some x }) := by
  have keeps := t.crossing_keeps x
  have mode : (t.crossing x).mode = t.mode := by rw [keeps]
  have floor : (t.crossing x).floor = t.floor := by rw [keeps]
  have timebase : (t.crossing x).timebase = t.timebase := by rw [keeps]
  have blockPeak : (t.crossing x).blockPeak = t.blockPeak := by rw [keeps]
  simp only [Tun.frame, goesOn, Bool.false_eq_true, if_false, Tun.measure, Tun.arming_eq,
    Tun.advance_eq, Tun.peak_eq, mode, floor, timebase, blockPeak]

theorem Tun.crossing_of_quiet {t : Tun} {x : Int} (quiet : t.fires x = false) : t.crossing x = t := by
  simp [Tun.crossing, quiet]

/-! ### Captures and their periods (R136 to R139) -/

/-- The offset of a crossing is at most a frame's 64 ticks. -/
theorem crossingOffset_le {u x : Int} (below : u < 0) (above : 0 ≤ x) : crossingOffset u x ≤ 64 := by
  unfold crossingOffset
  have pos : 0 < 2 * (x - u) := by omega
  have bound : (128 * -u + (x - u)) / (2 * (x - u)) < 65 := by
    rw [Int.ediv_lt_iff_lt_mul pos]
    nlinarith
  omega

/-- The capture value of a crossing, modulo the timebase. -/
theorem Tun.captureValue_eq {t : Tun} {x : Int} (within : t.rawCapture x < 131072) :
    t.captureValue x = t.rawCapture x % 65536 := by
  unfold Tun.captureValue Tun.carries
  split
  · next carries => simp only [decide_eq_true_eq] at carries; omega
  · next fits => simp only [decide_eq_true_eq] at fits; omega

/-- The period of a capture from the one before it. -/
theorem Tun.period_eq {t : Tun} {x : Int} {q : Nat} (before : t.prevCapture = some q) :
    t.period x = some (65536 * (t.wraps : Int) + t.rawCapture x - q) := by
  rw [Tun.period, before]
  refine congrArg some ?_
  unfold Tun.captureValue Tun.carries
  by_cases carries : 65536 ≤ t.rawCapture x
  · simp only [carries, decide_true, if_true]
    push_cast
    omega
  · simp only [carries, decide_false, Bool.false_eq_true, if_false]

/-- A capture that fires, whether or not it completes a reading. -/
theorem Tun.crossing_fired {t : Tun} {x : Int} (fires : t.fires x = true) :
    (t.crossing x).armed = false ∧ (t.crossing x).prevCapture = some (t.captureValue x) ∧
      (t.crossing x).wraps = 0 := by
  rw [Tun.crossing, if_pos fires]
  split <;> exact ⟨rfl, rfl, rfl⟩

theorem Tun.crossing_captured {t : Tun} {x : Int} (fires : t.fires x = true)
    (partial_ : t.completes x = false) : t.crossing x = t.captured x := by
  rw [Tun.crossing, if_pos fires, partial_, if_neg Bool.false_ne_true]

theorem Tun.crossing_reads {t : Tun} {x : Int} (fires : t.fires x = true)
    (full : t.completes x = true) : t.crossing x = (t.captured x).read := by
  rw [Tun.crossing, if_pos fires, if_pos full]

/-- The series after a capture with a period. -/
theorem Tun.captured_seriesAfter {t : Tun} {x p : Int} (period : t.period x = some p) :
    (t.captured x).series = seriesAfter t.series p := by
  simp only [Tun.captured, period]

theorem Tun.completes_iff {t : Tun} {x p : Int} (period : t.period x = some p) : t.completes x = true ↔
    periodValid p = true ∧ (seriesAfter t.series p).length = t.k := by
  simp only [Tun.completes, period, Tun.captured_seriesAfter period, Option.any_some, Bool.and_eq_true,
    decide_eq_true_eq]

theorem periodValid_iff (p : Int) : periodValid p = true ↔ 1536 ≤ p ∧ p ≤ 131072 := by
  simp [periodValid]

theorem seriesAfter_invalid {xs : List Nat} {p : Int} (invalid : p < 1536 ∨ 131072 < p) :
    seriesAfter xs p = [] := by
  have : ¬ periodValid p = true := by rw [periodValid_iff]; omega
  exact if_neg this

theorem seriesAfter_empty {p : Int} (valid : periodValid p = true) : seriesAfter [] p = [p.toNat] :=
  if_pos valid

theorem seriesAfter_append {xs : List Nat} {y : Nat} {p : Int} (valid : periodValid p = true) :
    seriesAfter (xs ++ [y]) p =
      if y < (p - y).natAbs * 16 then [p.toNat] else xs ++ [y] ++ [p.toNat] := by
  simp only [seriesAfter, if_pos valid, newest, List.getLast?_concat]
  norm_cast

/-- The block tests, test by test (R140, R144). -/
theorem Tun.blockTests_eq (t : Tun) : t.blockTests =
    if t.mode = .off then t
    else { t with
      series := if t.blockPeak < t.floor then [] else t.series
      prevCapture := if t.blockPeak < t.floor then none else t.prevCapture
      sinceReading := min 300 (t.sinceReading + 1)
      blockPeak := 0 } := by
  simp only [Tun.blockTests, decide_eq_true_eq]

/-! ### What a boundary leaves of the tuner (R1, R140) -/

variable {s : State}

theorem State.beginDuePass_tun (s : State) : s.beginDuePass.tun = s.tun := by
  unfold State.beginDuePass
  split
  · rfl
  · split
    · rfl
    · split <;> rfl

theorem State.lastBlock_tun (s : State) : s.lastBlock.tun = s.tun := by
  unfold State.lastBlock
  split <;> rfl

theorem State.enterFade_tun (s : State) (ph : SwitchPhase) (k : SwitchKind) (f : Nat) :
    (s.enterFade ph k f).tun = s.tun := by
  unfold State.enterFade
  dsimp only
  split
  · exact State.lastBlock_tun _
  · rfl

theorem State.afterBuild_tun (s : State) : s.afterBuild.tun = s.tun := by
  unfold State.afterBuild
  split
  · split
    · exact s.lastBlock_tun
    · rfl
  · rfl

theorem State.relayTakesTarget_tun (s : State) : s.relayTakesTarget.tun = s.tun := by
  unfold State.relayTakesTarget
  split
  · rfl
  · split <;> rfl

theorem State.answerResume_tun (s : State) : s.answerResume.tun = s.tun := by
  unfold State.answerResume
  split <;> rfl

theorem State.startingComplete_tun (s : State) : s.startingComplete.tun = s.tun := by
  unfold State.startingComplete
  split
  · dsimp only
    rw [State.beginDuePass_tun, State.answerResume_tun, State.handLevel_tun, State.relayTakesTarget_tun]
  · rfl

theorem State.grantAfterReclaim_tun (s : State) : s.grantAfterReclaim.tun = s.tun := by
  unfold State.grantAfterReclaim
  split
  · rw [State.beginDuePass_tun, State.afterBuild_tun, State.buildBack_tun, State.grantBack_tun]
  · rfl

theorem State.endOfPrepare_tun (s : State) : s.endOfPrepare.tun = s.tun := by
  unfold State.endOfPrepare
  split
  · split
    · rfl
    · rw [State.beginDuePass_tun]
      split
      · unfold State.zeroFadeEnd
        split
        · rfl
        · exact State.lastBlock_tun _
      · unfold State.budgetCheck
        dsimp only
        split
        · exact State.enterFade_tun ..
        · split
          · exact State.enterFade_tun ..
          · rfl
  · rfl

theorem State.commit_tun (s : State) : s.commit.tun = s.tun := by
  cases switch : s.scn.switch with
  | none => simp only [State.commit, switch]
  | some r =>
    cases due : r.commitDue with
    | false => simp [State.commit, switch, due]
    | true =>
      obtain ⟨v, commits, eq, -⟩ := State.commit_due switch due
      rw [commits, State.beginDuePass_tun, eq]
      rfl

theorem State.gapInEnd_tun (s : State) : s.gapInEnd.tun = s.tun := by
  unfold State.gapInEnd
  split
  · rw [State.beginDuePass_tun]
    rfl
  · rfl

theorem State.requestGrant_tun (s : State) : s.requestGrant.tun = s.tun := by
  unfold State.requestGrant
  dsimp only
  split
  · exact s.grantBack_tun
  · rfl

theorem State.toggleAfter_tun (s : State) (r : RecallReq) (p : Port) : (s.toggleAfter r p).tun = s.tun := by
  rw [(s.toggleAfter_notices r p).1]
  rfl

theorem State.supersede_tun (s : State) (p : Port) : (s.supersede p).tun = s.tun := by
  unfold State.supersede
  split <;> rfl

theorem State.takeRecall_tun (s : State) (t : Ticket) (r : RecallReq) : (s.takeRecall t r).tun = s.tun := by
  unfold State.takeRecall
  dsimp only
  split
  · rfl
  · rw [(State.beginSwitch_notices ..).1]
    show (State.requestGrant _).tun = _
    rw [State.requestGrant_tun]
    exact (State.supersede_tun _ _).trans (State.toggleAfter_tun _ _ _)

theorem State.pendingTake_tun (s : State) : s.pendingTake.tun = s.tun := by
  unfold State.pendingTake
  split
  · split
    · exact State.takeRecall_tun _ _ _
    · rfl
  · rfl

theorem State.finishPass_tun (s : State) : s.finishPass.tun = s.tun := by
  unfold State.finishPass
  split
  · next under =>
    obtain ⟨r, is⟩ := Option.isSome_iff_exists.mp under
    show s.passComplete.tun = s.tun
    rw [State.passComplete_eq is]
    rfl
  · rfl

theorem State.fadeBoundary_tun (s : State) (r : SwitchRec) : (s.fadeBoundary r).tun = s.tun := by
  unfold State.fadeBoundary
  dsimp only
  split
  · rfl
  · split
    · exact State.lastBlock_tun _
    · rfl

theorem State.prepareBoundary_tun (s : State) (r : SwitchRec) : (s.prepareBoundary r).tun = s.tun := by
  unfold State.prepareBoundary
  split
  · unfold State.waitBoundary
    dsimp only
    split <;> rfl
  · split
    · exact (State.afterBuild_tun _).trans s.buildBack_tun
    · split
      · exact State.enterFade_tun ..
      · rfl

theorem State.engineBoundary_tun (s : State) : s.engineBoundary.tun = s.tun := by
  unfold State.engineBoundary
  split
  · split
    · exact s.buildFront_tun
    · rfl
  · unfold State.switchBoundary
    split
    · rfl
    · split
      · rfl
      · exact State.prepareBoundary_tun ..
      · exact State.fadeBoundary_tun ..
      · exact State.fadeBoundary_tun ..
      · rfl
  · rfl
  · rfl

theorem State.catchUp_tun (s : State) : s.catchUp.tun = s.tun := by
  simp only [State.catchUp, State.boundarySteps, State.finishPass_tun, State.pendingTake_tun,
    State.gapInEnd_tun, State.commit_tun, State.endOfPrepare_tun, State.grantAfterReclaim_tun,
    State.startingComplete_tun]

theorem State.boundary_tun (s : State) : s.boundary.tun = s.tun.blockTests := by
  unfold State.boundary
  dsimp only
  rw [State.beginDuePass_tun, State.engineBoundary_tun]

end Sys2Proof.Machine

namespace Sys2Proof

open Machine

/-- Settles O47. -/
theorem capturesFormPeriodsAndReadings : Obligations.CapturesFormPeriodsAndReadings := by
  refine ⟨fun t x returned => if_pos returned, fun t x goesOn => ?_, fun s free => ?_,
    fun t u x goesOn on armed prev below above low multiple => ?_⟩
  · intro fires half a
    have fires_iff : t.fires x = true ↔ fires := t.fires_iff x
    have frame : a = _ := Tun.frame_eq x goesOn
    have keeps := t.crossing_keeps x
    clear_value a
    subst frame
    refine ⟨rfl, ?_, ?_, ?_, ?_, ?_, ?_, rfl, fun off => ?_, fun on => if_pos on, fun on low => if_pos ⟨on, low⟩,
      fun high quiet => ?_, fun quiet => ?_⟩
    · rw [keeps, goesOn]
    · rw [keeps]
    · rw [keeps]
    · rw [keeps]
    · rw [keeps]
    · rw [keeps]
    · have quiet : t.fires x = false := by
        rw [Bool.eq_false_iff]
        exact fun fires => (fires_iff.mp fires).1 off
      simp [Tun.crossing_of_quiet quiet, off]
    · have quiet : t.fires x = false := Bool.eq_false_iff.mpr (mt fires_iff.mp quiet)
      rw [Tun.crossing_of_quiet quiet]
      exact if_neg fun h => absurd h.2 (not_lt.mpr high)
    · have quiet : t.fires x = false := Bool.eq_false_iff.mpr (mt fires_iff.mp quiet)
      rw [Tun.crossing_of_quiet quiet]
      simp only [quiet, Bool.false_and, Bool.false_eq_true, if_false, and_self]
  · refine ⟨fun whole => ⟨_, (next_unlessReset free _).trans (congrArg _ (if_pos whole)), ?_⟩, fun part =>
      next_unlessReset_same (if_neg (Nat.not_le.mpr part))⟩
    rw [State.boundary_tun, State.catchUp_tun, Tun.blockTests_eq]
  · intro fr raw c a
    have fires : t.fires x = true := (t.fires_iff x).mpr ⟨on, armed, above, u, prev, below⟩
    have raw_eq : t.rawCapture x = raw := by
      rw [Tun.rawCapture, prev]
      rfl
    have frLe : fr ≤ 64 := crossingOffset_le below above
    have value : t.captureValue x = c := (Tun.captureValue_eq (by omega)).trans (by rw [raw_eq])
    obtain ⟨unarmed, captured, wraps⟩ := Tun.crossing_fired fires
    have frame : a = _ := Tun.frame_eq x goesOn
    have carries : t.carries x = decide (65536 ≤ raw) := by rw [Tun.carries, raw_eq]
    clear_value a
    subst frame
    refine ⟨frLe, ?_, ?_, rfl, ?_, ?_, fun first => ?_, fun q before => ?_⟩
    · exact (if_neg fun h => by omega).trans unarmed
    · rw [captured, value]
    · show (if 65472 < t.timebase + 64 then 0 else t.timebase + 64) = _
      split <;> omega
    · simp only [fires, Bool.true_and, wraps, carries]
      by_cases last : t.timebase = 65472
      · by_cases carried : 65536 ≤ raw
        · simp [last, carried, Nat.not_lt.mpr carried]
        · simp [last, carried, Nat.lt_of_not_le carried]
      · rw [if_neg (by omega), if_neg (by omega)]
    · have none_ : t.period x = none := by rw [Tun.period, first]; rfl
      rw [Tun.crossing_captured fires (by rw [Tun.completes, none_]; rfl)]
      refine ⟨?_, rfl, rfl⟩
      simp only [Tun.captured, none_]
    · intro p
      have period : t.period x = some p := by rw [Tun.period_eq before, raw_eq]
      have completes := Tun.completes_iff period
      have series := Tun.captured_seriesAfter period
      refine ⟨fun invalid => ?_, fun low high several => ?_⟩
      · rw [Tun.crossing_captured fires (Bool.eq_false_iff.mpr fun full => ?_)]
        · exact ⟨series.trans (seriesAfter_invalid invalid), rfl, rfl⟩
        · have := (periodValid_iff p).mp (completes.mp full).1
          omega
      · have valid := (periodValid_iff p).mpr ⟨low, high⟩
        have extends_ : ∀ xs : List Nat, seriesAfter t.series p = xs → xs.length ≠ t.k →
            (t.crossing x).series = xs ∧ (t.crossing x).reading = t.reading := fun xs after few => by
          rw [Tun.crossing_captured fires (Bool.eq_false_iff.mpr fun full => few ?_)]
          · exact ⟨series.trans after, rfl⟩
          · rw [← after]
            exact (completes.mp full).2
        refine ⟨fun empty => ?_, fun xs y is => ⟨fun unstable => ?_, fun stable short => ?_,
          fun stable kth => ?_⟩⟩
        · refine extends_ [p.toNat] (by rw [empty]; exact seriesAfter_empty valid) ?_
          simp only [List.length_singleton]
          omega
        · refine extends_ [p.toNat] ?_ ?_
          · rw [is, seriesAfter_append valid, if_pos unstable]
          · simp only [List.length_singleton]
            omega
        · refine extends_ (t.series ++ [p.toNat]) ?_ ?_
          · rw [is, seriesAfter_append valid, if_neg (by omega)]
          · simpa using short
        · intro mean
          have after : seriesAfter t.series p = t.series ++ [p.toNat] := by
            rw [is, seriesAfter_append valid, if_neg (by omega)]
          have full : t.completes x = true := completes.mpr ⟨valid, by rw [after]; simpa using kth⟩
          have mean_eq : meanPeriod (t.captured x).series = mean := by
            rw [series, after, meanPeriod, List.sum_append, List.length_append]
            simp only [List.sum_singleton, List.length_singleton, kth]
            rfl
          rw [Tun.crossing_reads fires full]
          simp only [Tun.read, mean_eq, Option.isSome_map]
          refine ⟨trivial, rfl, trivial, rfl, ?_⟩
          rfl

end Sys2Proof

/-! PROOFS. Output protection: MUTE, the ends of the ramps, the relay, RESUME (R152 to R168). -/

namespace Sys2Proof.Machine

variable {s : State}

/-! ### MUTE (R153, R155) -/

theorem muteOf_none {v : Int} (outside : v < 0 ∨ 1 < v) : muteOf v = none := by
  unfold muteOf
  rw [if_neg (by omega), if_neg (by omega)]

theorem muteOf_some {v : Int} (inside : v = 0 ∨ v = 1) : muteOf v = some (decide (v = 0)) := by
  rcases inside with rfl | rfl <;> rfl

/-- The gain state after the set changes, case by case. -/
theorem gainStateAfter_eq (was now : Bool) (g : GainState) : gainStateAfter was now g =
    if was = true ∧ now = false ∧ (g = .opened ∨ g = .rampUp) then .rampDown
    else if was = false ∧ now = true ∧ (g = .muted ∨ g = .rampDown) then .rampUp
    else g := by
  cases was <;> cases now <;> cases g <;> rfl

/-- MASTER_MUTE put in or taken out, and the gain state with it. -/
theorem ownMute_taken {r : MuteReq} (t : Ticket) (inside : r.value = 0 ∨ r.value = 1) :
    ownMute r t s =
      (let o := s.opu.setReasons { s.opu.reasons with masterMute := decide (r.value = 0) }
       State.answer { s with opu := o } t .done (.muted o.reasons o.gain o.gainState)) := by
  simp only [ownMute, muteOf_some inside]
  by_cases on : r.value = 0
  · simp only [on, decide_true, if_true]
    rfl
  · simp only [on, decide_false, Bool.false_eq_true, if_false]
    rfl

/-! ### The relay (R167, R168) -/

theorem State.relayDue_iff (s : State) (m : RelayMove) : s.relayDue m = true ↔
    m.hold = none ∧ s.opu.gainState = .muted ∧ (m.target = .bypass ∨ s.lnk.state = .running) := by
  simp [State.relayDue, and_assoc]

/-- A move as it stands or with its target taken. -/
theorem State.relayTakesTarget_eq {m : RelayMove} (moving : s.opu.move = some m) {takes : Prop}
    [Decidable takes] (due : s.relayDue m = true ↔ takes) :
    s.relayTakesTarget = { s with opu := { s.opu with
      relay := if takes then m.target else s.opu.relay
      move := some (if takes then { m with hold := some 4 } else m) } } := by
  by_cases is : takes
  · rw [State.relayTakesTarget_due moving (due.mpr is), if_pos is, if_pos is]
  · rw [State.relayTakesTarget_waits moving (Bool.eq_false_iff.mpr (mt due.mp is)), if_neg is, if_neg is,
      ← moving]

end Sys2Proof.Machine

namespace Sys2Proof

open Machine

/-- Settles O48. -/
theorem muteGainAndRelay : Obligations.MuteGainAndRelay := by
  refine ⟨fun s p tag e r takes => ⟨fun outside => ?_, fun inside => ?_⟩,
    fun s free => ⟨fun down zero still => ?_, fun m down zero moving => ?_, fun stays => ?_,
      fun up full => ?_, fun stays => ?_⟩,
    fun s m free moving => ⟨fun waits muted may => ?_, fun stays => ?_, fun ended none_ => ?_,
      fun d ended next other => ?_, fun holds => ?_⟩,
    fun s still => ⟨?_, ?_⟩⟩
  · refine (exec_taken takes).trans (congrArg _ (Eq.trans ?_ (takes.answer .invalid .none)))
    show ownMute r ⟨p, e⟩ (s.taken p tag 22 e) = _
    simp only [ownMute, muteOf_none outside]
    rfl
  · intro m g
    have gain : gainStateAfter s.opu.reasons.isEmpty m.isEmpty s.opu.gainState = g := gainStateAfter_eq ..
    have own := ownMute_taken (s := s.taken p tag 22 e) ⟨p, e⟩ inside
    have set : (s.taken p tag 22 e).opu.setReasons { (s.taken p tag 22 e).opu.reasons with
        masterMute := decide (r.value = 0) } = { s.opu with reasons := m, gainState := g } := by
      rw [← gain]
      rfl
    simp only [set] at own
    refine (exec_taken takes).trans (congrArg _ (own.trans ?_))
    exact congrArg (fun u : State => { u with opu := { s.opu with reasons := m, gainState := g } })
      (takes.answer .done (.muted m s.opu.gain g))
  · refine (next_unlessReset free _).trans (congrArg _ ((if_pos ⟨down, zero⟩).trans ?_))
    exact State.relayTakesTarget_still still
  · intro takes
    refine (next_unlessReset free _).trans (congrArg _ ((if_pos ⟨down, zero⟩).trans ?_))
    let u : State := { s with opu := { s.opu with gainState := .muted } }
    exact State.relayTakesTarget_eq (s := u) (takes := takes) moving
      ((State.relayDue_iff u m).trans (and_congr_right fun _ => and_iff_right rfl))
  · exact next_unlessReset_same (if_neg fun h => stays.elim (absurd h.1) (absurd h.2))
  · exact (next_unlessReset free _).trans (congrArg _ (if_pos ⟨up, full⟩))
  · exact next_unlessReset_same (if_neg fun h => stays.elim (absurd h.1) (absurd h.2))
  · refine (next_unlessReset free _).trans (congrArg _ ?_)
    exact State.relayTakesTarget_due moving ((s.relayDue_iff m).mpr ⟨waits, muted, may⟩)
  · refine next_unlessReset_same (State.relayTakesTarget_waits moving (Bool.eq_false_iff.mpr fun due => ?_))
    obtain ⟨waits, muted, may⟩ := (s.relayDue_iff m).mp due
    rcases stays with other | holds | ⟨engaged, down⟩
    · exact other muted
    · exact holds waits
    · exact may.elim (fun bypass => by simp [bypass] at engaged) down
  · have after : s.opu.endHold m = { s.opu.removeReason .relayMove with move := none } := by
      rcases none_ with none_ | same
      · simp [Opu.endHold, none_]
      · simp [Opu.endHold, same]
    have ends : s.relayHoldEnd = { s with opu := s.opu.endHold m } := by
      simp only [State.relayHoldEnd, moving, ended, if_true]
      exact State.relayTakesTarget_still (by rw [after])
    refine ⟨_, (next_unlessReset free _).trans (congrArg _ ends), ?_⟩
    rw [after]
    exact ⟨rfl, rfl, rfl, rfl, rfl⟩
  · intro takes
    have after : s.opu.endHold m = { s.opu with move := some { target := d, hold := none, next := none } } := by
      simp [Opu.endHold, next, other]
    refine (next_unlessReset free _).trans (congrArg _ ?_)
    simp only [State.relayHoldEnd, moving, ended, if_true, after]
    refine (State.relayTakesTarget_eq (takes := takes) rfl
      ((State.relayDue_iff _ _).trans (and_iff_right rfl))).trans ?_
    by_cases is : takes
    · simp only [if_pos is]
    · simp only [if_neg is]
  · refine next_unlessReset_same ?_
    simp only [State.relayHoldEnd, moving]
    exact if_neg holds
  · exact next_unlessReset_same (State.relayTakesTarget_still still)
  · refine next_unlessReset_same ?_
    simp only [State.relayHoldEnd, still]

end Sys2Proof

/-! PROOFS. RESUME by its mode, and the end of the start it waits for (R10, R85, R154, R161, R162). -/

namespace Sys2Proof.Machine

variable {s : State}

theorem resumeModeOf_none {v : Int} (outside : v < 0 ∨ 2 < v) : resumeModeOf v = none := by
  unfold resumeModeOf
  rw [if_neg (by omega), if_neg (by omega), if_neg (by omega)]

theorem resumeModeOf_some {v : Int} (low : 0 ≤ v) (high : v ≤ 2) :
    ∃ m, resumeModeOf v = some m ∧ (m = .scene ↔ v = 0) ∧ (m = .safe ↔ v = 1) ∧ (m = .bypass ↔ v = 2) := by
  obtain rfl | rfl | rfl : v = 0 ∨ v = 1 ∨ v = 2 := by omega
  · exact ⟨.scene, rfl, by decide⟩
  · exact ⟨.safe, rfl, by decide⟩
  · exact ⟨.bypass, rfl, by decide⟩

/-- The part with its fault over (R161). -/
def State.resumed (s : State) : State :=
  { s with opu := { s.opu with fault := none, lastFault := s.opu.fault } }

/-- An accepted RESUME with no tail left. -/
theorem State.acceptResume_eq (noTails : s.spl.tails = []) (t : Ticket) (m : ResumeMode) :
    ∃ n, s.acceptResume t m = (s.resumed.raise n).resumeIn t m := by
  have released : (s.spl.releaseTails fun _ => true) = s.spl := by
    simp [Spl.releaseTails, noTails, tailSegs, putSegments]
    rw [← noTails]
  refine ⟨s.resumed.opu.notice .resumed none (some m) (some t.port) s.resumed.opu.lastFault, ?_⟩
  unfold State.acceptResume
  rw [released]
  rfl

/-- The live scene record and its origin with the safe preset, or the built-in scene, loaded (R85). -/
def Scn.safeLoaded (c : Scn) : Scn :=
  { c with
    live := (c.library.getD c.safeIdx none).getD cleanScene
    origin := if (c.library.getD c.safeIdx none).isSome then some c.safeIdx else none
    dirty := false }

theorem State.loadSafe_notices (s : State) (p : Port) :
    ∃ g : Tgn, OnlyNotices { s with scn := s.scn.safeLoaded, tgn := g } (s.loadSafe p) := by
  let raised := State.raise { s with scn := s.scn.safeLoaded }
    (s.scn.safeLoaded.notice .resumeSafe (some p) none none none)
  have tempo := raised.presetTempo_notices (some p)
    ((s.scn.library.getD s.scn.safeIdx none).getD cleanScene).tempo
  exact ⟨_, (OnlyNotices.raise { s with scn := s.scn.safeLoaded } _).map
    (f := fun u => { u with tgn := _ }) (fun _ _ => rfl) |>.trans tempo⟩

/-- A start of the engine that a RESUME waits for, as FAULT leaves the reason set. -/
theorem State.startsResumed {u : State} (stood : u.opu.reasons.fault = true) (t : Ticket) (m : ResumeMode)
    (safe : Option Bool) :
    (u.startEngine .fault).awaitStart t m safe =
      (let chain := u.scn.live.chain
       let need := chainDemand chain
       { u with
         sen := { u.sen with
           engine := .starting
           front := {
             state := .building, generation := u.scn.generation, stages := []
             granted := u.spl.free.take need, toClear := u.spl.free.take need
             cost := chainCost chain, buildCount := chain.length + (need + 3) / 4 } }
         spl := { u.spl with free := u.spl.free.drop need }
         opu := { u.opu with
           reasons := { u.opu.reasons with fault := false, starting := true }
           resume := some { ticket := t, mode := m, safeSlot := safe, degraded := [] } } }) := by
  rw [State.startEngine_eq (by exact stood) (by decide)]
  rfl

/-- A RESUME in SCENE, up to notices. -/
theorem State.resumes_scene (noTails : s.spl.tails = []) (t : Ticket) :
    OnlyNotices ((s.resumed.startEngine .fault).awaitStart t .scene none) (s.acceptResume t .scene) := by
  obtain ⟨n, accepts⟩ := State.acceptResume_eq noTails t .scene
  rw [accepts]
  exact (OnlyNotices.raise s.resumed n).map (f := fun u => (u.startEngine .fault).awaitStart t .scene none)
    fun _ _ => rfl

/-- A RESUME in SAFE, up to notices. -/
theorem State.resumes_safe (noTails : s.spl.tails = []) (t : Ticket) :
    ∃ g : Tgn, OnlyNotices
      ((State.startEngine { s.resumed with scn := s.scn.safeLoaded, tgn := g } .fault).awaitStart t .safe
        (some (s.scn.library.getD s.scn.safeIdx none).isSome)) (s.acceptResume t .safe) := by
  obtain ⟨n, accepts⟩ := State.acceptResume_eq noTails t .safe
  obtain ⟨g, loads⟩ := (s.resumed.raise n).loadSafe_notices t.port
  refine ⟨g, ?_⟩
  rw [accepts]
  exact (((OnlyNotices.raise s.resumed n).map (f := fun u => { u with scn := s.scn.safeLoaded, tgn := g })
    fun _ _ => rfl).trans loads).map (f := fun u => (u.startEngine .fault).awaitStart t .safe
      (some (s.scn.library.getD s.scn.safeIdx none).isSome)) fun _ _ => rfl

/-- The relay and the reasons after a RESUME in BYPASS (R10, R168). -/
theorem State.resumeBypass_eq (stood : s.opu.reasons.fault = true) (still : s.opu.move = none) :
    s.resumeBypass = { s with
      sen := { s.sen with engine := .stopped, bypassHold := true }
      opu := { s.opu with
        reasons := { s.opu.reasons with
          fault := false, stopped := true
          relayMove := s.opu.reasons.relayMove || decide (s.opu.relay = .engaged) }
        relay := if s.opu.gainState = .muted then .bypass else s.opu.relay
        move := if s.opu.relay = .engaged then
            some { target := .bypass, hold := if s.opu.gainState = .muted then some 4 else none, next := none }
          else none } } := by
  have swapped : s.opu.swapReason .stopped .fault =
      { s.opu with reasons := { s.opu.reasons with stopped := true, fault := false } } :=
    Opu.swapReason_eq stood (by decide)
  obtain ⟨stays, moves, -⟩ := Opu.ordinaryMove_spec (s.opu.swapReason .stopped .fault) .bypass
  rw [swapped] at stays moves
  unfold State.resumeBypass
  rw [swapped]
  cases relay : s.opu.relay with
  | bypass =>
    rw [stays still relay.symm]
    refine (State.relayTakesTarget_still (by exact still)).trans ?_
    simp [relay, still]
  | engaged =>
    have filled : ∀ m : MuteSet, m.stopped = true → m.isEmpty = false := fun m has =>
      MuteSet.isEmpty_of_has (r := .stopped) has
    rw [moves still (by simp [relay]), Opu.addReason,
      Opu.setReasons_filled (filled _ rfl) (filled _ rfl)]
    refine (State.relayTakesTarget_eq (takes := s.opu.gainState = .muted) rfl
      ((State.relayDue_iff _ _).trans ?_)).trans ?_
    · simp
    · by_cases muted : s.opu.gainState = .muted <;> simp [muted, relay, MuteSet.put]

/-- A RESUME that passes its checks is accepted (R161). -/
theorem ownResume_accepts {r : ResumeReq} {t : Ticket} {m : ResumeMode} (named : resumeModeOf r.mode = some m)
    {rec_ : FaultRecord} (fault : s.opu.fault = some rec_) (running : s.lnk.state = .running)
    (primary : s.lnk.primary = true) (noWarning : s.powerWarning = false) :
    ownResume r t s = s.acceptResume t m := by
  simp [ownResume, named, fault, running, primary, noWarning]

/-! ### The end of the start that a RESUME waits for (R162) -/

theorem Opu.setReasons_resume (o : Opu) (m : MuteSet) : (o.setReasons m).resume = o.resume := rfl

theorem Opu.ordinaryMove_resume (o : Opu) (x : Relay) : (o.ordinaryMove x).resume = o.resume := by
  unfold Opu.ordinaryMove
  split
  · split <;> rfl
  · split
    · split <;> rfl
    · rfl

theorem State.started_resume (s : State) : s.started.opu.resume = s.opu.resume := by
  have engages : s.entersRun.opu.resume = s.opu.resume := s.opu.ordinaryMove_resume .engaged
  obtain same | ⟨_, _, _, moved⟩ := s.entersRun.relayTakesTarget_cases
  · rw [State.started, same, engages]
  · rw [State.started, moved]
    exact engages

theorem State.loopOpen_handLevel (s : State) : s.handLevel.loopOpen = s.loopOpen := by
  simp only [State.loopOpen, State.handLevel, Lnk.handLevel]
  split <;> rfl

/-- With no open LOOP the waiting RESUME is answered with what it gathered. -/
theorem State.answerResume_closed {w : ResumeWait} (waits : s.opu.resume = some w)
    (closed : s.loopOpen = false) :
    s.answerResume = State.answer { s with opu := { s.opu with resume := none } } w.ticket
      (if w.degraded = [] then .done else .degraded)
      (.resumed w.mode s.scn.generation w.safeSlot w.degraded) := by
  have none : s.openLoops = [] := by
    rw [State.openLoops_eq, closed]
    rfl
  simp [State.answerResume, waits, none, doneOrDegraded]

end Sys2Proof.Machine

namespace Sys2Proof

open Machine

/-- Settles O49. -/
theorem resumeByMode : Obligations.ResumeByMode := by
  refine ⟨fun s p tag e r takes => ⟨fun outside => ?_, fun low high clear => ?_,
    fun rec_ low high fault => ⟨fun unready => ?_, fun running primary noWarning stood still noTails => ?_⟩⟩,
    fun s w tag kind free starting building built waits closed reserved => ?_⟩
  · refine (exec_taken takes).trans (congrArg _ (Eq.trans ?_ (takes.answer .invalid .none)))
    show ownResume r ⟨p, e⟩ (s.taken p tag 23 e) = _
    simp only [ownResume, resumeModeOf_none outside]
    rfl
  · obtain ⟨m, named, -⟩ := resumeModeOf_some low high
    refine (exec_taken takes).trans (congrArg _ (Eq.trans ?_ (takes.answer .wrongState .none)))
    show ownResume r ⟨p, e⟩ (s.taken p tag 23 e) = _
    simp only [ownResume, named]
    exact if_pos (by simp [State.taken, clear])
  · obtain ⟨m, named, -⟩ := resumeModeOf_some low high
    refine (exec_taken takes).trans (congrArg _ (Eq.trans ?_ (takes.answer .notReady _)))
    show ownResume r ⟨p, e⟩ (s.taken p tag 23 e) = _
    simp only [ownResume, named]
    exact (if_neg (by simp [State.taken, State.setPort, fault])).trans (if_pos unready)
  · intro slot live m
    let u := s.taken p tag 23 e
    have accepts : ∀ {mode}, resumeModeOf r.mode = some mode →
        exec (.resume p tag r) s = .next (u.acceptResume ⟨p, e⟩ mode) := fun named =>
      (exec_taken takes).trans (congrArg _
        (ownResume_accepts (s := u) named fault running primary noWarning))
    obtain ⟨mode⟩ := r
    obtain rfl | rfl | rfl : mode = 0 ∨ mode = 1 ∨ mode = 2 := by
      have low : 0 ≤ mode := low
      have high : mode ≤ 2 := high
      omega
    · obtain ⟨eq, quiet⟩ := State.resumes_scene (s := u) noTails ⟨p, e⟩
      rw [State.startsResumed (u := u.resumed) stood] at eq quiet
      refine ⟨_, accepts rfl, ?_⟩
      rw [quiet, eq]
      exact ⟨rfl, fault, rfl, rfl, rfl, rfl, rfl, rfl, noTails, rfl, rfl, rfl,
        fun _ => ⟨rfl, still, rfl, rfl, rfl, rfl, rfl, rfl, rfl⟩, nofun, fun _ => ⟨rfl, rfl⟩, nofun⟩
    · obtain ⟨g, eq, quiet⟩ := State.resumes_safe (s := u) noTails ⟨p, e⟩
      rw [State.startsResumed
        (u := { u.resumed with scn := u.scn.safeLoaded, tgn := g }) stood] at eq quiet
      refine ⟨_, accepts rfl, ?_⟩
      rw [quiet, eq]
      exact ⟨rfl, fault, rfl, rfl, rfl, rfl, rfl, rfl, noTails, rfl, rfl, rfl,
        fun _ => ⟨rfl, still, rfl, rfl, rfl, rfl, rfl, rfl, rfl⟩, fun _ => ⟨rfl, rfl⟩,
        fun other => absurd rfl other, nofun⟩
    · obtain ⟨n, eq⟩ := State.acceptResume_eq (s := u) noTails ⟨p, e⟩ .bypass
      have bypass := State.resumeBypass_eq (s := u.resumed.raise n) stood still
      have answers : (u.resumed.raise n).resumeIn ⟨p, e⟩ .bypass =
        (u.resumed.raise n).resumeBypass.answer ⟨p, e⟩ .done .none := rfl
      rw [bypass] at answers
      have quiet := State.answer_quiet (s := u) (t := u.raise n) (Pif.raise_quiet _ _) ⟨p, e⟩ .done .none
      refine ⟨_, accepts rfl, ?_⟩
      rw [eq, answers]
      refine ⟨rfl, fault, rfl, rfl, rfl, rfl, rfl, rfl, noTails, rfl, rfl, rfl, ?_, nofun,
        fun _ => ⟨rfl, rfl⟩, fun _ => ⟨rfl, rfl, rfl, rfl, rfl, .none, ?_⟩⟩
      · intro small
        exact absurd small (by decide)
      · exact quiet.trans (congrArg (·.pif.quiet) (takes.answer .done .none))
  · have due : s.startingDue = true := by simp [State.startingDue, starting, building, built]
    let v := s.started.handLevel
    have kept := s.started_eq
    have shut : v.loopOpen = false := by
      rw [State.loopOpen_handLevel, kept]
      exact closed
    have ran : s.startingComplete = v.answerResume.beginDuePass := State.startingComplete_of_due due
    have answers := State.answerResume_closed (s := v) (w := w) (s.started_resume.trans waits) shut
    refine ⟨_, next_unlessReset free _, ?_⟩
    rw [ran, answers]
    have engine : ∀ x : State, x.beginDuePass.sen.engine = x.sen.engine := fun x =>
      congrArg (·.2.2.2.2.1) x.beginDuePass_view
    have pif : ∀ x : State, x.beginDuePass.pif = x.pif := fun x =>
      congrArg (·.2.2.2.2.2.2.2.2.2.2.1) x.beginDuePass_view
    refine ⟨?_, ?_, ?_⟩
    · rw [State.beginDuePass_opu]
      rfl
    · rw [engine]
      show s.started.sen.engine = _
      rw [kept]
      rfl
    · show Pif.entry _ w.ticket = _
      rw [pif]
      refine (State.answer_entry (tag := tag) (kind := kind) _ _ ?_).trans ?_
      · show s.started.pif.entry w.ticket = _
        rw [kept]
        exact reserved
      · show some (ReplyEntry.filled { fields := .resumed _ s.started.scn.generation _ _, .. }) = _
        rw [kept]
        rfl

end Sys2Proof

/-! PROOFS. The changes of the converter link (R173 to R183), each up to what the ports show. -/

namespace Sys2Proof.Machine

variable {s t : State}

/-! ### States that differ by what the ports show -/

/-- The second state is the first but for its ports. -/
def OnlyPorts (s t : State) : Prop := t = { s with pif := t.pif }

theorem OnlyPorts.refl (s : State) : OnlyPorts s s := rfl

theorem OnlyPorts.trans {s t u : State} (first : OnlyPorts s t) (second : OnlyPorts t u) : OnlyPorts s u := by
  unfold OnlyPorts at second
  rw [first] at second
  exact second

theorem OnlyPorts.map (h : OnlyPorts s t) {f : State → State}
    (blind : ∀ (u : State) (g : Pif), f { u with pif := g } = { f u with pif := g }) :
    OnlyPorts (f s) (f t) := by
  have ft : f t = { f s with pif := t.pif } := by rw [← blind s t.pif, ← h]
  unfold OnlyPorts
  rw [ft]

theorem OnlyPorts.answer (s : State) (k : Ticket) (st : Status) (f : Fields) :
    OnlyPorts s (s.answer k st f) := rfl

theorem OnlyPorts.scn (h : OnlyPorts s t) : t.scn = s.scn := by rw [h]

theorem OnlyPorts.opu (h : OnlyPorts s t) : t.opu = s.opu := by rw [h]

theorem OnlyNotices.ports (h : OnlyNotices s t) : OnlyPorts s t := h.1

/-- The second state is the first but for its scene and its ports. -/
def OnlyScene (s t : State) : Prop := t = { s with scn := t.scn, pif := t.pif }

theorem OnlyPorts.scene (h : OnlyPorts s t) : OnlyScene s t := by
  unfold OnlyScene
  rw [h]

theorem OnlyScene.trans {s t u : State} (first : OnlyScene s t) (second : OnlyScene t u) : OnlyScene s u := by
  unfold OnlyScene at second
  rw [first] at second
  exact second

theorem OnlyScene.map (h : OnlyScene s t) {f : State → State}
    (blind : ∀ (u : State) (c : Scn) (g : Pif),
      f { u with scn := c, pif := g } = { f u with scn := c, pif := g }) : OnlyScene (f s) (f t) := by
  have ft : f t = { f s with scn := t.scn, pif := t.pif } := by rw [← blind s t.scn t.pif, ← h]
  unfold OnlyScene
  rw [ft]

/-! ### Replies, once filled, stay (R193) -/

/-- Notices aside, the entries are the same. -/
theorem Pif.entry_of_quiet {f g : Pif} (same : g.quiet = f.quiet) (k : Ticket) : g.entry k = f.entry k := by
  have entries := congrArg (fun f => Pif.entry f k) same
  simpa only [Pif.entry, Pif.quiet_port] using entries

/-- What the blocks do to the ports leaves a filled reply. -/
theorem State.Evolves.entry_filled (h : s.Evolves t) {k : Ticket} {r : Reply}
    (filled : s.pif.entry k = some (.filled r)) : t.pif.entry k = some (.filled r) := by
  refine h.1.keeps (P := fun f => f.entry k = some (.filled r)) filled (fun f n at_ => ?_)
    (fun f t' st x at_ => ?_) fun f d at_ => ?_
  · rw [Pif.raise_entry, at_]
  · exact State.answer_entry_filled (s := { s with pif := f }) st x at_
  · obtain ⟨⟨_⟩, e⟩ := k <;> exact at_

/-! ### The state and the ready bits (R171, R173, R180) -/

/-- The link in another state, its time begun afresh. -/
def State.linked (s : State) (dest : LinkState) : State :=
  { s with lnk := { s.lnk with state := dest, time := 0 }, opu := { s.opu with elapsed := 0 } }

theorem State.linkTo_notices (s : State) (dest : LinkState) (why : Option Departure) :
    OnlyNotices (s.linked dest) (s.linkTo dest why) := by
  unfold State.linkTo
  dsimp only
  split
  · exact .refl _
  · exact .raise _ _

theorem State.setPrimary_notices (s : State) (b : Bool) :
    OnlyNotices { s with lnk := { s.lnk with primary := b } } (s.setPrimary b) := by
  unfold State.setPrimary
  split
  · next same =>
    rw [← same]
    exact .refl s
  · exact .raise _ _

theorem State.setSecondary_notices (s : State) (b : Bool) :
    OnlyNotices { s with lnk := { s.lnk with secondary := b } } (s.setSecondary b) := by
  unfold State.setSecondary
  split
  · next same =>
    rw [← same]
    exact .refl s
  · exact .raise _ _

/-- Both ready bits not ready. -/
def State.unready (s : State) : State := { s with lnk := { s.lnk with primary := false, secondary := false } }

theorem State.clearReady_notices (s : State) : OnlyNotices s.unready s.clearReady :=
  ((s.setPrimary_notices false).map (f := fun u => { u with lnk := { u.lnk with secondary := false } })
    fun _ _ => rfl).trans (State.setSecondary_notices _ false)

theorem State.clearReady_entry (s : State) (k : Ticket) : s.clearReady.pif.entry k = s.pif.entry k :=
  s.clearReady_notices.entry k

theorem OnlyScene.clearReady_facts (h : OnlyScene s t) :
    t.clearReady.lnk = { s.lnk with primary := false, secondary := false } ∧ t.clearReady.opu = s.opu ∧
    t.clearReady.sen = s.sen ∧ t.clearReady.tun = s.tun ∧ t.clearReady.tgn = s.tgn ∧
    t.clearReady.lib = s.lib := by
  have unready : OnlyScene s.unready t.clearReady :=
    (h.map (f := State.unready) fun _ _ _ => rfl).trans (t.clearReady_notices).ports.scene
  rw [unready]
  exact ⟨rfl, rfl, rfl, rfl, rfl, rfl⟩

theorem State.linkStarted_notices (s : State) :
    OnlyNotices { s.unready with lnk := { s.unready.lnk with auxValid := false } } s.linkStarted :=
  (s.clearReady_notices.map (f := fun u => { u with lnk := { u.lnk with auxValid := false } })
    fun _ _ => rfl).trans (State.setAuxValid_notices _ false)

theorem State.tunerLinkDown_notices (s : State) :
    OnlyNotices { s with tun := s.tun.linkDown } s.tunerLinkDown := by
  unfold State.tunerLinkDown
  dsimp only
  split
  · exact .refl _
  · exact .raise _ _

/-! ### Accesses and rests that end (R179, R183) -/

theorem State.endAccess_ports (c : ReadEnd) (s : State) (a : Access) : OnlyPorts s (s.endAccess c a) := by
  unfold State.endAccess
  split <;> rfl

theorem State.foldl_endAccess_ports (c : ReadEnd) : ∀ (as : List Access) (s : State),
    OnlyPorts s (as.foldl (State.endAccess c) s)
  | [], s => .refl s
  | a :: as, s => (State.endAccess_ports c s a).trans (State.foldl_endAccess_ports c as _)

theorem State.endAccesses_ports (s : State) (gone : Access → Bool) (c : ReadEnd) :
    OnlyPorts { s with lnk := { s.lnk with queue := s.lnk.queue.filter fun a => !gone a } }
      (s.endAccesses gone c) :=
  State.foldl_endAccess_ports c _ _

theorem State.endQueue_ports (s : State) :
    OnlyPorts { s with lnk := { s.lnk with queue := [], levelPending := none } } s.endQueue := by
  have ends := State.endAccesses_ports { s with lnk := { s.lnk with levelPending := none } }
    (fun _ => true) .link
  simp only [Bool.not_true, List.filter_false] at ends
  exact ends

/-- With no access in the queue nothing is answered. -/
theorem State.endQueue_empty (empty : s.lnk.queue = []) :
    s.endQueue = { s with lnk := { s.lnk with queue := [], levelPending := none } } := by
  simp [State.endQueue, State.endAccesses, empty]

/-- A rest pending no more. -/
def State.unrested (s : State) : State :=
  { s with lnk := { s.lnk with
    restPending := none
    restHeld := if s.lnk.restPending.isSome then false else s.lnk.restHeld } }

theorem State.abortRest_ports (s : State) (c : RestEnd) : OnlyPorts s.unrested (s.abortRest c) := by
  cases pending : s.lnk.restPending with
  | none =>
    simp only [State.abortRest, State.unrested, pending]
    exact congrArg (fun p => { s with lnk := { s.lnk with restPending := p } }) pending
  | some k =>
    simp only [State.abortRest, State.unrested, pending]
    rfl

/-! ### Departures (R8, R157, R158, R176) -/

theorem State.abandonSwitch_scene (s : State) (c : AbortCause) (p : Option Port) :
    OnlyScene { s with opu := s.opu.abandoned s.scn.phase } (s.abandonSwitch c p) := by
  unfold State.abandonSwitch Opu.abandoned
  split
  · rw [State.abortPending_eq]
    rfl
  · rw [State.abortPending_eq, State.abortTaken_eq]
    rfl

/-- The part with a cause taken: in FAULT, or the cause added (R157, R158). -/
def State.caused (s : State) (c : Cause) : State :=
  match s.opu.fault with
  | none => { s.stopEngine .fault with
      opu := { s.opu.inFault (s.faultRecord c) with
        reasons := { s.opu.reasons.faulted with
          switchGap := if s.scn.phase = .steady then s.opu.reasons.switchGap else false } }
      lnk := s.lnk.holdRest s.opu.gain }
  | some r => { s with opu := { s.opu with fault := some { r with causes := r.causes.add c } } }

theorem State.caused_pif (s : State) (c : Cause) (g : Pif) :
    State.caused { s with pif := g } c = { s.caused c with pif := g } := by
  cases held : s.opu.fault with
  | none =>
    simp only [State.caused, held]
    rfl
  | some r => simp only [State.caused, held]

theorem State.handCause_scene (s : State) (c : Cause) : OnlyScene (s.caused c) (s.handCause c) := by
  cases held : s.opu.fault with
  | none =>
    obtain ⟨n, entered⟩ := s.enterFault_pif c
    have scn := s.faulted_scn c
    have abandons := State.abandonSwitch_scene (s.faulted c) (.fault c) none
    rw [State.handCause_clear held, entered]
    refine OnlyScene.trans ?_ (OnlyPorts.scene (OnlyNotices.raise _ n).ports)
    refine OnlyScene.trans ?_ abandons
    unfold OnlyScene State.caused
    rw [scn, s.faulted_opu, Opu.inFault_abandoned, s.faulted_eq, held]
  | some r =>
    rw [State.handCause_held held, State.addCause_eq held]
    unfold OnlyScene State.caused
    rw [held]

/-- The queue, the block and the tuner as the link leaves RUNNING (R1, R150, R183). -/
def State.offRunning (s : State) : State :=
  { s with
    lnk := { s.lnk with queue := [], levelPending := none }
    sen := { s.sen with gathered := [] }
    tun := s.tun.linkDown }

theorem State.offRunning_ports (s : State) : OnlyPorts s.offRunning s.endQueue.dropBlock.tunerLinkDown :=
  (s.endQueue_ports.map (f := fun u => { u.dropBlock with tun := u.tun.linkDown }) fun _ _ => rfl).trans
    (State.tunerLinkDown_notices _).ports

/-- The part as the link has left RUNNING for a cause. -/
def State.leftFor (s : State) (dest : LinkState) (c : Cause) : State := (s.offRunning.caused c).linked dest

theorem State.leftFor_pif (s : State) (dest : LinkState) (c : Cause) (g : Pif) :
    State.leftFor { s with pif := g } dest c = { s.leftFor dest c with pif := g } :=
  congrArg (State.linked · dest) (s.offRunning.caused_pif c g)

theorem State.leaveRunning_for (s : State) (dest : LinkState) (why : Departure) (c : Cause)
    (p : Option Port) : OnlyScene (s.leftFor dest c) (s.leaveRunning dest why (some c) p) :=
  ((s.offRunning_ports.map (f := fun u => (u.caused c).linked dest)
    fun u g => congrArg (State.linked · dest) (u.caused_pif c g)).scene).trans <|
    ((State.handCause_scene _ c).map (f := fun u => u.linked dest) fun _ _ _ => rfl).trans
      (State.linkTo_notices _ dest _).ports.scene

/-- The part as the link has departed for a cause, any rest over (R179). -/
def State.departed (s : State) (dest : LinkState) (c : Cause) : State :=
  if s.lnk.restPending.isSome then (s.unrested.leftFor dest c).removeReason .standby
  else s.unrested.leftFor dest c

theorem State.departBy_scene (s : State) (dest : LinkState) (why : Departure) (c : Cause) :
    OnlyScene (s.departed dest c) (s.departBy dest why c) := by
  have leaves : OnlyScene (s.unrested.leftFor dest c)
      ((s.abortRest .link).leaveRunning dest why (some c) none) :=
    ((s.abortRest_ports .link).map (f := fun u => u.leftFor dest c) fun u g =>
      u.leftFor_pif dest c g).scene.trans (State.leaveRunning_for _ dest why c none)
  unfold State.departBy State.departed
  dsimp only
  split
  · exact leaves.map (f := fun u => u.removeReason .standby) fun _ _ _ => rfl
  · exact leaves

end Sys2Proof.Machine

/-! PROOFS. The failover flag and the frame-loss monitor (R157, R158, R163, R165, R166). -/

namespace Sys2Proof.Machine

variable {s : State}

/-! ### The part after a departure for a cause -/

/-- The link, and what a cause leaves alone, after a departure. -/
theorem State.departed_link (s : State) (dest : LinkState) (c : Cause) :
    let d := s.departed dest c
    (∃ held, d.lnk = { s.lnk with
      state := dest, time := 0, queue := [], levelPending := none, restPending := none, restHeld := held }) ∧
    d.sen.gathered = [] ∧ d.sen.blockCount = s.sen.blockCount ∧ d.tun = s.tun.linkDown ∧ d.tgn = s.tgn ∧
    d.lib = s.lib ∧ d.opu.elapsed = 0 ∧
    d.opu.failover = s.opu.failover ∧ d.opu.seen0 = s.opu.seen0 ∧ d.opu.seen1 = s.opu.seen1 ∧
    d.opu.seen2 = s.opu.seen2 ∧ (s.opu.move = none → d.opu.move = none) := by
  intro d
  cases pending : s.lnk.restPending.isSome <;> cases held : s.opu.fault <;>
    simp only [d, State.departed, State.leftFor, pending, if_true, if_false, Bool.false_eq_true,
      State.caused, State.offRunning, State.unrested, held]
  · exact ⟨⟨_, rfl⟩, rfl, rfl, rfl, rfl, rfl, rfl, rfl, rfl, rfl, rfl, fun _ => rfl⟩
  · exact ⟨⟨_, rfl⟩, rfl, rfl, rfl, rfl, rfl, rfl, rfl, rfl, rfl, rfl, id⟩
  · exact ⟨⟨_, rfl⟩, rfl, rfl, rfl, rfl, rfl, rfl, rfl, rfl, rfl, rfl, fun _ => rfl⟩
  · exact ⟨⟨_, rfl⟩, rfl, rfl, rfl, rfl, rfl, rfl, rfl, rfl, rfl, rfl, id⟩

/-- A first cause: the departure is in FAULT (R157). -/
theorem State.departed_clear (clear : s.opu.fault = none) (dest : LinkState) (c : Cause) :
    let d := s.departed dest c
    d.sen.engine = .fault ∧ d.opu.gain = 0 ∧ d.opu.gainState = .muted ∧ d.opu.move = none ∧
    d.opu.fault = some (s.faultRecord c) ∧
    d.opu.relay = if s.opu.policy = .bypass ∨ s.opu.failover = true then .bypass else s.opu.relay := by
  intro d
  cases pending : s.lnk.restPending.isSome <;>
    simp only [d, State.departed, State.leftFor, pending, if_true, if_false, Bool.false_eq_true,
      State.caused, State.offRunning, State.unrested, clear]
  · exact ⟨rfl, rfl, rfl, rfl, rfl, rfl⟩
  · refine ⟨rfl, rfl, ?_, rfl, rfl, rfl⟩
    exact congrArg Opu.gainState (Opu.setReasons_filled (MuteSet.isEmpty_of_has (r := .fault) rfl)
      (MuteSet.isEmpty_of_has (r := .fault) rfl))

/-- A further cause joins the record (R158). -/
theorem State.departed_held {r : FaultRecord} (held : s.opu.fault = some r) (dest : LinkState) (c : Cause) :
    let d := s.departed dest c
    d.sen = { s.sen with gathered := [] } ∧ d.opu.relay = s.opu.relay ∧
    d.opu.fault = some { r with causes := r.causes.add c } := by
  intro d
  cases pending : s.lnk.restPending.isSome <;>
    simp only [d, State.departed, State.leftFor, pending, if_true, if_false, Bool.false_eq_true,
      State.caused, State.offRunning, State.unrested, held]
  · exact ⟨rfl, rfl, rfl⟩
  · exact ⟨rfl, rfl, rfl⟩

/-! ### The monitor (R163) -/

/-- The part as the monitor expires, before the link departs. -/
def State.expired (s : State) : State :=
  let u := s.elapse (limitTime s.opu.limit - s.opu.elapsed)
  { u with opu := u.opu.failOver }

theorem State.frameLossExpiry_scene (runs : s.monitorRuns = true) :
    OnlyScene (s.expired.departed .lost .frameLoss).unready s.frameLossExpiry := by
  rw [State.frameLossExpiry, if_pos runs]
  exact ((State.departBy_scene s.expired .lost .monitor .frameLoss).map (f := State.unready)
    fun _ _ _ => rfl).trans (State.clearReady_notices _).ports.scene

/-- The protection unit as the monitor expires. -/
theorem State.expired_opu (s : State) :
    let o := s.expired.opu
    o.failover = (s.opu.failover || decide (s.opu.monMode = .failover)) ∧ o.policy = s.opu.policy ∧
    o.fault = s.opu.fault ∧
    (s.opu.monMode = .failover → o.relay = .bypass ∧ o.move = none ∧ o.seen0 = false ∧ o.seen1 = false ∧
      o.seen2 = false) ∧
    (s.opu.monMode ≠ .failover → o.relay = s.opu.relay ∧ o.seen0 = s.opu.seen0 ∧ o.seen1 = s.opu.seen1 ∧
      o.seen2 = s.opu.seen2) := by
  intro o
  let u := s.elapse (limitTime s.opu.limit - s.opu.elapsed)
  by_cases on : s.opu.monMode = .failover
  · have eq : o = u.opu.forceBypass.setFailover true := if_pos on
    rw [eq]
    exact ⟨by simp [on, Opu.setFailover], rfl, rfl, fun _ => ⟨rfl, rfl, rfl, rfl, rfl⟩, absurd on⟩
  · have eq : o = u.opu := if_neg on
    rw [eq]
    exact ⟨by simp [on, u, State.elapse], rfl, rfl, fun is => absurd is on, fun _ => ⟨rfl, rfl, rfl, rfl⟩⟩

/-! ### FAILOVER-READ (R166) -/

theorem Opu.markSeen_eq (o : Opu) (p : Port) : (if o.failover then o.markSeen p else o) = { o with
    seen0 := o.seen0 || (o.failover && decide (p = .p0))
    seen1 := o.seen1 || (o.failover && decide (p = .p1))
    seen2 := o.seen2 || (o.failover && decide (p = .p2)) } := by
  obtain ⟨_, _, _, _, _, _, _, _, _, flag, _, _, _, _, _, _⟩ := o
  cases flag <;> cases p <;> simp [Opu.markSeen]

theorem ownFailoverRead_eq (t : Ticket) : ownFailoverRead t s =
    State.answer { s with opu := if s.opu.failover then s.opu.markSeen t.port else s.opu } t .done
      (.failoverFlag s.opu.failover) := by
  unfold ownFailoverRead
  split <;> rfl

end Sys2Proof.Machine

namespace Sys2Proof

open Machine

/-- Settles O50. -/
theorem failoverAndFrameLoss : Obligations.FailoverAndFrameLoss := by
  refine ⟨fun s p tag e => ⟨fun takes => ?_, fun takes => ⟨fun unseen => ?_, fun seen => ?_⟩⟩,
    fun s idle => ?_, fun s free on running => ?_⟩
  · refine (exec_taken takes).trans (congrArg _ ?_)
    have answers := takes.answer .done (.failoverFlag s.opu.failover)
    refine (ownFailoverRead_eq (s := s.taken p tag 25 e) ⟨p, e⟩).trans ?_
    rw [Opu.markSeen_eq]
    exact congrArg (fun u : State => { u with opu := { s.opu with
      seen0 := s.opu.seen0 || (s.opu.failover && decide (p = Port.p0))
      seen1 := s.opu.seen1 || (s.opu.failover && decide (p = Port.p1))
      seen2 := s.opu.seen2 || (s.opu.failover && decide (p = Port.p2)) } }) answers
  · refine (exec_taken takes).trans (congrArg _ ((if_neg ?_).trans (takes.answer .notSeen .none)))
    exact Bool.eq_false_iff.mp unseen
  · refine (exec_taken takes).trans (congrArg _ ((if_pos seen).trans ?_))
    exact congrArg (fun u : State => { u with opu := s.opu.setFailover false }) (takes.answer .done .none)
  · refine next_unlessReset_same (if_neg ?_)
    rcases idle with off | other
    · simp [State.monitorRuns, off]
    · simp [State.monitorRuns, other]
  · have runs : s.monitorRuns = true := by simp [State.monitorRuns, on, running]
    have eq := State.frameLossExpiry_scene runs
    obtain ⟨⟨held, lnk⟩, gathered, -, -, tgn, lib, elapsed, failover, seen0, seen1, seen2, still⟩ :=
      s.expired.departed_link .lost .frameLoss
    refine ⟨_, next_unlessReset free _, ?_⟩
    obtain ⟨flag, policy, fault, inFailover, inReport⟩ := s.expired_opu
    rw [eq]
    refine ⟨congrArg Lnk.state lnk, congrArg Lnk.time lnk, rfl, rfl, congrArg Lnk.queue lnk,
      congrArg Lnk.levelPending lnk, congrArg Lnk.restPending lnk, elapsed, gathered, tgn, lib,
      failover.trans flag, fun is => ?_, fun is => ?_, fun clear => ?_, fun rec_ is => ?_⟩
    · obtain ⟨relay, none, no0, no1, no2⟩ := inFailover is
      refine ⟨?_, still none, seen0.trans no0, seen1.trans no1, seen2.trans no2⟩
      cases was : s.opu.fault with
      | none =>
        obtain ⟨-, -, -, -, -, moved⟩ := State.departed_clear (fault.trans was) .lost .frameLoss
        exact moved.trans ((congrArg _ relay).trans (ite_self _))
      | some r =>
        obtain ⟨-, stays, -⟩ := State.departed_held (fault.trans was) .lost .frameLoss
        exact stays.trans relay
    · obtain ⟨-, no0, no1, no2⟩ := inReport (by simp [is])
      exact ⟨seen0.trans no0, seen1.trans no1, seen2.trans no2⟩
    · obtain ⟨engine, gain, muted, none, recorded, moved⟩ :=
        State.departed_clear (fault.trans clear) .lost .frameLoss
      refine ⟨engine, gain, muted, none, recorded, moved.trans ?_⟩
      rw [policy, flag]
      by_cases on' : s.opu.monMode = .failover
      · simp [on']
      · simp [on', (inReport on').1]
    · obtain ⟨sen, stays, recorded⟩ := State.departed_held (fault.trans is) .lost .frameLoss
      exact ⟨recorded, sen, fun report => stays.trans (inReport (by simp [report])).1⟩

end Sys2Proof

/-! PROOFS. The converter command queue (R182 to R184). -/

namespace Sys2Proof.Machine

variable {s : State}

/-! ### Refusals and joins (R182) -/

theorem targetOf_none {v : Int} (outside : v < 0 ∨ 1 < v) : targetOf v = none := by
  unfold targetOf
  rw [if_neg (by omega), if_neg (by omega)]

theorem targetOf_some {v : Int} (low : 0 ≤ v) (high : v ≤ 1) :
    targetOf v = some (if v = 0 then .primary else .secondary) := by
  obtain rfl | rfl : v = 0 ∨ v = 1 := by omega
  · rfl
  · rfl

/-- Fields out of range: no target or no register. -/
theorem convFields_none {target index : Int} (outside : target < 0 ∨ 1 < target ∨ index < 0 ∨ 127 < index) :
    targetOf target = none ∨ registerOf index = none := by
  by_cases named : target < 0 ∨ 1 < target
  · exact .inl (targetOf_none named)
  · exact .inr (inRange_none (by omega))

theorem Lnk.convRefusal_notReady {k : Lnk} {d : Target} (unready : k.state ≠ .running ∨ k.ready d = false) :
    k.convRefusal d = some .notReady := if_pos unready

theorem Lnk.convRefusal_busy {k : Lnk} {d : Target} (running : k.state = .running) (ready : k.ready d = true)
    (full : 4 ≤ k.queue.length) : k.convRefusal d = some .busy := by
  simp [Lnk.convRefusal, running, ready, full]

theorem Lnk.convRefusal_none {k : Lnk} {d : Target} (running : k.state = .running) (ready : k.ready d = true)
    (room : k.queue.length < 4) : k.convRefusal d = none := by
  simp [Lnk.convRefusal, running, ready, room]

section
variable {tag : Byte} {d : Target} {n : Nat} (t : Ticket)

theorem ownConvRead_refuses {r : ConvReadReq} {st : Status} (named : targetOf r.target = some d)
    (register : registerOf r.index = some n) (refused : s.lnk.convRefusal d = some st) :
    ownConvRead tag r t s = s.answer t st .none := by simp only [ownConvRead, named, register, refused]

theorem ownConvRead_joins {r : ConvReadReq} (named : targetOf r.target = some d)
    (register : registerOf r.index = some n) (joins : s.lnk.convRefusal d = none) :
    ownConvRead tag r t s = s.joinQueue
      { owner := some t, tag := some tag, data := none, target := d, index := n, sent := false, waited := 0
        fresh := false } := by simp only [ownConvRead, named, register, joins]

theorem ownConvWrite_refuses {r : ConvWriteReq} {st : Status} {v : Nat} (named : targetOf r.target = some d)
    (register : registerOf r.index = some n) (word : inRange 0 65535 r.data = some v)
    (refused : s.lnk.convRefusal d = some st) : ownConvWrite tag r t s = s.answer t st .none := by
  simp only [ownConvWrite, named, register, word, refused]

theorem ownConvWrite_joins {r : ConvWriteReq} {v : Nat} (named : targetOf r.target = some d)
    (register : registerOf r.index = some n) (word : inRange 0 65535 r.data = some v)
    (joins : s.lnk.convRefusal d = none) :
    ownConvWrite tag r t s = (s.joinQueue
      { owner := some t, tag := some tag, data := some v, target := d, index := n, sent := false, waited := 0
        fresh := false }).answer t .posted (.posted s.lnk.queue.length) := by
  simp only [ownConvWrite, named, register, word, joins]

end

/-! ### The end of a read (R183) -/

theorem Lnk.completion_none {k : Lnk} {a : Access} (other : ∀ e, k.echoOn a.target = some e → e.index ≠ a.index) :
    k.completion a = none := by
  unfold Lnk.completion
  split
  · split
    · next e echo => exact if_neg (other e echo)
    · rfl
  · rfl

theorem Lnk.completion_some {k : Lnk} {a : Access} {e : Echo} (sent : a.sent = true) (counted : 1 ≤ a.waited)
    (echo : k.echoOn a.target = some e) (same : e.index = a.index) : k.completion a = some e := by
  simp [Lnk.completion, sent, counted, echo, same]

/-- The end of a read whose echo has come. -/
theorem State.convReadCompletion_some {a : Access} {rest : List Access} {e : Echo}
    (queue : s.lnk.queue = a :: rest) (done : s.lnk.completion a = some e) :
    s.convReadCompletion = State.answerOwner { s with lnk := s.lnk.dropFirst } a .done
      (.converter e.data a.index a.target a.waited) := by simp only [State.convReadCompletion, queue, done]

theorem State.convReadCompletion_none {a : Access} {rest : List Access} (queue : s.lnk.queue = a :: rest)
    (waits : s.lnk.completion a = none) : s.convReadCompletion = s := by
  simp only [State.convReadCompletion, queue, waits]

/-- A read waits, or its time is over. -/
theorem State.convReadTimeout_eq {a : Access} {rest : List Access} (queue : s.lnk.queue = a :: rest) :
    s.convReadTimeout =
      if a.sent = true ∧ 8 ≤ a.waited ∧ (s.lnk.completion a).isNone = true then
        State.answerOwner { s with lnk := s.lnk.dropFirst } a .timeout .none
      else s := by simp only [State.convReadTimeout, queue]

/-- The queue without its oldest access. -/
theorem State.dropFirst_answer {a : Access} {rest : List Access} {t : Ticket} (queue : s.lnk.queue = a :: rest)
    (owner : a.owner = some t) (st : Status) (f : Fields) :
    State.answerOwner { s with lnk := s.lnk.dropFirst } a st f =
      State.answer { s with lnk := { s.lnk with queue := rest } } t st f := by
  simp [State.answerOwner, Lnk.dropFirst, owner, queue]

end Sys2Proof.Machine

namespace Sys2Proof

open Machine

/-- Settles O55. -/
theorem converterQueue : Obligations.ConverterQueue := by
  refine ⟨fun s p tag e => ⟨fun r takes => ⟨fun outside => ?_, ?_⟩, fun r takes => ⟨fun outside => ?_, ?_⟩⟩,
    fun s a rest tk free queue owner sent => ?_, fun s v free waits => ⟨fun room => ?_, fun full => ?_⟩⟩
  · refine (exec_taken takes).trans (congrArg _ (Eq.trans ?_ (takes.answer .invalid .none)))
    show ownConvRead tag r ⟨p, e⟩ (s.taken p tag 31 e) = _
    unfold ownConvRead
    rcases convFields_none outside with none | none
    · rw [none]
      rfl
    · rw [none]
      cases targetOf r.target <;> rfl
  · intro low high low' high' d
    have named : targetOf r.target = some d := targetOf_some low high
    have register : registerOf r.index = some r.index.toNat := inRange_some low' high'
    have taken := exec_taken takes
    refine ⟨fun unready => ?_, fun running ready => ⟨fun full => ?_, fun room => ?_⟩⟩
    · exact taken.trans (congrArg _ ((ownConvRead_refuses (s := s.taken p tag 31 e) ⟨p, e⟩ named register
        (Lnk.convRefusal_notReady unready)).trans (takes.answer .notReady .none)))
    · exact taken.trans (congrArg _ ((ownConvRead_refuses (s := s.taken p tag 31 e) ⟨p, e⟩ named register
        (Lnk.convRefusal_busy running ready full)).trans (takes.answer .busy .none)))
    · exact taken.trans (congrArg _ (ownConvRead_joins (s := s.taken p tag 31 e) ⟨p, e⟩ named register
        (Lnk.convRefusal_none running ready room)))
  · refine (exec_taken takes).trans (congrArg _ (Eq.trans ?_ (takes.answer .invalid .none)))
    show ownConvWrite tag r ⟨p, e⟩ (s.taken p tag 32 e) = _
    unfold ownConvWrite
    by_cases fields : r.target < 0 ∨ 1 < r.target ∨ r.index < 0 ∨ 127 < r.index
    · rcases convFields_none fields with none | none
      · rw [none]
        rfl
      · rw [none]
        cases targetOf r.target <;> rfl
    · rw [inRange_none (lo := 0) (hi := 65535) (v := r.data) (by omega)]
      cases targetOf r.target with
      | none => rfl
      | some d => cases registerOf r.index <;> rfl
  · intro low high low' high' low'' high'' d
    have named : targetOf r.target = some d := targetOf_some low high
    have register : registerOf r.index = some r.index.toNat := inRange_some low' high'
    have word : inRange 0 65535 r.data = some r.data.toNat := inRange_some low'' high''
    have taken := exec_taken takes
    refine ⟨fun unready => ?_, fun running ready => ⟨fun full => ?_, fun room => ?_⟩⟩
    · exact taken.trans (congrArg _ ((ownConvWrite_refuses (s := s.taken p tag 32 e) ⟨p, e⟩ named register word
        (Lnk.convRefusal_notReady unready)).trans (takes.answer .notReady .none)))
    · exact taken.trans (congrArg _ ((ownConvWrite_refuses (s := s.taken p tag 32 e) ⟨p, e⟩ named register word
        (Lnk.convRefusal_busy running ready full)).trans (takes.answer .busy .none)))
    · refine taken.trans (congrArg _ ((ownConvWrite_joins (s := s.taken p tag 32 e) ⟨p, e⟩ named register word
        (Lnk.convRefusal_none running ready room)).trans ?_))
      exact congrArg (fun u : State => u.joinQueue _) (takes.answer .posted (.posted s.lnk.queue.length))
  · intro echo u
    have on : s.lnk.echoOn a.target = echo := by
      cases target : a.target <;> simp only [echo, target, Lnk.echoOn]
    refine ⟨fun ec is same counted => ?_, fun other => ?_⟩
    · have done : s.lnk.completion a = some ec := Lnk.completion_some sent counted (on.trans is) same
      refine ⟨(next_unlessReset free _).trans (congrArg _ ?_), next_unlessReset_same ?_⟩
      · exact (State.convReadCompletion_some queue done).trans (State.dropFirst_answer queue owner _ _)
      · rw [State.convReadTimeout_eq queue, if_neg (by simp [done])]
    · have waits : s.lnk.completion a = none := Lnk.completion_none fun ec is => other ec (on.symm.trans is)
      refine ⟨next_unlessReset_same (State.convReadCompletion_none queue waits), fun over_ => ?_, fun early => ?_⟩
      · refine (next_unlessReset free _).trans (congrArg _ ?_)
        rw [State.convReadTimeout_eq queue, if_pos ⟨sent, over_, by simp [waits]⟩]
        exact State.dropFirst_answer queue owner _ _
      · refine next_unlessReset_same ?_
        rw [State.convReadTimeout_eq queue, if_neg fun h => absurd h.2.1 (by omega)]
  · refine (next_unlessReset free _).trans (congrArg _ ?_)
    simp only [State.levelWriteJoin, waits, if_pos room, Lnk.handLevel]
    rfl
  · refine next_unlessReset_same ?_
    simp only [State.levelWriteJoin, waits]
    exact if_neg (by omega)

end Sys2Proof

/-! PROOFS. Rest, and the departures without a fault (R8, R114, R115, R167, R176, R178). -/

namespace Sys2Proof.Machine

variable {s t : State}

/-! ### The engine and the relay at a departure without a fault (R8, R167) -/

/-- The engine stopped by the link, its switch not yet abandoned. -/
def State.halted (s : State) : State :=
  { s.stopEngine .stopped with opu := { s.opu.swapReason .stopped .starting with resume := none } }

/-- What a switch's end leaves of the protection unit. -/
theorem Opu.abandoned_eq (o : Opu) (phase : SwitchPhase) : ∃ gap g, o.abandoned phase =
    { o with reasons := { o.reasons with switchGap := gap }, gainState := g } := by
  unfold Opu.abandoned
  split
  · exact ⟨_, _, rfl⟩
  · exact ⟨_, _, rfl⟩

/-- The part as the link has stopped the engine. -/
def State.stoppedByLink (s : State) : State :=
  if s.sen.engine = .starting ∨ s.sen.engine = .run then
    { s.halted with opu := s.halted.opu.abandoned s.scn.phase }
  else s

theorem State.engineLinkStop_of (runs : s.sen.engine = .starting ∨ s.sen.engine = .run) (p : Option Port) :
    ∃ v, OnlyPorts s.halted v ∧ s.engineLinkStop p = v.abandonSwitch .link p ∧
      (s.opu.resume = none → v.pif = s.pif) := by
  let swapped : State := { s with opu := s.opu.swapReason .stopped .starting }
  refine ⟨(swapped.abortResume .link).stopEngine .stopped, ?_, if_pos runs, fun none => ?_⟩
  · rw [State.abortResume_eq]
    rfl
  · rw [State.abortResume_of_none (s := swapped) none]
    rfl

theorem State.engineLinkStop_scene (s : State) (p : Option Port) :
    OnlyScene s.stoppedByLink (s.engineLinkStop p) := by
  by_cases runs : s.sen.engine = .starting ∨ s.sen.engine = .run
  · obtain ⟨v, ports, stops, -⟩ := State.engineLinkStop_of runs p
    rw [stops, State.stoppedByLink, if_pos runs]
    have abandons := v.abandonSwitch_scene .link p
    have opu : v.opu = s.halted.opu := ports.opu
    have scn : v.scn = s.scn := ports.scn
    rw [opu, scn] at abandons
    exact (ports.map (f := fun u => { u with opu := s.halted.opu.abandoned s.scn.phase })
      fun _ _ => rfl).scene.trans abandons
  · rw [State.engineLinkStop, State.stoppedByLink, if_neg runs, if_neg runs]
    rfl

/-- The relay forced, and the link in another state. -/
def State.bypassedTo (s : State) (dest : LinkState) : State :=
  State.linked { s with opu := s.opu.forceBypass } dest

theorem State.bypassedTo_pif (s : State) (dest : LinkState) : (s.bypassedTo dest).pif = s.pif := rfl

/-- The part as the link has left RUNNING without a fault. -/
def State.left (s : State) (dest : LinkState) : State := s.offRunning.stoppedByLink.bypassedTo dest

theorem State.stoppedByLink_pif (s : State) (g : Pif) :
    State.stoppedByLink { s with pif := g } = { s.stoppedByLink with pif := g } := by
  by_cases runs : s.sen.engine = .starting ∨ s.sen.engine = .run
  · simp only [State.stoppedByLink, if_pos runs]
    rfl
  · simp only [State.stoppedByLink, if_neg runs]

theorem State.left_pif (s : State) (dest : LinkState) (g : Pif) :
    State.left { s with pif := g } dest = { s.left dest with pif := g } :=
  congrArg (State.bypassedTo · dest) (s.offRunning.stoppedByLink_pif g)

theorem State.leaveRunning_eq (s : State) (dest : LinkState) (why : Departure) (p : Option Port) :
    OnlyNotices ((s.endQueue.dropBlock.tunerLinkDown.engineLinkStop p).bypassedTo dest)
      (s.leaveRunning dest why none p) := State.linkTo_notices _ dest _

theorem State.leaveRunning_left (s : State) (dest : LinkState) (why : Departure) (p : Option Port) :
    OnlyScene (s.left dest) (s.leaveRunning dest why none p) :=
  (s.offRunning_ports.map (f := fun u => u.stoppedByLink.bypassedTo dest) fun u g =>
    congrArg (State.bypassedTo · dest) (u.stoppedByLink_pif g)).scene.trans <|
    ((State.engineLinkStop_scene _ p).map (f := fun u => u.bypassedTo dest) fun _ _ _ => rfl).trans
      (s.leaveRunning_eq dest why p).ports.scene

/-- What a departure without a fault leaves. -/
theorem State.left_facts (s : State) (dest : LinkState) :
    let d := s.left dest
    d.lnk = { s.lnk with state := dest, time := 0, queue := [], levelPending := none } ∧
    d.sen.gathered = [] ∧ d.sen.bypassHold = s.sen.bypassHold ∧
    d.sen.engine = (if s.sen.engine = .fault then .fault else .stopped) ∧
    d.opu.relay = .bypass ∧ d.opu.move = none ∧ d.opu.fault = s.opu.fault ∧ d.opu.gain = s.opu.gain ∧
    d.opu.reasons.standby = s.opu.reasons.standby ∧ d.opu.reasons.masterMute = s.opu.reasons.masterMute ∧
    d.tun = s.tun.linkDown ∧ d.tgn = s.tgn ∧ d.lib = s.lib ∧ d.pending = s.pending := by
  intro d
  by_cases runs : s.sen.engine = .starting ∨ s.sen.engine = .run
  · have stops : s.offRunning.stoppedByLink = _ := if_pos runs
    obtain ⟨gap, g, opu⟩ := s.offRunning.halted.opu.abandoned_eq s.offRunning.scn.phase
    simp only [d, State.left, stops, opu]
    refine ⟨rfl, rfl, rfl, ?_, rfl, rfl, rfl, rfl, rfl, rfl, rfl, rfl, rfl, rfl⟩
    rcases runs with engine | engine <;> simp [engine] <;> rfl
  · have stays : s.offRunning.stoppedByLink = s.offRunning := if_neg runs
    simp only [d, State.left, stays]
    refine ⟨rfl, rfl, rfl, ?_, rfl, rfl, rfl, rfl, rfl, rfl, rfl, rfl, rfl, rfl⟩
    show s.sen.engine = _
    cases engine : s.sen.engine <;> simp_all

/-! ### What the ports show of a departure -/

/-- With no access in the queue the departure begins with notices alone. -/
theorem State.offRunning_notices (empty : s.lnk.queue = []) :
    OnlyNotices s.offRunning s.endQueue.dropBlock.tunerLinkDown := by
  rw [State.endQueue_empty empty]
  exact State.tunerLinkDown_notices _

/-- With nothing to answer, a departure shows notices alone. -/
theorem State.leaveRunning_quiet (empty : s.lnk.queue = []) (noResume : s.opu.resume = none)
    (steady : s.scn.phase = .steady) (noPending : s.scn.pendingRecall = none) (dest : LinkState)
    (why : Departure) (p : Option Port) : (s.leaveRunning dest why none p).pif.quiet = s.pif.quiet := by
  let v := s.endQueue.dropBlock.tunerLinkDown
  have begins := State.offRunning_notices empty
  have quiet : (v.engineLinkStop p).pif.quiet = v.pif.quiet := by
    by_cases runs : v.sen.engine = .starting ∨ v.sen.engine = .run
    · obtain ⟨w, ports, stops, same⟩ := State.engineLinkStop_of runs p
      have scn : w.scn = s.scn := ports.scn.trans begins.ports.scn
      rw [stops, State.abandonSwitch_none (by rw [scn, steady]) (by rw [scn, noPending]),
        same ((congrArg Opu.resume begins.ports.opu).trans noResume)]
    · rw [State.engineLinkStop, if_neg runs]
  have ends := (s.leaveRunning_eq dest why p).2
  rw [State.bypassedTo_pif, quiet] at ends
  exact ends.trans begins.2

/-! ### LINK-REST (R178) -/

/-- STANDBY joins the reasons; an open gain turns down where it is the first of them. -/
theorem Opu.addReason_standby (o : Opu) : o.addReason .standby = { o with
    reasons := { o.reasons with standby := true }
    gainState := if o.reasons.isEmpty = true ∧ (o.gainState = .opened ∨ o.gainState = .rampUp) then .rampDown
      else o.gainState } := by
  have filled : (o.reasons.put .standby true).isEmpty = false := MuteSet.isEmpty_of_has (r := .standby) rfl
  have turns := gainStateAfter_eq o.reasons.isEmpty (o.reasons.put .standby true).isEmpty o.gainState
  simp only [filled, Bool.false_eq_true, false_and, and_false, true_and, if_false] at turns
  rw [Opu.addReason, Opu.setReasons, filled, turns]
  rfl

/-- The final step where it falls. -/
theorem State.linkRestFinal_of {k : Ticket} (pending : s.lnk.restPending = some k)
    (running : s.lnk.state = .running) (muted : s.opu.gainState = .muted) (free : s.lnk.restHeld = false) :
    s.linkRestFinal =
      ((State.leaveRunning { s with lnk := { s.lnk with restPending := none } } .resting .rest none
        (some k.port)).clearReady).answer k .done .none := by
  simp [State.linkRestFinal, pending, running, muted, free]

theorem State.linkRestFinal_waits (waits : s.opu.gainState ≠ .muted ∨ s.lnk.restHeld = true) :
    s.linkRestFinal = s := by
  obtain same | ⟨_, _, _, muted, free, _⟩ := s.linkRestFinal_cases
  · exact same
  · rcases waits with other | held
    · exact absurd muted other
    · simp [free] at held

theorem State.linkRestFinal_idle (idle : s.lnk.restPending = none ∨ s.lnk.state ≠ .running) :
    s.linkRestFinal = s := by
  obtain same | ⟨_, pending, running, _⟩ := s.linkRestFinal_cases
  · exact same
  · rcases idle with none | other
    · simp [pending] at none
    · exact absurd running other

end Sys2Proof.Machine

namespace Sys2Proof

open Machine

/-- Settles O54. -/
theorem linkRestWaitsForMuted : Obligations.LinkRestWaitsForMuted := by
  refine ⟨fun s p tag e takes => ⟨fun refused => ?_, fun running none muted => ?_,
    fun running none loud => ?_⟩, fun s tk free pending running => ⟨fun waits => ?_, fun muted unheld => ?_⟩,
    fun s idle => next_unlessReset_same (State.linkRestFinal_idle idle)⟩
  · refine (exec_taken takes).trans (congrArg _ ((if_pos ?_).trans (takes.answer .wrongState .none)))
    exact refused.imp id Option.isSome_iff_ne_none.mpr
  · have own := s.opu.addReason_standby
    rw [if_neg (by simp [muted])] at own
    let v := fun o : Opu => ({ s.taken p tag 29 e with
      opu := o
      lnk := { s.lnk with restPending := some { port := p, entry := e }, restHeld := false } } : State)
    have asked : (ownLinkRest ⟨p, e⟩ (s.taken p tag 29 e)) = (v (s.opu.addReason .standby)).linkRestFinal :=
      if_neg (by simp [running, none])
    rw [own] at asked
    exact (exec_taken takes).trans ((congrArg _ asked).trans
      (next_unlessReset (s := v _) takes.1 State.linkRestFinal).symm)
  · have own := s.opu.addReason_standby
    let v : State := { s.taken p tag 29 e with
      opu := s.opu.addReason .standby
      lnk := { s.lnk with restPending := some { port := p, entry := e }, restHeld := false } }
    have waits : v.linkRestFinal = v := by
      refine State.linkRestFinal_waits (.inl ?_)
      rw [show v.opu = _ from own]
      dsimp only
      split
      · nofun
      · exact loud
    refine ⟨v, (exec_taken takes).trans (congrArg _ ((if_neg (by simp [running, none])).trans waits)), rfl, ?_,
      rfl⟩
    rw [show v.opu = _ from own]
  · exact next_unlessReset_same (State.linkRestFinal_waits waits)
  · let v : State := { s with lnk := { s.lnk with restPending := none } }
    obtain ⟨readies, unit, sen, tuner, tgn', lib'⟩ :=
      (v.leaveRunning_left .resting .rest (some tk.port)).clearReady_facts
    have replies := (v.leaveRunning .resting .rest none (some tk.port)).clearReady_entry tk
    obtain ⟨lnk, gathered, -, engine, relay, still, fault, -, standby, -, tun, tgn, lib, -⟩ :=
      v.left_facts .resting
    refine ⟨_, next_unlessReset free _, ?_⟩
    rw [State.linkRestFinal_of pending running muted unheld]
    generalize (v.leaveRunning .resting .rest none (some tk.port)).clearReady = u at *
    have link : u.lnk = { s.lnk with
        state := .resting, time := 0, queue := [], levelPending := none, restPending := none
        primary := false, secondary := false } := by rw [readies, lnk]
    have tuner : u.tun = s.tun.linkDown := tuner.trans tun
    refine ⟨congrArg Lnk.state link, congrArg Lnk.time link, congrArg Lnk.restPending link,
      congrArg Lnk.primary link, congrArg Lnk.secondary link, congrArg Lnk.queue link,
      congrArg Lnk.levelPending link, (congrArg Lnk.auxValid link :), (congrArg Opu.relay unit).trans relay,
      (congrArg Opu.move unit).trans still, (congrArg (·.reasons.standby) unit).trans standby,
      (congrArg Opu.fault unit).trans fault, (congrArg Sen.gathered sen).trans gathered,
      (congrArg Sen.engine sen).trans engine, congrArg Tun.armed tuner, congrArg Tun.prevSample tuner,
      congrArg Tun.returned tuner, congrArg Tun.prevCapture tuner, congrArg Tun.series tuner,
      tgn'.trans tgn, lib'.trans lib,
      fun tag' kind' empty noResume steady noPending reserved => ?_⟩
    refine State.answer_entry (s := u) (tag := tag') (kind := kind') .done .none (replies.trans ?_)
    have quiet := v.leaveRunning_quiet empty noResume steady noPending .resting .rest (some tk.port)
    exact (Pif.entry_of_quiet quiet tk).trans reserved

end Sys2Proof

/-! PROOFS. Link starts, wakes and the timed states of the link (R174, R177, R179, R181). -/

namespace Sys2Proof.Machine

variable {s t : State}

/-! ### Time passing (R171) -/

theorem State.elapse_linked (s : State) (d : Nat) (dest : LinkState) (why : Option Departure) :
    let t := (s.elapse d).linkTo dest why
    t.lnk = { s.lnk with state := dest, time := 0 } ∧ t.sen = s.sen ∧ t.scn = s.scn ∧
    t.opu.reasons = s.opu.reasons ∧ t.opu.gain = s.opu.gain := by
  intro t
  have eq : OnlyPorts _ t := ((s.elapse d).linkTo_notices dest why).ports
  rw [eq]
  exact ⟨rfl, rfl, rfl, rfl, rfl⟩

/-! ### Wakes (R181) -/

/-- The part as it has entered WAKING. -/
def State.woken (s : State) : State :=
  { s with
    lnk := { s.lnk with
      state := .waking, time := 0, wakePending := false, primary := false, secondary := false
      auxValid := false }
    opu := { s.opu with elapsed := 0 } }

theorem State.enterWaking_notices (s : State) : OnlyNotices s.woken s.enterWaking :=
  ((State.linkTo_notices { s with lnk := { s.lnk with wakePending := false } } .waking (some .wake)).map
    (f := fun u => { u.unready with lnk := { u.unready.lnk with auxValid := false } }) fun _ _ => rfl).trans
    (State.linkStarted_notices _)

theorem State.wake_now (late : 100 ≤ s.lnk.time) : s.wake = s.enterWaking := if_pos late

theorem State.wake_later (early : s.lnk.time < 100) :
    s.wake = { s with lnk := { s.lnk with wakePending := true } } := if_neg (by omega)

/-- With a rest pending, its requester is answered. -/
theorem State.abortRest_some {k : Ticket} (pending : s.lnk.restPending = some k) (c : RestEnd) :
    s.abortRest c = s.unrested.answer k .aborted (.restEnded c) := by
  simp only [State.abortRest, State.unrested, pending]
  rfl

theorem State.abortRest_none (none : s.lnk.restPending = .none) (c : RestEnd) : s.abortRest c = s := by
  simp only [State.abortRest, none]

theorem ownLinkWake_resting (resting : s.lnk.state = .resting) (t : Ticket) :
    ownLinkWake t s = s.wake.answer t .done (.wake (decide (s.lnk.time < 100))) := by
  simp only [ownLinkWake, resting]

theorem ownLinkWake_cancels {k : Ticket} (running : s.lnk.state = .running)
    (pending : s.lnk.restPending = some k) (t : Ticket) :
    ownLinkWake t s = ((s.abortRest .wake).removeReason .standby).answer t .done (.wake false) := by
  simp only [ownLinkWake, running, pending, Option.isSome_some, if_true]

theorem ownLinkWake_refused (refused : s.lnk.state = .off ∨ s.lnk.state = .coldStart ∨ s.lnk.state = .syncing ∨
    s.lnk.state = .lost ∨ s.lnk.state = .waking ∨ (s.lnk.state = .running ∧ s.lnk.restPending = none))
    (t : Ticket) : ownLinkWake t s = s.answer t .wrongState .none := by
  rcases refused with is | is | is | is | is | ⟨is, none⟩
  · simp only [ownLinkWake, is]
  · simp only [ownLinkWake, is]
  · simp only [ownLinkWake, is]
  · simp only [ownLinkWake, is]
  · simp only [ownLinkWake, is]
  · simp only [ownLinkWake, is, none, Option.isSome_none, Bool.false_eq_true, if_false]

/-- The entry of a take was free, so it is not one that stands reserved. -/
theorem Takes.ticket_ne {p : Port} {tag : Byte} {q : Request} {e : Nat} (h : Takes s p tag q e) {k : Ticket}
    {tag' : Byte} {kind' : Nat} (reserved : s.pif.entry k = some (.reserved tag' kind')) : ⟨p, e⟩ ≠ k := by
  rintro rfl
  have empty := PortState.freeEntry_free h.free
  have at_ : (s.port p).replies[e]? = some (.reserved tag' kind') := reserved
  simp [at_] at empty

/-! ### LINK-START (R115, R177) -/

/-- A link start with STANDBY out of the reasons. -/
def State.startedUp (s : State) : State := s.linkStarted.removeReason .standby

/-- The link's marks cleared, and STANDBY out of the reasons. -/
def State.startsUp (s : State) : State :=
  State.removeReason { s.unready with lnk := { s.unready.lnk with auxValid := false } } .standby

theorem State.startedUp_notices (s : State) : OnlyNotices s.startsUp s.startedUp :=
  s.linkStarted_notices.map (f := fun u => u.removeReason .standby) fun _ _ => rfl

/-- A link start after the link has changed its state. -/
theorem OnlyScene.startedUp_facts (h : OnlyScene s t) :
    t.startedUp.lnk = { s.lnk with primary := false, secondary := false, auxValid := false } ∧
    t.startedUp.opu = s.opu.removeReason .standby ∧ t.startedUp.sen = s.sen ∧ t.startedUp.spl = s.spl ∧
    t.startedUp.tgn = s.tgn ∧ t.startedUp.lib = s.lib ∧ t.startedUp.pending = s.pending := by
  have starts : OnlyScene s.startsUp t.startedUp :=
    (h.map (f := State.startsUp) fun _ _ _ => rfl).trans t.startedUp_notices.ports.scene
  rw [starts]
  exact ⟨rfl, rfl, rfl, rfl, rfl, rfl, rfl⟩

theorem State.startedUp_scn (s : State) : s.startedUp.scn = s.scn := s.startedUp_notices.ports.scn

theorem State.startedUp_entry (s : State) (k : Ticket) : s.startedUp.pif.entry k = s.pif.entry k :=
  s.startedUp_notices.entry k

/-- A wake pending and the bypass hold taken back. -/
def State.unheld (s : State) : State :=
  { s with lnk := { s.lnk with wakePending := false }, sen := { s.sen with bypassHold := false } }

theorem State.unheld_abortRest (s : State) (c : RestEnd) :
    OnlyPorts s.unrested.unheld (s.abortRest c).unheld :=
  (s.abortRest_ports c).map (f := State.unheld) fun _ _ => rfl

theorem State.coldStart_running (running : s.lnk.state = .running) (p : Port) :
    s.coldStart p = s.leaveRunning .coldStart .start none (some p) := if_pos running

theorem State.coldStart_elsewhere (elsewhere : s.lnk.state ≠ .running) (p : Port) :
    s.coldStart p = s.linkTo .coldStart (some .start) := if_neg elsewhere

/-- The switch that a departure abandons: the taken recall is answered, the scene is in STEADY (R114). -/
theorem State.abandonSwitch_scn (moving : s.scn.phase ≠ .steady) (c : AbortCause) (p : Option Port) :
    (s.abandonSwitch c p).scn = s.scn.abandoned := by
  rw [State.abandonSwitch, if_neg moving, State.abortPending_eq, State.abortTaken_eq]
  rfl

theorem State.leaveRunning_recall {w : SwitchRec} {tag : Byte} {kind : Nat} (runs : s.sen.engine = .run)
    (empty : s.lnk.queue = []) (noResume : s.opu.resume = none) (taken : s.scn.switch = some w)
    (moving : s.scn.phase ≠ .steady) (due : s.scn.phase ≠ .gapIn)
    (reserved : s.pif.entry w.ticket = some (.reserved tag kind)) (dest : LinkState) (why : Departure)
    (p : Option Port) :
    (s.leaveRunning dest why none p).pif.entry w.ticket = some (.filled {
      tag := tag, kind := kind, status := .aborted
      fields := .recallAborted (some s.scn.generation) .link }) ∧
    (s.leaveRunning dest why none p).scn = s.scn.abandoned := by
  have begins := State.offRunning_notices empty
  have ends := s.leaveRunning_eq dest why p
  obtain ⟨v, ports, stops, same⟩ := State.engineLinkStop_of (s := s.endQueue.dropBlock.tunerLinkDown)
    (.inr ((congrArg (·.sen.engine) begins.1).trans runs)) p
  have scn : v.scn = s.scn := ports.scn.trans begins.ports.scn
  have pif := same ((congrArg Opu.resume begins.ports.opu).trans noResume)
  have entry : v.pif.entry w.ticket = some (.reserved tag kind) := by
    rw [pif, begins.entry]
    exact reserved
  rw [stops] at ends
  rw [← scn] at taken moving due ⊢
  refine ⟨?_, ?_⟩
  · rw [ends.entry, State.bypassedTo_pif]
    exact State.abandonSwitch_taken moving taken due entry
  · rw [ends.ports.scn]
    exact State.abandonSwitch_scn moving .link p

/-- The change to COLD_START in a LINK-START. -/
def State.startsCold (s : State) (p : Port) : State := (s.abortRest .start).unheld.coldStart p

theorem State.startsCold_running (running : s.lnk.state = .running) (p : Port) :
    OnlyScene (s.unrested.unheld.left .coldStart) (s.startsCold p) := by
  have before := s.unheld_abortRest .start
  rw [State.startsCold, State.coldStart_running ((congrArg (·.lnk.state) before).trans running)]
  exact ((before.map (f := fun u => u.left .coldStart) fun u g => u.left_pif .coldStart g).scene).trans
    (State.leaveRunning_left _ .coldStart .start (some p))

theorem State.startsCold_elsewhere (elsewhere : s.lnk.state ≠ .running) (p : Port) :
    OnlyPorts (s.unrested.unheld.linked .coldStart) (s.startsCold p) := by
  have before := s.unheld_abortRest .start
  rw [State.startsCold,
    State.coldStart_elsewhere fun is => elsewhere ((congrArg (·.lnk.state) before).symm.trans is)]
  exact (before.map (f := fun u => u.linked .coldStart) fun _ _ => rfl).trans
    (State.linkTo_notices _ .coldStart _).ports

/-- What every LINK-START leaves, whatever state it came from. -/
theorem State.startsCold_facts (s : State) (p : Port) : ∃ d, OnlyScene d (s.startsCold p) ∧
    (∃ q l h, d.lnk = { s.lnk with
      state := .coldStart, time := 0, wakePending := false, restPending := none, restHeld := h, queue := q
      levelPending := l }) ∧
    d.sen.bypassHold = false ∧ d.opu.reasons.masterMute = s.opu.reasons.masterMute ∧
    d.opu.fault = s.opu.fault ∧ d.opu.gain = s.opu.gain ∧ d.tgn = s.tgn ∧ d.lib = s.lib ∧
    d.pending = s.pending := by
  by_cases running : s.lnk.state = .running
  · obtain ⟨lnk, -, hold, -, -, -, fault, gain, -, mute, -, tgn, lib, pending⟩ :=
      s.unrested.unheld.left_facts .coldStart
    exact ⟨_, State.startsCold_running running p, ⟨_, _, _, lnk⟩, hold, mute, fault, gain, tgn, lib, pending⟩
  · exact ⟨_, (State.startsCold_elsewhere running p).scene, ⟨_, _, _, rfl⟩, rfl, rfl, rfl, rfl, rfl, rfl, rfl⟩

theorem ownLinkStart_eq (k : Ticket) (s : State) : ownLinkStart k s =
    ((s.startsCold k.port).startedUp).answer k .done (.linkBefore s.lnk.state) := rfl

/-- The taken recall and the scene, where a LINK-START abandons a switch (R114, R115). -/
theorem State.startsCold_recall {w : SwitchRec} {tag : Byte} {kind : Nat} (running : s.lnk.state = .running)
    (runs : s.sen.engine = .run) (noRest : s.lnk.restPending = none) (empty : s.lnk.queue = [])
    (noResume : s.opu.resume = none) (taken : s.scn.switch = some w) (moving : s.scn.phase ≠ .steady)
    (due : s.scn.phase ≠ .gapIn) (reserved : s.pif.entry w.ticket = some (.reserved tag kind)) (p : Port) :
    (s.startsCold p).pif.entry w.ticket = some (.filled {
      tag := tag, kind := kind, status := .aborted
      fields := .recallAborted (some s.scn.generation) .link }) ∧
    (s.startsCold p).scn = s.scn.abandoned := by
  rw [State.startsCold, State.abortRest_none noRest, State.coldStart_running (s := s.unheld) running]
  exact State.leaveRunning_recall (s := s.unheld) runs empty noResume taken moving due reserved _ _ _

/-- From another state than RUNNING, with no rest pending, the ports show notices alone. -/
theorem State.startsCold_quiet (elsewhere : s.lnk.state ≠ .running) (noRest : s.lnk.restPending = none)
    (p : Port) : (s.startsCold p).pif.quiet = s.pif.quiet := by
  rw [State.startsCold, State.abortRest_none noRest, State.coldStart_elsewhere (s := s.unheld) elsewhere]
  exact (s.unheld.linkTo_notices .coldStart (some .start)).2

/-- The LINK-REST that a LINK-START ends is answered (R177). -/
theorem State.startsCold_rest {k : Ticket} {tag : Byte} {kind : Nat} (pending : s.lnk.restPending = some k)
    (reserved : s.pif.entry k = some (.reserved tag kind)) (p : Port) :
    (s.startsCold p).pif.entry k = some (.filled {
      tag := tag, kind := kind, status := .aborted, fields := .restEnded .start }) := by
  have answered : (s.abortRest .start).pif.entry k = some (.filled {
      tag := tag, kind := kind, status := .aborted, fields := .restEnded .start }) := by
    rw [State.abortRest_some pending]
    exact State.answer_entry (s := s.unrested) .aborted _ reserved
  have evolves : (s.abortRest .start).Evolves (s.startsCold p) :=
    State.Evolves.coldStart (s := (s.abortRest .start).unheld) (State.Evolves.refl (s.abortRest .start)).same
  exact evolves.entry_filled answered

end Sys2Proof.Machine

namespace Sys2Proof

open Machine

/-- Settles O53. -/
theorem linkStartsAndWakes : Obligations.LinkStartsAndWakes := by
  refine ⟨fun s p tag e takes => ?_, fun s free => ⟨fun cold => ?_, fun other => ?_, fun waking => ?_,
    fun other => ?_, fun resting late => ?_, fun resting early => ?_, fun other => ?_,
    fun resting deferred => ?_, fun other => ?_⟩, fun s p tag e takes => ⟨fun resting late => ?_,
    fun resting early => ?_, fun tk tag' kind' running pending reserved => ?_, fun refused => ?_⟩⟩
  · let u := s.taken p tag 28 e
    have exec_ := (exec_taken takes).trans (congrArg _ (ownLinkStart_eq ⟨p, e⟩ u))
    have inRun := fun running : s.lnk.state = .running =>
      (State.startsCold_running (s := u) running p).startedUp_facts
    have elsewhere := fun other : s.lnk.state ≠ .running => State.startsCold_elsewhere (s := u) other p
    have elsewhere' := fun other => (elsewhere other).scene.startedUp_facts
    obtain ⟨d, scene, ⟨q, l, h, lnk⟩, hold, mute, fault, gain, tgn, lib, pending⟩ := u.startsCold_facts p
    obtain ⟨lnk', opu', sen', -, tgn', lib', pending'⟩ := scene.startedUp_facts
    have recalled := fun w tag kind running runs noRest empty noResume taken moving due reserved =>
      State.startsCold_recall (s := u) (w := w) (tag := tag) (kind := kind) running runs noRest empty noResume
        taken moving due reserved p
    have quiet := fun other noRest => State.startsCold_quiet (s := u) other noRest p
    have rest := fun k tag kind pending reserved =>
      State.startsCold_rest (s := u) (k := k) (tag := tag) (kind := kind) pending reserved p
    generalize u.startsCold p = x at *
    have link : x.startedUp.lnk = { s.lnk with
        state := .coldStart, time := 0, wakePending := false, restPending := none, restHeld := h, queue := q
        levelPending := l, primary := false, secondary := false, auxValid := false } := by
      rw [lnk', lnk]
      rfl
    have filled : ∀ k r, x.pif.entry k = some (.filled r) →
        (x.startedUp.answer ⟨p, e⟩ .done (.linkBefore s.lnk.state)).pif.entry k = some (.filled r) :=
      fun k r at_ => State.answer_entry_filled _ _ ((x.startedUp_entry k).trans at_)
    have scn := x.startedUp_scn
    have ends := x.startedUp_notices
    generalize x.startedUp = t at *
    refine ⟨_, exec_, congrArg Lnk.state link, congrArg Lnk.time link, congrArg Lnk.primary link,
      congrArg Lnk.secondary link, congrArg Lnk.auxValid link, congrArg Lnk.wakePending link,
      congrArg Lnk.restPending link, (congrArg Lnk.auxIn link :), (congrArg Sen.bypassHold sen').trans hold,
      congrArg (·.reasons.standby) opu', (congrArg (·.reasons.masterMute) opu').trans mute,
      (congrArg Opu.fault opu').trans fault, (congrArg Opu.gain opu').trans gain, tgn'.trans tgn,
      lib'.trans lib, pending'.trans pending, fun running => ?_,
      fun w tag' kind' running runs noRest empty noResume taken phase reserved => ?_, fun other => ?_,
      fun other noRest => ?_, fun tk tag' kind' pending reserved => ?_⟩
    · obtain ⟨-, gathered, -, engine, relay, still, -⟩ := u.unrested.unheld.left_facts .coldStart
      obtain ⟨lnk, opu, sen, -⟩ := inRun running
      have queue := (u.unrested.unheld.left_facts .coldStart).1
      exact ⟨(congrArg Lnk.queue lnk).trans (congrArg Lnk.queue queue),
        (congrArg Sen.gathered sen).trans gathered, (congrArg Opu.relay opu).trans relay,
        (congrArg Opu.move opu).trans still, (congrArg Sen.engine sen).trans engine⟩
    · have moving : s.scn.phase ≠ .steady ∧ s.scn.phase ≠ .gapIn := by
        rcases phase with is | is | is <;> simp [is]
      obtain ⟨answered, left⟩ := recalled w tag' kind' running runs noRest empty noResume taken moving.1
        moving.2 (takes.entry reserved)
      have after : t.scn = s.scn.abandoned := scn.trans left
      exact ⟨filled _ _ answered, congrArg Scn.switch after, congrArg Scn.phase after,
        (congrArg Scn.generation after :), (congrArg Scn.live after :)⟩
    · obtain ⟨-, opu, sen, spl, -⟩ := elsewhere' other
      exact ⟨sen, scn.trans (elsewhere other).scn, spl, (congrArg Opu.relay opu :)⟩
    · have answers := State.answer_quiet (s := u) (t := t) (ends.2.trans (quiet other noRest)) ⟨p, e⟩ .done
        (.linkBefore s.lnk.state)
      exact answers.trans (congrArg (·.pif.quiet) (takes.answer .done (.linkBefore s.lnk.state)))
    · exact filled _ _ (rest tk tag' kind' pending (takes.entry reserved))
  · have expires : s.coldStartExpiry = (s.elapse (1000 - s.lnk.time)).linkTo .syncing none := if_pos cold
    refine ⟨_, next_unlessReset free _, ?_⟩
    rw [expires]
    exact s.elapse_linked _ .syncing none
  · exact next_unlessReset_same (if_neg other)
  · have expires : s.wakingExpiry = (s.elapse (2 - s.lnk.time)).linkTo .syncing none := if_pos waking
    refine ⟨_, next_unlessReset free _, ?_⟩
    rw [expires]
    exact s.elapse_linked _ .syncing none
  · exact next_unlessReset_same (if_neg other)
  · have wakes : s.converterWake = s.enterWaking := (if_pos resting).trans (State.wake_now late)
    obtain ⟨eq, quiet⟩ := s.enterWaking_notices
    refine ⟨_, next_unlessReset free _, ?_⟩
    rw [wakes, quiet, eq]
    exact ⟨rfl, rfl, rfl, rfl, rfl⟩
  · exact (next_unlessReset free _).trans (congrArg _ ((if_pos resting).trans (State.wake_later early)))
  · exact next_unlessReset_same (if_neg other)
  · have wakes : s.wakeDeferralExpiry = (s.elapse (100 - s.lnk.time)).enterWaking := if_pos ⟨resting, deferred⟩
    have eq := (s.elapse (100 - s.lnk.time)).enterWaking_notices.1
    refine ⟨_, next_unlessReset free _, ?_⟩
    rw [wakes, eq]
    exact ⟨rfl, rfl, rfl, rfl⟩
  · refine next_unlessReset_same (if_neg fun h => ?_)
    rcases other with other | other
    · exact other h.1
    · simp [other] at h
  · let u := s.taken p tag 30 e
    have own : ownLinkWake ⟨p, e⟩ u = u.enterWaking.answer ⟨p, e⟩ .done (.wake (decide (s.lnk.time < 100))) := by
      rw [← State.wake_now (s := u) late]
      exact ownLinkWake_resting (s := u) resting ⟨p, e⟩
    rw [decide_eq_false (by omega)] at own
    obtain ⟨eq, quiet⟩ := u.enterWaking_notices.answer ⟨p, e⟩ .done (.wake false)
    have answers := State.answer_quiet (s := u) (t := u.woken) rfl ⟨p, e⟩ .done (.wake false)
    refine ⟨_, (exec_taken takes).trans (congrArg _ own), ?_, ?_⟩
    · rw [eq]
      rfl
    · exact quiet.trans (answers.trans (congrArg (·.pif.quiet) (takes.answer .done (.wake false))))
  · let u := s.taken p tag 30 e
    have own : ownLinkWake ⟨p, e⟩ u = u.wake.answer ⟨p, e⟩ .done (.wake (decide (s.lnk.time < 100))) :=
      ownLinkWake_resting (s := u) resting ⟨p, e⟩
    rw [decide_eq_true early, State.wake_later (s := u) early] at own
    refine (exec_taken takes).trans (congrArg _ (own.trans ?_))
    exact congrArg (fun v : State => { v with lnk := { s.lnk with wakePending := true } })
      (takes.answer .done (.wake true))
  · let u := s.taken p tag 30 e
    let v := State.answer u.unrested tk .aborted (.restEnded .wake)
    have own : ownLinkWake ⟨p, e⟩ u = ((v.removeReason .standby).answer ⟨p, e⟩ .done (.wake false)) := by
      have cancels := ownLinkWake_cancels (s := u) running (k := tk) pending ⟨p, e⟩
      rw [State.abortRest_some (s := u) pending] at cancels
      exact cancels
    have other : (⟨p, e⟩ : Ticket) ≠ tk := takes.ticket_ne reserved
    have answered : v.pif.entry tk = _ :=
      State.answer_entry (s := u.unrested) .aborted (.restEnded .wake) (takes.entry reserved)
    have due : v.pif.entry ⟨p, e⟩ = some (.reserved tag 30) :=
      (State.answer_entry_ne (s := u.unrested) .aborted (.restEnded .wake) other).trans
        (State.taken_entry takes.free)
    have link : u.unrested.lnk = { s.lnk with restPending := none, restHeld := false } := by
      simp only [State.unrested, show u.lnk.restPending = some tk from pending]
      rfl
    refine ⟨_, (exec_taken takes).trans (congrArg _ own), link, rfl, ?_, ?_, rfl, rfl⟩
    · exact State.answer_entry_filled (s := v.removeReason .standby) _ _ answered
    · exact State.answer_entry (s := v.removeReason .standby) .done (.wake false) due
  · refine (exec_taken takes).trans (congrArg _ (Eq.trans ?_ (takes.answer .wrongState .none)))
    exact ownLinkWake_refused (s := s.taken p tag 30 e) refused ⟨p, e⟩

end Sys2Proof

/-! PROOFS. The frames sent (R19, R153, R172, R183, R185). -/

namespace Sys2Proof.Machine

variable {s t : State}

/-! ### Words by their bits (section 9.1) -/

theorem tagBit_getLsbD {k i : Nat} (b : Bool) (inside : k < 24) :
    (tagBit k b).getLsbD i = (decide (i = k) && b) := by
  cases b
  · simp [tagBit]
  · by_cases same : i = k
    · subst same
      simp [tagBit, inside]
    · have apart : i < k ∨ i - k ≠ 0 := by omega
      rcases apart with less | more
      · simp [tagBit, same, less]
      · simp [tagBit, same, more]

theorem bitAt_getLsbD {k i : Nat} (b : Bool) (inside : k < 16) :
    (bitAt k b).getLsbD i = (decide (i = k) && b) := by
  cases b
  · simp [bitAt]
  · by_cases same : i = k
    · subst same
      simp [bitAt, inside]
    · have apart : i < k ∨ i - k ≠ 0 := by omega
      rcases apart with less | more
      · simp [bitAt, same, less]
      · simp [bitAt, same, more]

/-- Above the low bits of a word. -/
theorem lowBits_getLsbD {w : Word24} {mask : Word24} (k : Nat) (low : mask = BitVec.ofNat 24 (2 ^ k - 1)) {i : Nat}
    (above : k ≤ i) : (w &&& mask).getLsbD i = false := by
  simp [low, BitVec.getLsbD_ofNat, Nat.testBit_two_pow_sub_one, above]

theorem composeFrame_tag (s : State) (audio : Bool) (cmd : Option Access) (x y : Int) (i : Nat) :
    (s.composeFrame audio cmd x y).tag.getLsbD i =
      (decide (i = 23) || (decide (i = 2 ∨ i = 3 ∨ i = 4) && audio) || (decide (i = 5) && s.lnk.auxValid) ||
        (decide (i = 0 ∨ i = 1) && cmd.isSome) ||
        (decide (i = 8) && cmd.any fun a => decide (a.target = .secondary))) := by
  simp only [State.composeFrame, BitVec.getLsbD_or, tagBit_getLsbD _ (show 0 < 24 by decide),
    tagBit_getLsbD _ (show 1 < 24 by decide), tagBit_getLsbD _ (show 2 < 24 by decide),
    tagBit_getLsbD _ (show 3 < 24 by decide), tagBit_getLsbD _ (show 4 < 24 by decide),
    tagBit_getLsbD _ (show 5 < 24 by decide), tagBit_getLsbD _ (show 8 < 24 by decide),
    tagBit_getLsbD _ (show 23 < 24 by decide), Bool.decide_or]
  grind

/-- A READ's command word. -/
theorem commandWord_read {a : Access} (read : a.data = none) (small : a.index < 128) :
    commandWord a = BitVec.ofNat 24 (128 + a.index) := by
  have sum : 2 ^ 7 * 1 + a.index = 2 ^ 7 * 1 ||| a.index := Nat.two_pow_add_eq_or_of_lt small 1
  have bit : tagBit 7 a.data.isNone = BitVec.ofNat 24 (2 ^ 7 * 1) := by simp [tagBit, read]
  rw [commandWord, Nat.mod_eq_of_lt small, bit, BitVec.or_comm, ← BitVec.ofNat_or, ← sum]
  rfl

theorem commandWord_write {a : Access} {v : Nat} (write : a.data = some v) (small : a.index < 128) :
    commandWord a = BitVec.ofNat 24 a.index := by
  simp [commandWord, write, tagBit, Nat.mod_eq_of_lt small]

theorem commandData_write {a : Access} {v : Nat} (write : a.data = some v) (small : v < 65536) :
    commandData a = BitVec.ofNat 24 v := by
  simp [commandData, write, Nat.mod_eq_of_lt small]

theorem commandData_read {a : Access} (read : a.data = none) : commandData a = 0 := by
  simp [commandData, read]

/-! ### The command of a frame (R183) -/

theorem Lnk.afterCommand_none {k : Lnk} (none : k.command = .none) : k.afterCommand = k := by
  simp only [Lnk.afterCommand, none]

theorem Lnk.afterCommand_read {k : Lnk} {a : Access} (sends : k.command = some a) (read : a.data = none) :
    k.afterCommand =
      { k with queue := { a with sent := true, waited := 0, fresh := true } :: k.queue.drop 1 } := by
  simp [Lnk.afterCommand, sends, read]

theorem Lnk.afterCommand_write {k : Lnk} {a : Access} {v : Nat} (sends : k.command = some a)
    (write : a.data = some v) : k.afterCommand = { k with queue := k.queue.drop 1 } := by
  simp [Lnk.afterCommand, sends, write, Lnk.dropFirst]

theorem Lnk.afterCommand_eq (k : Lnk) : k.afterCommand = { k with queue := k.afterCommand.queue } := by
  cases sends : k.command with
  | none => rw [Lnk.afterCommand_none sends]
  | some a =>
    cases data : a.data with
    | none => rw [Lnk.afterCommand_read sends data]
    | some v => rw [Lnk.afterCommand_write sends data]

/-! ### A frame in RUNNING (R19, R21, R22) -/

theorem State.clip_notices (s : State) (b : Bool) :
    OnlyNotices (s.clippedBy b) (if b then s.setSummaryClip else s) := by
  rw [State.clip_eq]
  refine ⟨rfl, ?_⟩
  dsimp only
  split
  · exact Pif.raise_quiet _ _
  · rfl

/-- The part with its frame sent in RUNNING. -/
def State.sends (s : State) : State :=
  let c := s.clippedBy s.outSaturates
  { c with
    sen := { c.sen with outQueue := c.sen.outQueue.drop 1, runaway := s.runawayAfter }
    lnk := { c.lnk.afterCommand with
      lastOut := c.composeFrame true c.lnk.command s.outSample s.outSend, restHeld := false } }

theorem State.sendRunning_notices (s : State) : OnlyNotices s.sends s.sendRunning :=
  (s.clip_notices s.outSaturates).map (f := fun c => { c with
    sen := { c.sen with outQueue := c.sen.outQueue.drop 1, runaway := s.runawayAfter }
    lnk := { c.lnk.afterCommand with
      lastOut := c.composeFrame true c.lnk.command s.outSample s.outSend, restHeld := false } }) fun _ _ => rfl

theorem State.muted_iff (s : State) :
    s.muted = true ↔ s.opu.gainState = .muted ∨ s.opu.gain = 0 ∨ s.sen.engine ≠ .run := by
  simp [State.muted, or_assoc]

/-! ### A frame in LOST (entry 9) -/

theorem lostFrame_tag (w : Nat → Word24) (valid : Bool) (i : Nat) (unused : i = 7 ∨ (9 ≤ i ∧ i ≤ 22)) :
    (lostFrame w valid).tag.getLsbD i = false := by
  have outside : lostTagBits.getLsbD i = false := by
    rcases unused with rfl | ⟨low, high⟩
    · rfl
    · interval_cases i <;> rfl
  simp only [lostFrame, BitVec.getLsbD_or, BitVec.getLsbD_and, outside, tagBit_getLsbD _ (show 5 < 24 by decide),
    show i ≠ 5 by omega, decide_false, Bool.and_false, Bool.false_and, Bool.or_false]

theorem lostFrame_valid (w : Nat → Word24) (valid : Bool) : (lostFrame w valid).tag.getLsbD 5 = valid := by
  have outside : lostTagBits.getLsbD 5 = false := rfl
  simp only [lostFrame, BitVec.getLsbD_or, BitVec.getLsbD_and, outside, tagBit_getLsbD _ (show 5 < 24 by decide),
    decide_true, Bool.and_false, Bool.true_and, Bool.false_or]

theorem lostFrame_slot6 (w : Nat → Word24) (valid : Bool) {i : Nat} (above : 14 ≤ i) :
    (lostFrame w valid).slot6.getLsbD i = false := by
  cases valid
  · exact BitVec.getLsbD_zero
  · exact lowBits_getLsbD 14 rfl above

theorem State.gainFrame_auxSlot (s : State) : s.gainFrame.auxSlot = s.auxSlot := by
  have fault : s.opu.advanceGain.fault = s.opu.fault := by cases g : s.opu.gainState <;> simp [Opu.advanceGain, g]
  unfold State.auxSlot State.auxOut State.gainFrame
  rw [fault]

/-! ### The aux output word (R146, R185) -/

theorem Tun.cents_eq (t : Tun) : t.cents =
    if t.state = .locked then t.reading.bind fun r => r.note.map (·.cents) else none := by
  unfold Tun.cents
  cases t.state <;> cases t.reading <;> rfl

theorem State.auxOut_getLsbD (s : State) (i : Nat) : s.auxOut.getLsbD i =
    ((decide (i < 8) && s.scn.latch.getLsbD i) || (decide (i = 8) && s.tgn.lamp) ||
      (decide (i = 9) && s.sen.summaryClip) || (decide (i = 10) && s.tun.flatLamp) ||
      (decide (i = 11) && s.tun.inTuneLamp) || (decide (i = 12) && s.tun.sharpLamp) ||
      (decide (i = 13) && s.opu.fault.isSome)) := by
  have low : (255#16).getLsbD i = decide (i < 8) := by
    rw [show 255#16 = BitVec.ofNat 16 (2 ^ 8 - 1) from rfl, BitVec.getLsbD_ofNat, Nat.testBit_two_pow_sub_one]
    by_cases below : i < 8
    · simp [below, show i < 16 by omega]
    · simp [below]
  simp only [State.auxOut, BitVec.getLsbD_or, BitVec.getLsbD_and, low, bitAt_getLsbD _ (show 8 < 16 by decide),
    bitAt_getLsbD _ (show 9 < 16 by decide), bitAt_getLsbD _ (show 10 < 16 by decide),
    bitAt_getLsbD _ (show 11 < 16 by decide), bitAt_getLsbD _ (show 12 < 16 by decide),
    bitAt_getLsbD _ (show 13 < 16 by decide), Bool.and_comm (s.scn.latch.getLsbD i)]

end Sys2Proof.Machine

namespace Sys2Proof

open Machine

/-- Settles O51. -/
theorem frameSentComposes : Obligations.FrameSentComposes := by
  refine ⟨fun s free due running => ?_, fun s free due syncing => ?_, fun s free due lost => ?_,
    fun s free due none => ?_, fun s i small => ?_⟩
  · intro g out muted exactly sample send cmd
    let v := s.gainFrame
    have gain : v.opu = g := by
      show s.opu.advanceGain = g
      cases state : s.opu.gainState <;> simp only [g, state, Opu.advanceGain]
    have mutes : v.muted = decide muted := by
      rw [Bool.eq_iff_iff, v.muted_iff, decide_eq_true_iff, gain]
      rfl
    have leaving : v.outSample = sample := by
      simp only [State.outSample, mutes, gain, decide_eq_true_eq]
      rfl
    have sent : v.outSend = send := by
      simp only [State.outSend, mutes, decide_eq_true_eq]
      rfl
    have saturates : v.outSaturates = (!decide muted && decide (sat exactly ≠ exactly)) := by
      simp only [State.outSaturates, mutes, gain]
      rfl
    have sends : s.frameOut = v.sendRunning := by simp only [State.frameOut, running]; rfl
    obtain ⟨eq, quiet⟩ := v.sendRunning_notices
    have tag := composeFrame_tag (v.clippedBy v.outSaturates) true cmd v.outSample v.outSend
    have queue := s.lnk.afterCommand_eq
    refine ⟨_, s.frameOut, exec_frameSent free due, runAll_dueCommands ?_, id, ?_⟩
    · rw [sends, eq]
      exact free
    rw [sends, quiet, eq]
    refine ⟨gain, congrArg slotWord leaving, congrArg slotWord leaving, congrArg slotWord sent, ?_, rfl,
      fun i small => ?_, fun none => ?_, fun a is small => ⟨fun read => ?_, fun w write fits => ?_⟩, ?_, ?_,
      rfl, rfl, rfl, rfl, rfl, rfl, rfl⟩
    · have valid : v.sends.lnk.auxValid = s.lnk.auxValid := (congrArg Lnk.auxValid queue :)
      show (if s.lnk.auxValid = true then _ else _) = if v.sends.lnk.auxValid = true then _ else _
      rw [valid]
      rfl
    · refine (tag i).trans ?_
      rw [Bool.and_true, ← Bool.decide_or]
      rfl
    · have stays := Lnk.afterCommand_none none
      exact ⟨congrArg (fun c => (Option.map commandWord c).getD 0) none,
        congrArg (fun c => (Option.map commandData c).getD 0) none, (congrArg Lnk.queue stays :)⟩
    · have after := Lnk.afterCommand_read is read
      exact ⟨(congrArg (fun c => (Option.map commandWord c).getD 0) is).trans (commandWord_read read small),
        (congrArg (fun c => (Option.map commandData c).getD 0) is).trans (commandData_read read),
        (congrArg Lnk.queue after :)⟩
    · have after := Lnk.afterCommand_write is write
      exact ⟨(congrArg (fun c => (Option.map commandWord c).getD 0) is).trans (commandWord_write write small),
        (congrArg (fun c => (Option.map commandData c).getD 0) is).trans (commandData_write write fits),
        (congrArg Lnk.queue after :)⟩
    · exact congrArg (fun k : Lnk => { k with lastOut := v.sends.lnk.lastOut, restHeld := false }) queue
    · have counted : v.runawayAfter = if s.sen.engine = .run then
          (if 8388000 ≤ sample.natAbs then s.sen.runaway + 1 else 0) else s.sen.runaway := by
        rw [State.runawayAfter, leaving]
        rfl
      show ({ s.sen with
        summaryClip := s.sen.summaryClip || v.outSaturates, outQueue := s.sen.outQueue.drop 1
        runaway := v.runawayAfter } : Sen) = _
      rw [saturates, counted]
  · have sends : s.frameOut = s.gainFrame.sendSyncing := by simp only [State.frameOut, syncing]
    have tag := composeFrame_tag s.gainFrame false none 0 0
    refine ⟨_, s.frameOut, exec_frameSent free due, runAll_dueCommands ?_, id, ?_⟩
    · rw [sends]
      exact free
    · rw [sends]
      refine ⟨rfl, s.gainFrame_auxSlot, rfl, rfl, rfl, rfl, rfl, rfl, fun i small => ?_⟩
      refine (tag i).trans ?_
      simp
      rfl
  · have sends : s.frameOut = s.gainFrame.sendLost := by simp only [State.frameOut, lost]
    refine ⟨_, s.frameOut, exec_frameSent free due, runAll_dueCommands ?_, id, ?_⟩
    · rw [sends]
      exact free
    · rw [sends]
      refine ⟨rfl, rfl, rfl, rfl, rfl, fun invalid => ?_, lostFrame_valid _ _, fun i unused =>
        lostFrame_tag _ _ i unused, fun i above => ?_, fun i above => ?_, fun i above => ?_⟩
      · exact (if_neg (by rw [show s.gainFrame.lnk = s.lnk from rfl, invalid]; decide))
      · exact lowBits_getLsbD 8 rfl above
      · exact lowBits_getLsbD 16 rfl above
      · exact lostFrame_slot6 _ _ above
  · refine (exec_frameSent free due).trans (congrArg _ ?_)
    have same : s.frameOut = s := by
      rcases none with is | is | is | is
      · simp only [State.frameOut, is]
      · simp only [State.frameOut, is]
      · simp only [State.frameOut, is]
      · simp only [State.frameOut, is]
    rw [same, due]
  · intro cents
    have shown : s.tun.cents = cents := s.tun.cents_eq
    rw [s.auxOut_getLsbD i, Tun.flatLamp, Tun.inTuneLamp, Tun.sharpLamp, shown]
    simp only [Bool.decide_and]

end Sys2Proof

/-! PROOFS. The frames received (R172, R173, R175, R183, R186). -/

namespace Sys2Proof.Machine

variable {s t : State} {b : Bool}

/-! ### What the tempo generator changes in a frame (R117 to R119, R124, R127) -/

/-- The second state is the first but for what a beat can change: the tempo generator, the stages of the
contexts and what the ports show. -/
def OnlyTempo (s t : State) : Prop :=
  t = { s with tgn := t.tgn, sen := { s.sen with front := t.sen.front, back := t.sen.back }
               pif := t.pif }

theorem OnlyTempo.refl (s : State) : OnlyTempo s s := rfl

theorem OnlyTempo.trans {s t u : State} (first : OnlyTempo s t) (second : OnlyTempo t u) : OnlyTempo s u := by
  unfold OnlyTempo at second
  rw [first] at second
  exact second

theorem State.beatEvent_tempo (s : State) (c : BeatCause) : OnlyTempo s (s.beatEvent c) := by
  rw [State.beatEvent_eq]
  rfl

theorem State.beatUnderflow_tempo (s : State) : OnlyTempo s s.beatUnderflow := by
  unfold State.beatUnderflow
  split
  · exact s.beatEvent_tempo .counter
  · exact .refl s

theorem State.beatLampOff_tempo (s : State) : OnlyTempo s s.beatLampOff := by
  unfold State.beatLampOff
  split <;> rfl

theorem State.tapTimeout_tempo (s : State) : OnlyTempo s s.tapTimeout := by
  unfold State.tapTimeout
  split <;> rfl

theorem OnlyNotices.tempo (h : OnlyNotices s t) : OnlyTempo s t := by
  unfold OnlyTempo
  rw [h.1]

/-- The registers of a lost pulse, before its beat event (R127). -/
def Tgn.pulseHeld (t : Tgn) : Tgn := { t with pulse := some .holding, pulseCount := 0 }

theorem State.pulseLost_tempo (s : State) : OnlyTempo s s.pulseLost := by
  unfold State.pulseLost
  split
  · have held : OnlyTempo s { s with tgn := s.tgn.pulseHeld } := rfl
    exact (held.trans (State.beatEvent_tempo _ .hold)).trans (OnlyNotices.raise _ _).tempo
  · exact .refl s

theorem State.tempoEvents_tempo (s : State) : OnlyTempo s s.tempoEvents :=
  s.beatUnderflow_tempo.trans <| (State.beatLampOff_tempo _).trans <| (State.tapTimeout_tempo _).trans <|
    State.pulseLost_tempo _

/-- The events of the counted frame are its commands in a row. -/
theorem runAll_tempoEvents (free : s.por = false) :
    runAll [.beatCounterUnderflow, .beatLampOff, .tapTimeout, .pulseLost] s = .next s.tempoEvents := by
  have por : ∀ {u : State}, OnlyTempo s u → u.por = false := fun h => (congrArg State.por h).trans free
  have first := s.beatUnderflow_tempo
  have second := first.trans (State.beatLampOff_tempo _)
  have third := second.trans (State.tapTimeout_tempo _)
  simp only [runAll, exec, execBeatCounterUnderflow, execBeatLampOff, execTapTimeout, execPulseLost, unlessReset,
    free, por first, por second, por third, Bool.false_eq_true, if_false]
  rfl

/-! ### The count of a frame (R172) -/

/-- The registers that count a frame, before its beat events. -/
def State.hears (s : State) (f0 f1 : InFrame) : State :=
  let x := slotSample f0.tag 3 f0.slot3
  { s with
    sen := { s.sen with gathered := s.sen.gathered ++ [(x, slotSample f1.tag 5 f1.slot5)] }
    opu := { s.opu with elapsed := 0 }
    lnk := s.lnk.countFrame
    tun := s.tun.frame x
    tgn := s.tgn.countFrame }

/-- The part with a frame's samples, before the tuner and the tempo generator count it. -/
def State.gathers (s : State) (f0 f1 : InFrame) : State :=
  { s with
    sen := { s.sen with
      gathered := s.sen.gathered ++ [(slotSample f0.tag 3 f0.slot3, slotSample f1.tag 5 f1.slot5)] }
    opu := { s.opu with elapsed := 0 }
    lnk := s.lnk.countFrame }

/-- The part as a frame is counted, before its beat events. -/
def State.counts (s : State) (f0 f1 : InFrame) : State :=
  let u := (s.gathers f0 f1).tunerFrame (slotSample f0.tag 3 f0.slot3)
  { u with tgn := u.tgn.countFrame }

theorem State.countFrame_eq (s : State) (f0 f1 : InFrame) :
    s.countFrame f0 f1 = (s.counts f0 f1).tempoEvents := rfl

theorem State.tunerFrame_notices (s : State) (x : Int) :
    OnlyNotices { s with tun := s.tun.frame x } (s.tunerFrame x) := by
  unfold State.tunerFrame
  dsimp only
  split
  · exact .raise _ _
  · exact .refl _

theorem State.counts_notices (s : State) (f0 f1 : InFrame) : OnlyNotices (s.hears f0 f1) (s.counts f0 f1) :=
  ((s.gathers f0 f1).tunerFrame_notices _).map (f := fun u => { u with tgn := u.tgn.countFrame }) fun _ _ => rfl

theorem State.Evolves.counts {o : State} (h : o.Evolves s) (f0 f1 : InFrame) :
    o.Evolves (s.counts f0 f1) := by
  have gathers : o.Evolves (s.gathers f0 f1) := h.same
  exact (gathers.tunerFrame (x := slotSample f0.tag 3 f0.slot3)).same

/-! ### The aux input word (R186) -/

/-- The aux input word as a frame leaves it. -/
def State.auxWord (s : State) (f : InFrame) : Word16 := (auxWordOf f).getD s.lnk.auxIn

/-- Whether that word is a rise of the power warning. -/
def State.auxRises (s : State) (f : InFrame) : Bool := (s.auxWord f).getLsbD 2 && !s.lnk.auxIn.getLsbD 2

theorem auxWordOf_eq (f : InFrame) :
    auxWordOf f = if f.tag.getLsbD 5 then some (f.slot6.setWidth 16) else none := rfl

theorem State.auxWord_eq (s : State) (f : InFrame) :
    s.auxWord f = if f.tag.getLsbD 5 then f.slot6.setWidth 16 else s.lnk.auxIn := by
  rw [State.auxWord, auxWordOf_eq]
  split <;> rfl

/-- The part with the aux input word of a frame. -/
def State.auxStored (s : State) (f : InFrame) : State := { s with lnk := { s.lnk with auxIn := s.auxWord f } }

theorem State.auxInput_calm {f : InFrame} (calm : s.auxRises f = false) :
    OnlyNotices (s.auxStored f) (s.auxInput f) := by
  unfold State.auxStored State.auxRises at *
  cases word : auxWordOf f with
  | none =>
    simp only [State.auxInput, State.auxWord, word]
    exact .refl s
  | some w =>
    simp only [State.auxWord, word, Option.getD_some] at calm ⊢
    simp only [State.auxInput, word, calm]
    split
    · next same =>
      rw [same]
      exact .refl s
    · exact .raise _ _

theorem State.auxInput_rise {f : InFrame} (rise : s.auxRises f = true) :
    OnlyScene ((s.auxStored f).caused .powerWarn) (s.auxInput f) := by
  have rises := rise
  unfold State.auxRises at rise
  cases word : auxWordOf f with
  | none => simp [State.auxWord, word] at rise
  | some w =>
    have is : s.auxWord f = w := by simp [State.auxWord, word]
    rw [is] at rise
    have changed : w ≠ s.lnk.auxIn := by
      rintro rfl
      simp at rise
    have hands : s.auxInput f = (s.storeAux w).handCause .powerWarn := by
      simp only [State.auxInput, word, if_neg changed, if_pos rise]
    rw [hands, State.auxStored, is]
    have stores : OnlyPorts { s with lnk := { s.lnk with auxIn := w } } (s.storeAux w) :=
      (OnlyNotices.raise _ _).ports
    exact ((stores.map (f := fun u => u.caused .powerWarn) fun u g => u.caused_pif .powerWarn g).scene).trans
      (State.handCause_scene _ .powerWarn)

theorem State.auxInput_invalid {f : InFrame} (invalid : f.tag.getLsbD 5 = false) : s.auxInput f = s := by
  simp only [State.auxInput, auxWordOf_eq, invalid, Bool.false_eq_true, if_false]

/-! ### The secondary ready bit (R173, R183) -/

/-- Whether an access stays as the secondary ready bit becomes `b`. -/
def Lnk.keeps (k : Lnk) (b : Bool) (a : Access) : Bool :=
  !(k.secondary && !b && decide (a.target = .secondary))

/-- The link with the secondary ready bit of a frame. -/
def State.secondarySet (s : State) (b : Bool) : State :=
  { s with lnk := { s.lnk with secondary := b, queue := s.lnk.queue.filter (s.lnk.keeps b) } }

theorem State.secondarySet_stays (stays : s.lnk.secondary = true → b = true) :
    s.secondarySet b = { s with lnk := { s.lnk with secondary := b } } := by
  have all : s.lnk.keeps b = fun _ => true := by
    funext a
    cases up : s.lnk.secondary
    · simp [Lnk.keeps, up]
    · simp [Lnk.keeps, stays up]
  rw [State.secondarySet, all, List.filter_true]

theorem State.secondaryBit_stays (stays : s.lnk.secondary = true → b = true) :
    OnlyNotices (s.secondarySet b) (s.secondaryBit b) := by
  have same : s.secondaryBit b = s.setSecondary b := if_neg (by
    cases up : s.lnk.secondary
    · simp
    · simp [stays up])
  rw [State.secondarySet_stays stays, same]
  exact s.setSecondary_notices b

theorem State.secondaryBit_drops (up : s.lnk.secondary = true) (down : b = false) :
    s.secondaryBit b = (s.setSecondary b).endAccesses (fun a => decide (a.target = .secondary)) .converter :=
  if_pos (by simp [up, down])

theorem State.secondaryBit_ports (s : State) (b : Bool) : OnlyPorts (s.secondarySet b) (s.secondaryBit b) := by
  by_cases stays : s.lnk.secondary = true → b = true
  · exact (State.secondaryBit_stays stays).ports
  · obtain ⟨up, down⟩ := Classical.not_imp.mp stays
    have down : b = false := by simpa using down
    have kept : (fun a : Access => !decide (a.target = .secondary)) = s.lnk.keeps b := by
      funext a
      simp [Lnk.keeps, up, down]
    rw [State.secondaryBit_drops up down, State.secondarySet, ← kept]
    exact ((s.setSecondary_notices b).ports.map (f := fun u => { u with lnk := { u.lnk with
      queue := u.lnk.queue.filter fun a => !decide (a.target = .secondary) } }) fun _ _ => rfl).trans
      (State.endAccesses_ports _ _ _)

/-- The requester of a READ that is ended is answered, whatever is ended with it. -/
theorem State.foldl_endAccess_entry {c : ReadEnd} {tk : Ticket} {tag : Byte} {kind : Nat} {a : Access}
    (read : a.data = none) (owner : a.owner = some tk) : ∀ (as : List Access) (s : State), a ∈ as →
    s.pif.entry tk = some (.reserved tag kind) →
    (as.foldl (State.endAccess c) s).pif.entry tk = some (.filled {
      tag := tag, kind := kind, status := .aborted, fields := .readEnded c })
  | [], _, within, _ => by simp at within
  | x :: xs, s, within, reserved => by
    by_cases own : x.owner = some tk ∧ x.data = none
    · have first : (s.endAccess c x).pif.entry tk = some (.filled {
          tag := tag, kind := kind, status := .aborted, fields := .readEnded c }) := by
        simp only [State.endAccess, own]
        exact State.answer_entry _ _ reserved
      exact (State.Evolves.foldl_endAccess xs (.refl _)).entry_filled first
    · have rest : a ∈ xs := by
        rcases List.mem_cons.mp within with rfl | rest
        · exact absurd ⟨owner, read⟩ own
        · exact rest
      refine State.foldl_endAccess_entry read owner xs _ rest ?_
      unfold State.endAccess
      split
      · next t is none => rw [State.answer_entry_ne _ _ fun same => own ⟨by rw [is, same], none⟩, reserved]
      · exact reserved

theorem State.secondaryBit_entry {tk : Ticket} {tag : Byte} {kind : Nat} {a : Access} (within : a ∈ s.lnk.queue)
    (gone : s.lnk.keeps b a = false) (read : a.data = none) (owner : a.owner = some tk)
    (reserved : s.pif.entry tk = some (.reserved tag kind)) :
    (s.secondaryBit b).pif.entry tk = some (.filled {
      tag := tag, kind := kind, status := .aborted, fields := .readEnded .converter }) := by
  obtain ⟨⟨up, down⟩, target⟩ : (s.lnk.secondary = true ∧ b = false) ∧ a.target = .secondary := by
    simpa [Lnk.keeps] using gone
  rw [State.secondaryBit_drops up down]
  have sets := s.setSecondary_notices b
  refine State.foldl_endAccess_entry read owner _ _ (List.mem_filter.mpr ⟨?_, by simpa using target⟩) ?_
  · rw [sets.1]
    exact within
  · exact (sets.entry tk).trans reserved

end Sys2Proof.Machine

/-! PROOFS. A frame received, by link state (R172, R173, R175, R186). -/

namespace Sys2Proof.Machine

variable {s t : State} {f0 f1 : InFrame}

/-- What falls due in a frame received is the due commands in a row. -/
theorem frameReceived_ends (free : s.por = false) (due : s.settle = s) {w : State} (is : s.frameIn f0 f1 = w) :
    exec (.frameReceived f0 f1) s = .next w.settle ∧ runAll dueCommands w = .next w.settle ∧
    (w.settle = w → w.settle = w) := by
  subst is
  have por : (s.frameIn f0 f1).por = false := (State.Evolves.frameIn (.refl s)).2.1.trans free
  exact ⟨exec_frameReceived f0 f1 free due, runAll_dueCommands por, id⟩

/-! ### In RUNNING, the primary ready -/

/-- The part before a frame received in RUNNING is counted. -/
def State.reads (s : State) (f0 f1 : InFrame) : State :=
  ((s.secondaryBit (readyBit f1.tag)).auxInput f0).storeEchoes f0 f1

theorem State.frameIn_running (running : s.lnk.state = .running) (ready : f0.tag.getLsbD 23 = true) :
    s.frameIn f0 f1 = ((s.reads f0 f1).counts f0 f1).tempoEvents := by
  simp only [State.frameIn, running]
  exact if_pos ready

theorem State.secondaryBit_rises (s : State) (b : Bool) (f : InFrame) :
    (s.secondaryBit b).auxRises f = s.auxRises f := by
  rw [s.secondaryBit_ports b]
  rfl

/-- A frame without a rise of the power warning, up to what the ports show. -/
theorem State.reads_calm (calm : s.auxRises f0 = false) :
    OnlyPorts (((s.secondarySet (f1.tag.getLsbD 23)).auxStored f0).storeEchoes f0 f1) (s.reads f0 f1) :=
  ((s.secondaryBit_ports _).map (f := fun u => (u.auxStored f0).storeEchoes f0 f1) fun _ _ => rfl).trans <|
    (State.auxInput_calm ((s.secondaryBit_rises _ f0).trans calm)).ports.map
      (f := fun u => u.storeEchoes f0 f1) fun _ _ => rfl

theorem State.reads_quiet (calm : s.auxRises f0 = false)
    (stays : s.lnk.secondary = true → f1.tag.getLsbD 23 = true) : (s.reads f0 f1).pif.quiet = s.pif.quiet :=
  (State.auxInput_calm ((s.secondaryBit_rises _ f0).trans calm)).2.trans (State.secondaryBit_stays stays).2

/-- A frame with a rise of the power warning (R156). -/
theorem State.reads_rise (rise : s.auxRises f0 = true) :
    OnlyScene ((((s.secondarySet (f1.tag.getLsbD 23)).auxStored f0).caused .powerWarn).storeEchoes f0 f1)
      (s.reads f0 f1) :=
  (((s.secondaryBit_ports _).map (f := fun u => ((u.auxStored f0).caused .powerWarn).storeEchoes f0 f1)
    fun u g => congrArg (State.storeEchoes · f0 f1) ((u.auxStored f0).caused_pif .powerWarn g)).scene).trans <|
    (State.auxInput_rise ((s.secondaryBit_rises _ f0).trans rise)).map
      (f := fun u => u.storeEchoes f0 f1) fun _ _ _ => rfl

/-- The reply of a READ that a drop of the secondary ends, before the frame is counted. -/
theorem State.reads_entry {tk : Ticket} {tag : Byte} {kind : Nat} {a : Access} (within : a ∈ s.lnk.queue)
    (gone : s.lnk.keeps (f1.tag.getLsbD 23) a = false) (read : a.data = none) (owner : a.owner = some tk)
    (reserved : s.pif.entry tk = some (.reserved tag kind)) :
    ((s.reads f0 f1).counts f0 f1).pif.entry tk = some (.filled {
      tag := tag, kind := kind, status := .aborted, fields := .readEnded .converter }) :=
  (((State.Evolves.refl _).auxInput (f := f0)).storeEchoes.counts f0 f1).entry_filled
    (State.secondaryBit_entry within gone read owner reserved)

/-! ### In SYNCING and LOST -/

/-- The part after a frame received in SYNCING. -/
def State.syncs (s : State) (f0 f1 : InFrame) : State :=
  let u := State.storeEchoes { s with lnk := { s.lnk with
    primary := f0.tag.getLsbD 23, secondary := f1.tag.getLsbD 23, auxIn := s.auxWord f0 } } f0 f1
  if f0.tag.getLsbD 23 then (u.linked .running).removeReason .standby else u

theorem State.syncingFrame_notices (calm : s.auxRises f0 = false) :
    OnlyNotices (s.syncs f0 f1) (s.syncingFrame f0 f1) := by
  let v := (s.setPrimary (readyBit f0.tag)).setSecondary (readyBit f1.tag)
  have readies : OnlyNotices { s with lnk := { s.lnk with
      primary := f0.tag.getLsbD 23, secondary := f1.tag.getLsbD 23 } } v :=
    ((s.setPrimary_notices (readyBit f0.tag)).map
      (f := fun u => { u with lnk := { u.lnk with secondary := f1.tag.getLsbD 23 } }) fun _ _ => rfl).trans
      (State.setSecondary_notices _ _)
  have calm' : v.auxRises f0 = false := by
    rw [readies.1]
    exact calm
  have reads : OnlyNotices _ ((v.auxInput f0).storeEchoes f0 f1) :=
    (readies.map (f := fun u => (u.auxStored f0).storeEchoes f0 f1) fun _ _ => rfl).trans
      ((State.auxInput_calm calm').map (f := fun u => u.storeEchoes f0 f1) fun _ _ => rfl)
  by_cases ready : f0.tag.getLsbD 23 = true
  · have after : s.syncs f0 f1 = _ := if_pos ready
    have enters : s.syncingFrame f0 f1 = ((v.auxInput f0).storeEchoes f0 f1).enterRunning := if_pos ready
    rw [after, enters]
    exact (reads.map (f := fun u => (u.linked .running).removeReason .standby) fun _ _ => rfl).trans
      ((State.linkTo_notices _ .running none).map (f := fun u => u.removeReason .standby) fun _ _ => rfl)
  · have after : s.syncs f0 f1 = _ := if_neg ready
    have stays : s.syncingFrame f0 f1 = (v.auxInput f0).storeEchoes f0 f1 := if_neg ready
    rw [after, stays]
    exact reads

theorem State.frameIn_syncing (syncing : s.lnk.state = .syncing) : s.frameIn f0 f1 = s.syncingFrame f0 f1 := by
  simp only [State.frameIn, syncing]

theorem State.frameIn_lost (lost : s.lnk.state = .lost) :
    s.frameIn f0 f1 = (s.linkTo .syncing none).syncingFrame f0 f1 := by
  simp only [State.frameIn, lost]

theorem State.frameIn_idle
    (idle : s.lnk.state = .off ∨ s.lnk.state = .coldStart ∨ s.lnk.state = .resting ∨ s.lnk.state = .waking) :
    s.frameIn f0 f1 = s := by
  rcases idle with is | is | is | is <;> simp only [State.frameIn, is]

/-! ### The primary lost in RUNNING (R173) -/

/-- The part as a frame that shows the primary not ready is counted, before its beat events. -/
def State.lossCounts (s : State) (f0 f1 : InFrame) : State :=
  (s.secondaryBit (f1.tag.getLsbD 23)).counts f0 f1

theorem State.lossCounts_ports (s : State) (f0 f1 : InFrame) :
    OnlyPorts ((s.secondarySet (f1.tag.getLsbD 23)).hears f0 f1) (s.lossCounts f0 f1) :=
  ((s.secondaryBit_ports _).map (f := fun u => u.hears f0 f1) fun _ _ => rfl).trans
    (State.counts_notices _ f0 f1).ports

/-- A frame in RUNNING with the primary not ready, no aux word, and its block not yet whole. -/
theorem State.frameIn_loss (running : s.lnk.state = .running) (down : f0.tag.getLsbD 23 = false)
    (invalid : f0.tag.getLsbD 5 = false) (short : s.sen.gathered.length < 15) :
    s.frameIn f0 f1 = (s.lossCounts f0 f1).tempoEvents.converterLost.storeEchoes f0 f1 := by
  let v := (s.lossCounts f0 f1).tempoEvents
  have gathered : v.sen.gathered = s.sen.gathered ++
      [(slotSample f0.tag 3 f0.slot3, slotSample f1.tag 5 f1.slot5)] := by
    rw [show v = _ from (s.lossCounts f0 f1).tempoEvents_tempo, s.lossCounts_ports f0 f1]
    rfl
  have notWhole : v.wholeBlock = v := if_neg (by rw [gathered, List.length_append]; simp; omega)
  have calm : v.warns f0 = false := by simp only [State.warns, auxWordOf_eq, invalid]; rfl
  have loses : s.frameIn f0 f1 = s.lossFrame f0 f1 := by
    simp only [State.frameIn, running]
    exact if_neg (by rw [readyBit, down]; decide)
  rw [loses]
  have drops : s.lossFrame f0 f1 =
      (v.wholeBlock.converterLost.auxInput f0).storeEchoes f0 f1 := if_neg (by
    show ¬v.wholeBlock.warns f0 = true
    rw [notWhole, calm]
    decide)
  rw [drops, notWhole, State.auxInput_invalid invalid]

theorem State.converterLost_scene (s : State) :
    OnlyScene ((s.setPrimary false).departed .syncing .converterLost) s.converterLost :=
  State.departBy_scene _ .syncing .converter .converterLost

end Sys2Proof.Machine

/-! PROOFS. FRAME_RECEIVED in every state of the link. -/

namespace Sys2Proof.Machine

variable {s t : State} {f0 f1 : InFrame}

/-- The part in FAULT on a rise of the power warning. -/
theorem State.caused_clear (clear : s.opu.fault = none) (c : Cause) :
    (s.caused c).sen.engine = .fault ∧ (s.caused c).sen.gathered = s.sen.gathered ∧
    (s.caused c).opu.gain = 0 ∧ (s.caused c).opu.gainState = .muted ∧
    (s.caused c).opu.fault = some (s.faultRecord c) ∧ (s.caused c).lnk = s.lnk.holdRest s.opu.gain ∧
    (s.caused c).tgn = s.tgn := by
  have enters : s.caused c = { s.stopEngine .fault with
      opu := { s.opu.inFault (s.faultRecord c) with
        reasons := { s.opu.reasons.faulted with
          switchGap := if s.scn.phase = .steady then s.opu.reasons.switchGap else false } }
      lnk := s.lnk.holdRest s.opu.gain } := by simp only [State.caused, clear]
  rw [enters]
  exact ⟨rfl, rfl, rfl, rfl, rfl, rfl, rfl⟩

theorem State.caused_held {r : FaultRecord} (held : s.opu.fault = some r) (c : Cause) :
    s.caused c = { s with opu := { s.opu with fault := some { r with causes := r.causes.add c } } } := by
  simp only [State.caused, held]

theorem State.syncs_pif (s : State) (g : Pif) (f0 f1 : InFrame) :
    State.syncs { s with pif := g } f0 f1 = { s.syncs f0 f1 with pif := g } := by
  by_cases ready : f0.tag.getLsbD 23 = true
  · simp only [State.syncs, if_pos ready]
    rfl
  · simp only [State.syncs, if_neg ready]
    rfl

/-- A frame received in SYNCING or LOST, up to notices. -/
theorem State.frameIn_link (link : s.lnk.state = .syncing ∨ s.lnk.state = .lost) (calm : s.auxRises f0 = false) :
    ∃ v : State, OnlyNotices (v.syncs f0 f1) (s.frameIn f0 f1) ∧
      v.lnk = { s.lnk with state := .syncing, time := if s.lnk.state = .lost then 0 else s.lnk.time } ∧
      v.opu.reasons = s.opu.reasons ∧ v.opu.gain = s.opu.gain ∧ v.opu.relay = s.opu.relay ∧
      v.opu.fault = s.opu.fault ∧ v.sen = s.sen ∧ v.tgn = s.tgn ∧ v.tun = s.tun ∧ v.scn = s.scn ∧ v.spl = s.spl ∧
      v.pif.quiet = s.pif.quiet := by
  rcases link with is | is
  · refine ⟨s, ?_, ?_, rfl, rfl, rfl, rfl, rfl, rfl, rfl, rfl, rfl, rfl⟩
    · rw [State.frameIn_syncing is]
      exact State.syncingFrame_notices calm
    · rw [is, if_neg (by decide), ← is]
  · have begins := s.linkTo_notices .syncing none
    refine ⟨s.linked .syncing, ?_, ?_, rfl, rfl, rfl, rfl, rfl, rfl, rfl, rfl, rfl, rfl⟩
    · rw [State.frameIn_lost is]
      have calm' : (s.linkTo .syncing none).auxRises f0 = false := by
        rw [begins.1]
        exact calm
      exact (begins.map (f := fun u => u.syncs f0 f1) fun u g => u.syncs_pif g f0 f1).trans
        (State.syncingFrame_notices calm')
    · rw [is, if_pos rfl]
      rfl

/-! ### The primary lost (R173) -/

/-- What the count of the frame and its beats leave. -/
theorem State.lossCounts_facts (s : State) (f0 f1 : InFrame) :
    let v := (s.lossCounts f0 f1).tempoEvents
    v.lnk.secondary = f1.tag.getLsbD 23 ∧ v.tun = s.tun.frame (slotSample f0.tag 3 f0.slot3) ∧
    v.sen.blockCount = s.sen.blockCount ∧ v.sen.engine = s.sen.engine ∧ v.opu.fault = s.opu.fault ∧
    v.scn = s.scn := by
  intro v
  rw [show v = _ from (s.lossCounts f0 f1).tempoEvents_tempo, s.lossCounts_ports f0 f1]
  exact ⟨rfl, rfl, rfl, rfl, rfl, rfl⟩

theorem OnlyScene.parts (h : OnlyScene s t) : t.lnk = s.lnk ∧ t.opu = s.opu ∧ t.sen = s.sen ∧ t.tun = s.tun ∧
    t.tgn = s.tgn := by
  rw [h]
  exact ⟨rfl, rfl, rfl, rfl, rfl⟩

theorem State.converterLost_facts (s : State) :
    let w := s.converterLost
    (∃ held, w.lnk = { s.lnk with
      state := .syncing, time := 0, queue := [], levelPending := none, restPending := none, restHeld := held
      primary := false }) ∧
    w.sen.gathered = [] ∧ w.sen.blockCount = s.sen.blockCount ∧ w.tun = s.tun.linkDown ∧ w.tgn = s.tgn ∧
    w.opu.elapsed = 0 ∧
    (s.opu.fault = none → w.sen.engine = .fault ∧ w.opu.gain = 0 ∧ w.opu.gainState = .muted ∧
      w.opu.fault = some (s.faultRecord .converterLost)) ∧
    (∀ r, s.opu.fault = some r → w.sen.engine = s.sen.engine ∧
      w.opu.fault = some { r with causes := r.causes.add .converterLost }) := by
  intro w
  obtain ⟨link, unit, engine, tuner, tempo⟩ := s.converterLost_scene.parts
  have primary := (s.setPrimary_notices false).1
  have fault : (s.setPrimary false).opu.fault = s.opu.fault := congrArg (·.opu.fault) primary
  have bit : (s.setPrimary false).lnk = { s.lnk with primary := false } := congrArg State.lnk primary
  have sen : (s.setPrimary false).sen = s.sen := (congrArg State.sen primary :)
  have scn : (s.setPrimary false).scn = s.scn := (congrArg State.scn primary :)
  have record : (s.setPrimary false).faultRecord .converterLost = s.faultRecord .converterLost := by
    rw [State.faultRecord, sen, scn]
    rfl
  obtain ⟨⟨held, lnk⟩, gathered, blocks, tun, tgn, -, elapsed, -⟩ :=
    (s.setPrimary false).departed_link .syncing .converterLost
  refine ⟨⟨held, ?_⟩, (congrArg Sen.gathered engine).trans gathered,
    (congrArg Sen.blockCount engine).trans (blocks.trans (congrArg Sen.blockCount sen)),
    tuner.trans (tun.trans (congrArg (·.tun.linkDown) primary :)),
    tempo.trans (tgn.trans (congrArg State.tgn primary :)), (congrArg Opu.elapsed unit).trans elapsed,
    fun clear => ?_, fun r is => ?_⟩
  · rw [link, lnk, bit]
  · obtain ⟨stopped, gain, muted, -, first, -⟩ :=
      State.departed_clear (fault.trans clear) .syncing .converterLost
    exact ⟨(congrArg Sen.engine engine).trans stopped, (congrArg Opu.gain unit).trans gain,
      (congrArg Opu.gainState unit).trans muted,
      (congrArg Opu.fault unit).trans (first.trans (congrArg some record))⟩
  · obtain ⟨stays, -, added⟩ := State.departed_held (fault.trans is) .syncing .converterLost
    exact ⟨(congrArg Sen.engine engine).trans ((congrArg Sen.engine stays).trans (congrArg Sen.engine sen :)),
      (congrArg Opu.fault unit).trans added⟩

end Sys2Proof.Machine

namespace Sys2Proof

open Machine

/-- Settles O52. -/
theorem frameReceivedByLinkState : Obligations.FrameReceivedByLinkState := by
  intro s f0 f1 free due valid word warns x ret echo beats ends counted warned added
  have word_eq : s.auxWord f0 = word := s.auxWord_eq f0
  have rises : s.auxRises f0 = warns := by
    unfold State.auxRises
    rw [word_eq]
  have countedAs : ∀ {u v : State}, OnlyScene (v.hears f0 f1) u → v.tgn = s.tgn → u.tgn = counted := by
    intro u v h same
    rw [h]
    exact congrArg Tgn.countFrame same
  have porOf : ∀ {u : State}, s.Evolves u → u.por = false := fun h => h.2.1.trans free
  let stored := (s.secondarySet (f1.tag.getLsbD 23)).auxStored f0
  have auxIn : stored.lnk.auxIn = word := word_eq
  have risen := fun rise : warns = true =>
    ((State.reads_rise (f1 := f1) (rises.trans rise)).map (f := fun v => v.hears f0 f1) fun _ _ _ => rfl).trans
      (State.counts_notices _ f0 f1).ports.scene
  refine ⟨fun idle => ?_, fun running ready calm => ?_, fun running ready rise clear => ?_,
    fun rec_ running ready rise held => ?_, fun link calm => ?_, fun running down invalid short => ?_⟩
  · rw [exec_frameReceived f0 f1 free due, State.frameIn_idle idle, due]
  · intro kept
    have calm' := rises.trans calm
    let u := (s.reads f0 f1).counts f0 f1
    have reads := State.reads_calm (f1 := f1) calm'
    have ports : OnlyPorts
        ((((s.secondarySet (f1.tag.getLsbD 23)).auxStored f0).storeEchoes f0 f1).hears f0 f1) u :=
      (reads.map (f := fun v => v.hears f0 f1) fun _ _ => rfl).trans (State.counts_notices _ f0 f1).ports
    have por : u.por = false := (congrArg State.por ports).trans free
    refine ⟨u, _, _, runAll_tempoEvents por, frameReceived_ends free due (State.frameIn_running running ready),
      por, ?_⟩
    have quiet := fun stays => (State.counts_notices (s.reads f0 f1) f0 f1).2.trans
      (State.reads_quiet (f1 := f1) calm' stays)
    refine ⟨?_, ?_, ?_, ?_, ?_, ?_, ?_, ?_, ?_, quiet, fun a tk tag kind within gone read owner reserved =>
      State.reads_entry within gone read owner reserved⟩
    all_goals rw [ports]
    · rfl
    · rfl
    · rfl
    · rfl
    · rw [← word_eq]
      rfl
    · rfl
    · rfl
    · rfl
    · rfl
  · let u := (s.reads f0 f1).counts f0 f1
    have scene : OnlyScene (((stored.caused .powerWarn).storeEchoes f0 f1).hears f0 f1) u := risen rise
    have tempo := u.tempoEvents_tempo
    obtain ⟨engine, gathered, gain, muted, record, lnk, tgn⟩ := State.caused_clear (s := stored) clear .powerWarn
    have isWarned : warned u := by
      rw [scene]
      exact ⟨(congrArg Lnk.state lnk).trans running, (congrArg Lnk.auxIn lnk).trans auxIn, engine, gain, muted,
        (congrArg Lnk.restPending lnk :), (congrArg Lnk.restHeld lnk :), record⟩
    refine ⟨u, _, _, runAll_tempoEvents ?_, frameReceived_ends free due (State.frameIn_running running ready),
      ?_, countedAs scene tgn, isWarned, ?_⟩
    · exact porOf (State.Evolves.counts (State.Evolves.auxInput (State.Evolves.secondaryBit (.refl s))).storeEchoes
        f0 f1)
    · rw [scene]
      exact congrArg (· ++ [(x, ret)]) gathered
    · rw [tempo]
      exact isWarned
  · let u := (s.reads f0 f1).counts f0 f1
    have scene : OnlyScene (((stored.caused .powerWarn).storeEchoes f0 f1).hears f0 f1) u := risen rise
    rw [State.caused_held (s := stored) held] at scene
    have tempo := u.tempoEvents_tempo
    have isAdded : added rec_ u := by
      rw [scene]
      exact ⟨running, auxIn, rfl, rfl⟩
    refine ⟨u, _, _, runAll_tempoEvents ?_, frameReceived_ends free due (State.frameIn_running running ready),
      ?_, countedAs scene rfl, isAdded, ?_⟩
    · exact (congrArg State.por scene).trans free
    · rw [scene]
      rfl
    · rw [tempo]
      exact isAdded
  · have calm' := rises.trans calm
    obtain ⟨v, frame, lnk, reasons, gain, relay, fault, sen, tgn, tun, scn, spl, quiet⟩ :=
      State.frameIn_link (f1 := f1) link calm'
    have wordAt : v.auxWord f0 = word := by
      rw [← word_eq, State.auxWord, State.auxWord, lnk]
    refine ⟨_, _, frameReceived_ends free due rfl, ?_⟩
    obtain ⟨eq, notices⟩ := frame
    rw [notices, eq]
    by_cases ready : f0.tag.getLsbD 23 = true
    · have syncs : v.syncs f0 f1 = _ := if_pos ready
      rw [syncs]
      refine ⟨?_, fun _ => ?_, fun down => absurd ready (by rw [down]; decide), gain, relay, fault,
        sen, tgn, tun, scn, spl, quiet⟩
      · rw [if_pos ready, if_pos (.inl ready)]
        show { v.lnk with
          state := .running, time := 0, primary := f0.tag.getLsbD 23, secondary := f1.tag.getLsbD 23
          auxIn := v.auxWord f0, echo0 := echoOf f0, echo1 := echoOf f1 } = _
        rw [wordAt, lnk]
        rfl
      · exact congrArg (fun m : MuteSet => { m with standby := false }) reasons
    · have syncs : v.syncs f0 f1 = _ := if_neg ready
      rw [syncs]
      refine ⟨?_, fun up => absurd up ready, fun _ => reasons, gain, relay, fault, sen, tgn, tun, scn, spl, quiet⟩
      rw [if_neg ready, if_congr (or_iff_right ready) rfl rfl]
      show { v.lnk with
        primary := f0.tag.getLsbD 23, secondary := f1.tag.getLsbD 23, auxIn := v.auxWord f0
        echo0 := echoOf f0, echo1 := echoOf f1 } = _
      rw [wordAt, lnk]
      rfl
  · have ports := s.lossCounts_ports f0 f1
    have por := (congrArg State.por ports).trans free
    have state : (s.lossCounts f0 f1).lnk.state = .running := (congrArg (·.lnk.state) ports).trans running
    have tgn' : (s.lossCounts f0 f1).tgn = counted := congrArg State.tgn ports
    have is := State.frameIn_loss (f1 := f1) running down invalid short
    refine ⟨_, _, _, _, por, state, tgn', runAll_tempoEvents por, frameReceived_ends free due is, ?_⟩
    obtain ⟨secondary, tuner, count, engine, fault, scn⟩ := s.lossCounts_facts f0 f1
    obtain ⟨⟨held, lnk⟩, gathered, blocks, tun, tgn, elapsed, first, further⟩ :=
      (s.lossCounts f0 f1).tempoEvents.converterLost_facts
    have downTun := tun.trans (congrArg Tun.linkDown tuner)
    generalize (s.lossCounts f0 f1).tempoEvents = v at *
    generalize v.converterLost = l at *
    refine ⟨tgn, (congrArg Tun.timebase downTun :), (congrArg Tun.readingCount downTun :), congrArg Lnk.state lnk,
      congrArg Lnk.time lnk, congrArg Lnk.primary lnk, (congrArg Lnk.secondary lnk).trans secondary,
      congrArg Lnk.queue lnk, congrArg Lnk.levelPending lnk, congrArg Lnk.restPending lnk, gathered,
      blocks.trans count, congrArg Tun.prevSample downTun, congrArg Tun.returned downTun, elapsed,
      fun clear => ?_, fun rec_ held => ?_⟩
    · obtain ⟨stopped, gain, muted, record⟩ := first (fault.trans clear)
      refine ⟨stopped, gain, muted, record.trans ?_⟩
      rw [State.faultRecord, count, scn]
      rfl
    · obtain ⟨stays, record⟩ := further rec_ (fault.trans held)
      exact ⟨stays.trans engine, record⟩

end Sys2Proof
